-- ==== Sys2Proof/Word.lean ====
section
/-!
DEFINITION. The word types of the model and their plainest readings.

A register, a descriptor word and an instruction operand of a core are 32-bit words (R1, R3); a byte of
memory is 8 bits (R2). Counts, sizes, indices and addresses are natural numbers.
-/
namespace Sys2Proof

/-- One byte. -/
abbrev Byte := BitVec 8

/-- One 32-bit word: a register, a general register of a core, a word of a descriptor (R1). -/
abbrev Word := BitVec 32

/-- A 40-bit physical address as an operand of a command (R22). -/
abbrev Addr := BitVec 40

/-- An 8-bit agent ID (R18). -/
abbrev AgentId := BitVec 8

/-- A finite table keyed by a number. A key that stands in no entry holds the default that the reader
of the table names. -/
abbrev Tbl (α : Type) := List (Nat × α)

end Sys2Proof
end

