-- ==== Sys2Proof/Syntax.lean ====
section
/-!
DEFINITION. The commands of the block: one constructor per row of spec/opcode_table.json, with its
operands. Operands that say what the outside world did (a frame received, a sample taken, a card's
answer, whether a second piece of logic agreed) are facts the command reports; the rest are what the
sender writes.
-/
namespace Sys2Proof

/-- What of the protected window does not match its MAC (R130–R133): the data of a line of the access, of a line of
its page that a reseal reads, a counter block, or a tree node of a level. -/
inductive SealBad where
  | line (i : Fin 5) | page (i : Fin 64) | block | node (level : Fin 6)
  deriving DecidableEq, Repr

/-- A physical upset that an access meets (R31, R107, R116, R125, R133, R137): bad parity on the request, on
write data or on the response, a parity error in the register read, a correctable or an uncorrectable
error of the access's SRAM or code word number `word`, a line of DRAM altered or replayed from outside the device with
its cipher text, or metadata that does not match. -/
inductive Upset where
  | none | reqParity | dataParity | rspParity | regParity
  | correctable (word : Fin 33) | uncorrectable (word : Fin 33)
  | altered (cipher : List Byte)
  | seal (bad : SealBad)
  deriving DecidableEq, Repr

/-- Whose access an answer, a timeout or a second verdict is for: one that waits on the fabric, by its number, or the
accesses that an agent makes within a command and that touch a byte of an address. -/
inductive RspOf where
  | flight (id : Nat)
  | next (agent : AgentId) (addr : Addr)
  deriving DecidableEq, Repr

/-- The kind of a fabric access (R95). -/
inductive AccKind where
  | read | write | fetch
  deriving DecidableEq, Repr

/-- How an access is issued: its kind, and the ordering with which (R70, R100): 0 relaxed, 1 ordered, 2 device. -/
structure AccHow where
  kind : AccKind
  order : Fin 3 := 0
  deriving DecidableEq, Repr

/-- A .ALL cache operation of a core (R72): `cut` lines are done when an interrupt comes that the core takes. -/
structure AllOp where
  core : Fin 11
  cut : Option Nat := none
  deriving DecidableEq, Repr

/-- A unit whose segment completes, with a mismatch of its duplicated computation in the last block or without (R207,
R223). -/
structure UnitEnd (n : Nat) where
  unit : Fin n
  fault : Bool := false
  deriving DecidableEq, Repr

/-- What of an erase on a flash channel is complete (R142): its steps in turn, or all that remains of it. -/
structure ErasePart where
  chan : Fin 2
  step : Fin 4 := 3
  deriving DecidableEq, Repr

/-- What a key draw of the key store is for (R114, R115, R122, R129). -/
inductive DrawFor where
  | rekey | bank (n : Fin 8) | ddr | mseal
  deriving DecidableEq, Repr

/-- A request received by the tag island (R295): its flags, the identifier of an addressed request, whether
its CRC holds, and whether the storage capacitor held the energy of a write cycle (R306). -/
structure TagReq where
  flags : Byte
  uid : List Byte
  crc : Bool
  reserve : Bool
  deriving DecidableEq, Repr

/-- A contact card's answer to reset (R312–R314): the bytes after the convention is applied, and its PPS
response, none when it stayed silent. -/
structure CardAtr where
  bytes : List Byte
  pps : Option (List Byte)
  deriving DecidableEq, Repr

/-- What happened on a contact card's I/O line (R317): nothing, bytes of the C-APDU have left (all of them
or not), the card's answers, recovery exhausted on T=1, or a character that stayed unreadable; with the
parity, LRC and CRC errors met. -/
inductive CardLine where
  | silent
  | left (all : Bool)
  | answer (parts : List (List Byte)) (errs : Nat)
  | lost (errs : Nat)
  | parity (errs : Nat)
  deriving DecidableEq, Repr

/-- How a CMD6 switch went on an SD card (R320): the check names the mode, the switch names it, tuning
succeeded. -/
structure SdSwitch where
  check : Bool
  switched : Bool
  tuned : Bool
  deriving DecidableEq, Repr

/-- An SD card's answers to INIT (R319–R321): it answers at all, it is SDHC or SDXC, it accepts 1.8 V and
that step held, its CID, its capacity in blocks, and the speed switch. -/
structure SdInit where
  answers : Bool
  supported : Bool
  s18a : Bool
  v18 : Bool
  cid : List Byte
  blocks : Nat
  speed : SdSwitch
  deriving DecidableEq, Repr

/-- What an SD card gave to a READ (R322): the blocks, a CRC error, no answer in time, a status error. -/
inductive SdData where
  | blocks (bs : List Byte) | crc | timeout | cardError
  deriving DecidableEq, Repr

/-- What the DSP measured over a one-second block (R348). `p`, `q`, `sApp` and `dc` are the block's
active, reactive, apparent and DC energies in units of 2^-32 mWh; `urms` and `irms` U1–U4 in mV and I1–I4
in 0.1 mA; `freq` in mHz; `udc` in mV, `idc` in 0.1 mA, `temp` in 0.1 °C; `flags` the fault flags;
`harm` the 40 harmonic magnitudes of each AC channel. -/
structure AfeBlock where
  p : Int
  q : Int
  sApp : Nat
  dc : Int
  urms : List Word
  irms : List Word
  freq : Word
  udc : Word
  idc : Word
  temp : Word
  flags : Word
  harm : List (List (BitVec 16))
  deriving DecidableEq, Repr

/-- What a Vine packet carries (R403); the spec names the contents of a packet and gives most no layout.
`hello`: the sender's serial, ID, depth and membership, and whether the port it was sent on is the sender's
upstream port (R407). `assign`: code 0 accepts, another is the STATE code of the refusal (R408). `credit`:
credits returned, the class and LSEQ acknowledged, and for a NAK the class and LSEQ expected (R404). `twin`: the
TYPE of R424, the record or acknowledged SEQ, and the payload. -/
inductive VBody where
  | hello (serial id depth : Nat) (member up : Bool)
  | join (serial pref tag hops : Nat)
  | assign (id code tag hops : Nat)
  | leave (id : Nat)
  | rread (tag off size : Nat)
  | rwrite (tag off size data : Nat)
  | rresp (tag status data : Nat)
  | msg (tag chan count : Nat) (payload : List Byte)
  | msgack (tag code : Nat)
  | sync
  | syncack
  | time (now : Nat)
  | snap (no target : Nat)
  | snapreq
  | credit (req rsp msg : Nat) (ack : Option (Nat × Nat)) (nak : Option (Nat × Nat))
  | twin (typ seq : Nat) (payload : List Byte)
  deriving DecidableEq, Repr

/-- A Vine packet (R402): link sequence number, destination, origin and contents. -/
structure VPkt where
  lseq : Nat := 0
  dst : Nat := 0
  src : Nat := 0
  body : VBody
  deriving DecidableEq, Repr

/-- A command (a row of spec/opcode_table.json). -/
inductive Instr where
  /-- REGISTER_WRITE (R3): An aligned 32-bit write to a register that has no row of its own; any other width or alignment is refused with a fault. -/
  | registerWrite (agent : AgentId) (addr : Addr) (size : BitVec 8) (value : Word)
  /-- READ_CLEAR (R85): A read of an RC register returns its value and then clears the field. -/
  | readClear (agent : AgentId) (page : Fin 320) (off : Fin 4096) (hw : Word)
  /-- PAIRED_WRITE_PRIMARY (R6): A write to an RWP register is held pending and opens a 32-cycle window; a new write replaces and discards the earlier pending one. -/
  | pairedWritePrimary (agent : AgentId) (page : Fin 320) (off : Fin 4096) (value : Word)
  /-- PAIRED_WRITE_COMPLEMENT (R6): A write to an _N partner completes a pending paired write, or is discarded with ERR.PAIR and a LOG alarm. -/
  | pairedWriteComplement (agent : AgentId) (page : Fin 320) (off : Fin 4096) (value : Word)
  /-- PAIR_WINDOW_EXPIRY (R6): The 32-cycle window of a pending paired write expires: the write is discarded and ERR.PAIR and a LOG alarm are raised. -/
  | pairWindowExpiry (page : Fin 320) (off : Fin 4096)
  /-- LOCK_SET (R8): A W1S write to a LOCK register locks the RWL fields it covers until the reset named for that lock. -/
  | lockSet (agent : AgentId) (page : Fin 320) (value : Word)
  /-- BLOCK_RESET (R10): A write of CTRL.SRST sets the page's registers to their W values, sparing cold-reset locks and snapshot copies. -/
  | blockReset (agent : AgentId) (page : Fin 320)
  /-- SYS_ROLE_WRITE (R13): The one effective paired write of SYS.ROLE per cold reset, accepted from MCORE only, which sets FIXED. -/
  | sysRoleWrite (agent : AgentId) (value : Word) (compl : Word)
  /-- SYS_CORE_DOMAIN_WRITE (R13): The one effective paired write of SYS.CORE_DOMAIN per cold reset, accepted from MCORE only, which sets FIXED. -/
  | sysCoreDomainWrite (agent : AgentId) (value : Word) (compl : Word)
  /-- FABRIC_REQUEST (R95): An access is admitted or refused at its target's gate, after the range check of R22 and R25. -/
  | fabricRequest (agent : AgentId) (addr : Addr) (size : Fin 257) (how : AccHow) (data : List Byte) (upset : Upset)
  /-- GATE_SECOND_VERDICT (R105): The second verdict on page 0x49 or pages 0x80-0x84, taken 1-64 cycles after the first; a mismatch refuses the access with TWICE. -/
  | gateSecondVerdict (who : RspOf) (agrees : Bool)
  /-- FABRIC_RESPONSE (R106): A response returns through its gate to the initiator; a response arriving after the timeout is discarded and counted in LATE_CNT. -/
  | fabricResponse (who : RspOf) (upset : Upset)
  /-- FABRIC_TIMEOUT (R109): The timeout count of a request expires at the initiator's port; the request fails with TIMEOUT. -/
  | fabricTimeout (who : RspOf)
  /-- GATE_COMMIT (R102): A paired write of GATEnn.COMMIT copies the staging rules into the active set and starts a new epoch, or is refused. -/
  | gateCommit (gate : Fin 24) (agent : AgentId) (value : Word) (compl : Word)
  /-- IRQ_CLR_WRITE (R29): A write to IRQ_CLR clears IRQ_RAW bits; a hardware set on the same edge wins. -/
  | irqClrWrite (agent : AgentId) (page : Fin 320) (value : Word) (hw : Word)
  /-- IRQ_EN_WRITE (R29): A write to IRQ_EN recomputes IRQ_STAT at once. -/
  | irqEnWrite (agent : AgentId) (page : Fin 320) (value : Word)
  /-- IRQ_ROUTE_WRITE (R35): A write to an IRQ.ROUTE register by MCORE sets a source's targets and priority. -/
  | irqRouteWrite (agent : AgentId) (src : Fin 320) (value : Word)
  /-- SGI_SET (R35): A write to IRQ.SGI_SET raises software-generated sources. -/
  | sgiSet (agent : AgentId) (value : Word)
  /-- SGI_CLR (R35): A write to IRQ.SGI_CLR clears software-generated sources. -/
  | sgiClr (agent : AgentId) (value : Word)
  /-- SNAP_FIRE (R39): A write of SNAP.FIRE[0] triggers a snapshot, or is counted in DROPPED while the unit is disarmed. -/
  | snapFire (agent : AgentId)
  /-- SNAP_REARM (R39): A write of SNAP.FIRE[1] re-arms the ONESHOT triggers, taking effect ahead of a fire in the same write. -/
  | snapRearm (agent : AgentId) (fire : Bool)
  /-- SNAPIN_RISE (R39): A synchronised rising edge on the SNAPIN ball triggers a snapshot. -/
  | snapinRise
  /-- SNAPSHOT_LATCH (R38): On the latch edge, every enabled and powered page copies its registers, SNAP.SEQ increments and LATCH is set. -/
  | snapshotLatch
  /-- SNAP_PAGE_EN_WRITE (R41): A write to SNAP.PAGE_EN changes the instance-page bits only when MCORE writes it. -/
  | snapPageEnWrite (agent : AgentId) (word : Fin 10) (value : Word)
  /-- ADD (R59): gd := gs + gt. -/
  | add (core : Fin 11) (gd gs gt cf : BitVec 5)
  /-- ADC (R59): Add with carry, which sets C and V. -/
  | adc (core : Fin 11) (gd gs gt cf : BitVec 5)
  /-- SUB (R59): gd := gs - gt. -/
  | sub (core : Fin 11) (gd gs gt cf : BitVec 5)
  /-- SBC (R59): Subtract with carry, which sets C and V. -/
  | sbc (core : Fin 11) (gd gs gt cf : BitVec 5)
  /-- AND (R59): Bitwise and. -/
  | and (core : Fin 11) (gd gs gt cf : BitVec 5)
  /-- IOR (R59): Bitwise or. -/
  | ior (core : Fin 11) (gd gs gt cf : BitVec 5)
  /-- XOR (R59): Bitwise exclusive or. -/
  | xor (core : Fin 11) (gd gs gt cf : BitVec 5)
  /-- ANDN (R59): gs and not gt. -/
  | andn (core : Fin 11) (gd gs gt cf : BitVec 5)
  /-- SHL (R59): Shift left by gt[4:0], or by the c field when t is 0. -/
  | shl (core : Fin 11) (gd gs gt cf : BitVec 5)
  /-- SHR (R59): Logical shift right. -/
  | shr (core : Fin 11) (gd gs gt cf : BitVec 5)
  /-- ASR (R59): Arithmetic shift right. -/
  | asr (core : Fin 11) (gd gs gt cf : BitVec 5)
  /-- ROR (R59): Rotate right. -/
  | ror (core : Fin 11) (gd gs gt cf : BitVec 5)
  /-- CMPLT (R59): Signed less-than compare. -/
  | cmplt (core : Fin 11) (gd gs gt cf : BitVec 5)
  /-- CMPLTU (R59): Unsigned less-than compare. -/
  | cmpltu (core : Fin 11) (gd gs gt cf : BitVec 5)
  /-- GOTOR (R46): Jump to the offset held in gs, after the delay slot. -/
  | gotor (core : Fin 11) (gd gs gt cf : BitVec 5)
  /-- CALLR (R46): Register call, writing PC + 8 to g31. -/
  | callr (core : Fin 11) (gd gs gt cf : BitVec 5)
  /-- MUL (R59): Low word of the product. -/
  | mul (core : Fin 11) (gd gs gt cf : BitVec 5)
  /-- MULL (R64): Signed 64-bit product into the register pair. -/
  | mull (core : Fin 11) (gd gs gt cf : BitVec 5)
  /-- MULLU (R64): Unsigned 64-bit product into the register pair. -/
  | mullu (core : Fin 11) (gd gs gt cf : BitVec 5)
  /-- DIV (R59): Signed quotient; division by zero gives 0xFFFF_FFFF. -/
  | div (core : Fin 11) (gd gs gt cf : BitVec 5)
  /-- DIVU (R59): Unsigned quotient. -/
  | divu (core : Fin 11) (gd gs gt cf : BitVec 5)
  /-- REM (R59): Signed remainder, with the sign of gs. -/
  | rem (core : Fin 11) (gd gs gt cf : BitVec 5)
  /-- REMU (R59): Unsigned remainder. -/
  | remu (core : Fin 11) (gd gs gt cf : BitVec 5)
  /-- CSEL (R63): Constant-time select of gs or gt on gc. -/
  | csel (core : Fin 11) (gd gs gt gc : BitVec 5)
  /-- PAR (R62): Parity of gs. -/
  | par (core : Fin 11) (gd gs cf : BitVec 5)
  /-- BREV_W (R62): Reverse the bits of the word. -/
  | brevW (core : Fin 11) (gd gs cf : BitVec 5)
  /-- BREV_B (R62): Reverse the bits within each byte. -/
  | brevB (core : Fin 11) (gd gs cf : BitVec 5)
  /-- BSWAP (R59): Reverse the byte order. -/
  | bswap (core : Fin 11) (gd gs cf : BitVec 5)
  /-- CLZ (R59): Count leading zero bits. -/
  | clz (core : Fin 11) (gd gs cf : BitVec 5)
  /-- CRCSTEP (R60): Fold one byte into the CRC accumulator. -/
  | crcstep (core : Fin 11) (gd gs gt cf : BitVec 5)
  /-- CRCFIN (R61): Apply the final XOR to the CRC. -/
  | crcfin (core : Fin 11) (gd gs cf : BitVec 5)
  /-- ADDK (R59): Add the sign-extended immediate. -/
  | addk (core : Fin 11) (gd gs : BitVec 5) (imm : BitVec 16)
  /-- ANDK (R59): And with the zero-extended immediate. -/
  | andk (core : Fin 11) (gd gs : BitVec 5) (imm : BitVec 16)
  /-- IORK (R59): Or with the zero-extended immediate. -/
  | iork (core : Fin 11) (gd gs : BitVec 5) (imm : BitVec 16)
  /-- XORK (R59): Exclusive or with the zero-extended immediate. -/
  | xork (core : Fin 11) (gd gs : BitVec 5) (imm : BitVec 16)
  /-- HIK (R59): Load the immediate into the high half of the register. -/
  | hik (core : Fin 11) (gd : BitVec 5) (imm : BitVec 16)
  /-- CMPLTK (R59): Signed less-than compare with the immediate. -/
  | cmpltk (core : Fin 11) (gd gs : BitVec 5) (imm : BitVec 16)
  /-- LDW (R55): Load a word through a segment. -/
  | ldw (core : Fin 11) (gd gb : BitVec 5) (seg : BitVec 3) (imm : BitVec 13) (upset : Upset)
  /-- LDH (R55): Load a sign-extended halfword. -/
  | ldh (core : Fin 11) (gd gb : BitVec 5) (seg : BitVec 3) (imm : BitVec 13) (upset : Upset)
  /-- LDHU (R55): Load a zero-extended halfword. -/
  | ldhu (core : Fin 11) (gd gb : BitVec 5) (seg : BitVec 3) (imm : BitVec 13) (upset : Upset)
  /-- LDB (R55): Load a sign-extended byte. -/
  | ldb (core : Fin 11) (gd gb : BitVec 5) (seg : BitVec 3) (imm : BitVec 13) (upset : Upset)
  /-- LDBU (R55): Load a zero-extended byte. -/
  | ldbu (core : Fin 11) (gd gb : BitVec 5) (seg : BitVec 3) (imm : BitVec 13) (upset : Upset)
  /-- STW (R55): Store a word; relaxed and ordered stores are buffered. -/
  | stw (core : Fin 11) (gd gb : BitVec 5) (seg : BitVec 3) (imm : BitVec 13) (upset : Upset)
  /-- STH (R55): Store a halfword. -/
  | sth (core : Fin 11) (gd gb : BitVec 5) (seg : BitVec 3) (imm : BitVec 13) (upset : Upset)
  /-- STB (R55): Store a byte. -/
  | stb (core : Fin 11) (gd gb : BitVec 5) (seg : BitVec 3) (imm : BitVec 13) (upset : Upset)
  /-- BREQ (R46): Branch if gs equals gt. -/
  | breq (core : Fin 11) (gs gt : BitVec 5) (off : BitVec 16)
  /-- BRNE (R46): Branch if gs is not equal to gt. -/
  | brne (core : Fin 11) (gs gt : BitVec 5) (off : BitVec 16)
  /-- BRLT (R46): Branch if gs is less than gt, signed. -/
  | brlt (core : Fin 11) (gs gt : BitVec 5) (off : BitVec 16)
  /-- BRGE (R46): Branch if gs is greater than or equal to gt, signed. -/
  | brge (core : Fin 11) (gs gt : BitVec 5) (off : BitVec 16)
  /-- BRLTU (R46): Branch if gs is less than gt, unsigned. -/
  | brltu (core : Fin 11) (gs gt : BitVec 5) (off : BitVec 16)
  /-- BRGEU (R46): Branch if gs is greater than or equal to gt, unsigned. -/
  | brgeu (core : Fin 11) (gs gt : BitVec 5) (off : BitVec 16)
  /-- GOTO (R46): PC-relative jump. -/
  | goto (core : Fin 11) (off : BitVec 26)
  /-- CALL (R46): PC-relative call, writing PC + 8 to g31. -/
  | call (core : Fin 11) (off : BitVec 26)
  /-- LOOP0 (R48): Set up hardware loop 0, or skip its body when the count is 0. -/
  | loop0 (core : Fin 11) (gs : BitVec 5) (fin : BitVec 12) (cnt : BitVec 9)
  /-- LOOP1 (R48): Set up the inner hardware loop 1. -/
  | loop1 (core : Fin 11) (gs : BitVec 5) (fin : BitVec 12) (cnt : BitVec 9)
  /-- LEXIT (R51): Deactivate a hardware loop. -/
  | lexit (core : Fin 11) (imm : BitVec 12)
  /-- SEGLD (R54): Load a segment descriptor through the gates, with its checks. -/
  | segld (core : Fin 11) (gs : BitVec 5) (imm : BitVec 12)
  /-- SEGRD (R57): Read a segment's selector and its VALID bit. -/
  | segrd (core : Fin 11) (gd : BitVec 5) (imm : BitVec 12)
  /-- HOLD (R65): Start or shorten a bounded interrupt hold. -/
  | hold (core : Fin 11) (imm : BitVec 12)
  /-- RELEASE (R65): End a hold at once. -/
  | release (core : Fin 11)
  /-- HOLD_EXPIRY (R65): HCNT reaches zero, so the hold ends and pending interrupts may be taken. -/
  | holdExpiry (core : Fin 11)
  /-- RETX (R86): Check and restore the newest frame and return from the exception. -/
  | retx (core : Fin 11)
  /-- FEAT (R67): Read a feature register. -/
  | feat (core : Fin 11) (gd : BitVec 5) (imm : BitVec 12)
  /-- MFS (R45): Read a special register; a read of CYCLE_LO latches CYCLE_HI. -/
  | mfs (core : Fin 11) (gd : BitVec 5) (imm : BitVec 12)
  /-- MTS (R45): Write a special register. -/
  | mts (core : Fin 11) (gs : BitVec 5) (imm : BitVec 12)
  /-- WAIT (R65): Wait for an event, releasing any hold first. -/
  | wait (core : Fin 11)
  /-- FENCE (R71): Wait for every earlier access to respond, then refetch. -/
  | fence (core : Fin 11)
  /-- TRAP (R76): Completing precise exception carrying a code. -/
  | trap (core : Fin 11) (imm : BitVec 12)
  /-- DCLEAN (R72): Write back a dirty data line and keep it. -/
  | dclean (core : Fin 11) (gb : BitVec 5) (seg : BitVec 3) (imm : BitVec 13)
  /-- DINV (R72): Discard a data line. -/
  | dinv (core : Fin 11) (gb : BitVec 5) (seg : BitVec 3) (imm : BitVec 13)
  /-- DFLUSH (R72): Write back a data line, then discard it. -/
  | dflush (core : Fin 11) (gb : BitVec 5) (seg : BitVec 3) (imm : BitVec 13)
  /-- IINV (R72): Discard an instruction line. -/
  | iinv (core : Fin 11) (gb : BitVec 5) (seg : BitVec 3) (imm : BitVec 13)
  /-- DCLEAN_ALL (R72): Clean the whole data cache. -/
  | dcleanAll (op : AllOp)
  /-- DFLUSH_ALL (R72): Flush the whole data cache. -/
  | dflushAll (op : AllOp)
  /-- IINV_ALL (R72): Discard the whole instruction cache. -/
  | iinvAll (op : AllOp)
  /-- INTERRUPT_TAKEN (R77): A presented interrupt is taken at an open boundary, through ordinary entry. -/
  | interruptTaken (core : Fin 11)
  /-- ALARM_EXCEPTION (R76): A pending ALARM is taken at a boundary, through ordinary entry. -/
  | alarmException (core : Fin 11)
  /-- STORE_ERROR (R73): A refused buffered store or write-back is recorded, and STORE_ERROR is taken at the next open boundary. -/
  | storeError (core : Fin 11)
  /-- CORE_RELEASE (R75): A paired write of CTRL.EN = 1 releases a core with its segments loaded, or is refused. -/
  | coreRelease (agent : AgentId) (core : Fin 11)
  /-- CORE_RESET_WRITE (R75): A paired write of EN = 0 or SRST returns the core to RESET at once. -/
  | coreResetWrite (agent : AgentId) (core : Fin 11) (srst : Bool)
  /-- SRAM_REKEY (R114): A paired write of SRAM.CTRL.REKEY draws fresh bank keys and starts the walkers. -/
  | sramRekey (agent : AgentId)
  /-- SRAM_REKEY_DONE (R114): Every powered bank has been walked, so STATUS.KEYED rises. -/
  | sramRekeyDone
  /-- SRAM_BANK_ZEROED (R112): A bank switched on ends its zeroing and becomes usable. -/
  | sramBankZeroed (bank : Fin 8)
  /-- SRAM_SCRUB_STEP (R118): Every SCRUB_PERIOD cycles each bank checks one word and corrects single errors. -/
  | sramScrubStep (bank : Fin 8) (word : Fin 65536) (upset : Upset) (bin : Option (Fin 65536))
  /-- KEYSTORE_DRAW (R114): A key draw the key store makes for SRAM, DDR or MSEAL completes once the RNG wire delivers, or fails with RNG_FAULT. -/
  | keystoreDraw (what : DrawFor)
  /-- DDR_TRAIN (R121): A paired write of DDR.CTRL.TRAIN starts training. -/
  | ddrTrain (agent : AgentId)
  /-- DDR_TRAIN_DONE (R121): Training ends, passed or at its failing step. -/
  | ddrTrainDone (pass : Bool) (step : Fin 16) (lanes : Fin 16) (rank : Bool)
  /-- DDR_KEY (R122): A paired write of DDR.CTRL.KEY draws the AES-256 encryption keys. -/
  | ddrKey (agent : AgentId)
  /-- DDR_MR4_POLL (R123): Every 32 ms the controller reads mode register 4 and derates the refresh. -/
  | ddrMr4Poll (codeA codeB : Fin 8)
  /-- DDR_ZQ_CALIBRATION (R120): ZQ calibration every 256 ms. -/
  | ddrZqCalibration
  /-- DDR_DQS_RETRAIN (R120): DQS oscillator retraining every second. -/
  | ddrDqsRetrain
  /-- MSEAL_INIT (R126): A paired write of MSEAL.CTRL.INIT starts window initialisation, or is refused. -/
  | msealInit (agent : AgentId)
  /-- MSEAL_INIT_DONE (R129): Initialisation ends and WIN_READY rises. -/
  | msealInitDone
  /-- MSEAL_LINE_READ (R130): A window read is verified through the tree before its data is released. -/
  | msealLineRead (agent : AgentId) (addr : Addr) (upset : Upset)
  /-- MSEAL_LINE_WRITE (R131): A window write increments the line's counter and writes the new MAC. -/
  | msealLineWrite (agent : AgentId) (addr : Addr) (data : List Byte) (upset : Upset)
  /-- MSEAL_METADATA_WRITEBACK (R131): An evicted metadata line is written back with its parent counter incremented. -/
  | msealMetadataWriteback (bad : Option SealBad)
  /-- FLASH_KEY_WRITE (R138): A write to CHc_KEY advances the unlock sequence, or locks the channel with ERR.KEY. -/
  | flashKeyWrite (agent : AgentId) (chan : Fin 2) (value : Word)
  /-- FLASH_PROGRAM (R140): The PROGRAM command judges and programs one code word. -/
  | flashProgram (agent : AgentId) (chan : Fin 2) (vinLow : Bool)
  /-- FLASH_ERASE_SECTOR (R142): The ERASE_SECTOR command starts an erase through the state rows. -/
  | flashEraseSector (agent : AgentId) (chan : Fin 2) (vinLow : Bool)
  /-- FLASH_SUSPEND (R141): The SUSPEND command suspends a running erase. -/
  | flashSuspend (agent : AgentId) (chan : Fin 2)
  /-- FLASH_RESUME (R141): The RESUME command resumes a suspended erase. -/
  | flashResume (agent : AgentId) (chan : Fin 2)
  /-- FLASH_BLANK_CHECK (R139): The BLANK_CHECK command checks that a sector is erased. -/
  | flashBlankCheck (agent : AgentId) (chan : Fin 2)
  /-- FLASH_MARGIN_CHECK (R139): The MARGIN_CHECK command finds words that need correction at margin. -/
  | flashMarginCheck (agent : AgentId) (chan : Fin 2)
  /-- FLASH_SET_RDP (R148): The SET_RDP command changes the read-out protection level. -/
  | flashSetRdp (agent : AgentId) (chan : Fin 2)
  /-- FLASH_RELOCK (R138): The RELOCK command locks the channel. -/
  | flashRelock (agent : AgentId) (chan : Fin 2)
  /-- FLASH_PROGRAM_DONE (R140): A code-word program completes its verify. -/
  | flashProgramDone (chan : Fin 2) (verified : Bool)
  /-- FLASH_ERASE_DONE (R142): An erase completes and programs DONE. -/
  | flashEraseDone (part : ErasePart)
  /-- FLASH_CHECK_DONE (R139): A blank or margin check completes. -/
  | flashCheckDone (chan : Fin 2) (weak : Fin 1025)
  /-- FLASH_SCAN (R143): The state-row scan at reset runs and sets INT_SECTORS before READY rises. -/
  | flashScan
  /-- FLASH_SUSPEND_TAKEN (R145): An automatic suspend takes hold and the waiting read is served. -/
  | flashSuspendTaken (chan : Fin 2)
  /-- FLASH_AUTO_RESUME (R145): After RESUME_IDLE cycles without a read, the erase resumes. -/
  | flashAutoResume (chan : Fin 2)
  /-- FLASH_ISLAND_REQUEST (R147): A legal-island request is served at the next boundary of channel 0. -/
  | flashIslandRequest
  /-- RNG_STARTUP_DONE (R152): A source ends its start-up test of 1,024 samples. -/
  | rngStartupDone (source : Fin 8) (samples : List Bool)
  /-- RNG_HEALTH_FAILURE (R165): A health test fails, so all output stops and the seeds are zeroed. -/
  | rngHealthFailure (source : Fin 8) (apt : Bool)
  /-- RNG_CONDITIONER_OUTPUT (R153): The entropy credit reaches 256 and one conditioner output is taken. -/
  | rngConditionerOutput (raw : List Bool)
  /-- RNG_SEED_COMPLETE (R158): A 384-bit seed enters the buffer; the first one raises READY. -/
  | rngSeedComplete
  /-- RNG_REQUEST (R156): A DRBG generate call for one client returns 512 bits. -/
  | rngRequest (client : Fin 87)
  /-- RNG_INSTANTIATE (R157): A seed instantiates a client instance. -/
  | rngInstantiate
  /-- RNG_RESEED (R160): A seed reseeds a due instance and resets its count. -/
  | rngReseed
  /-- RNG_DATA_READ (R164): A read of RNG.DATA consumes a word of the reader's instance and sets DRESULT. -/
  | rngDataRead (agent : AgentId)
  /-- RNG_LOWPWR (R163): A paired write of CTRL.LOWPWR enters or leaves low-power mode. -/
  | rngLowpwr (agent : AgentId) (value compl : Word)
  /-- RNG_RESEED_CAP_WRITE (R161): A write of RESEED_CAP is clamped to 1,024-1,048,576. -/
  | rngReseedCapWrite (agent : AgentId) (value : Word)
  /-- KEY_LOAD (R178): The LOAD command stores material from LOAD0-15 into a slot. -/
  | keyLoad (agent : AgentId)
  /-- KEY_UNWRAP (R181): The UNWRAP command reads, checks and decrypts a blob into a slot. -/
  | keyUnwrap (agent : AgentId)
  /-- KEY_GENERATE (R184): The GENERATE command fills a slot from the RNG wire. -/
  | keyGenerate (agent : AgentId)
  /-- KEY_DERIVE (R185): The DERIVE command derives a new slot with the counter-mode KDF. -/
  | keyDerive (agent : AgentId)
  /-- KEY_EXPORT (R182): The EXPORT command writes a blob of a slot. -/
  | keyExport (agent : AgentId)
  /-- KEY_RESTRICT (R178): The RESTRICT command narrows a slot's USAGE and OWNER. -/
  | keyRestrict (agent : AgentId)
  /-- KEY_ZEROIZE (R187): The ZEROIZE command clears one slot. -/
  | keyZeroize (agent : AgentId)
  /-- KEY_ZEROIZE_INST (R187): The ZEROIZE_INST command clears every slot of an instance. -/
  | keyZeroizeInst (agent : AgentId)
  /-- KEY_ROOT_GEN (R174): The ROOT_GEN command draws and programs the root key shares. -/
  | keyRootGen (agent : AgentId)
  /-- KEY_COMMAND_DONE (R179): A management command completes and writes KEY.RESULT. -/
  | keyCommandDone
  /-- KEY_CLASS_DERIVE (R175): At reset, once the RNG is ready, the arena key is drawn and the six class keys are derived. -/
  | keyClassDerive (parityOk : Bool)
  /-- KEY_CLASS_READY (R175): All class slots are filled, so CLASS_READY and READY rise. -/
  | keyClassReady
  /-- KEY_CFG_WRITE (R177): A paired write of KEY.CFG sets LOAD_MODE, clipped to the life-cycle ceiling. -/
  | keyCfgWrite (agent : AgentId) (value compl : Word)
  /-- KEY_BOOT_OFF (R176): A paired write of CTRL.BOOT_OFF makes slot 1,016 refuse every use. -/
  | keyBootOff (agent : AgentId)
  /-- KEY_INJECT (R186): A write of INJ_REQ judges a use and injects its material as hidden Stave words. -/
  | keyInject (agent : AgentId) (value : Word)
  /-- KEY_INJECT_DONE (R186): An injection completes and writes INJ_RESULT. -/
  | keyInjectDone (agent : AgentId)
  /-- PRESS_SUBMIT (R194): A write of PRESSn.SUBMIT queues a descriptor, or is refused. -/
  | pressSubmit (unit : Fin 4) (agent : AgentId) (value : Word)
  /-- PRESS_DESCRIPTOR_FETCH (R194): A queued descriptor is fetched and checked in the order of R196. -/
  | pressDescriptorFetch (unit : Fin 4)
  /-- PRESS_QUANTUM (R202): The unit runs a context for one quantum, then schedules the next ready context. -/
  | pressQuantum (unit : Fin 4) (fault : Bool)
  /-- PRESS_SEGMENT_COMPLETE (R200): A segment completes and writes RESULT, OUTLEN and CONSUMED. -/
  | pressSegmentComplete (e : UnitEnd 4)
  /-- PRESS_CONTEXT_SPILL (R201): An idle binned context is saved to its bin to free its on-chip place. -/
  | pressContextSpill (unit : Fin 4)
  /-- PRESS_CONTEXT_RESTORE (R201): A context saved in a bin is restored when a place frees. -/
  | pressContextRestore (unit : Fin 4)
  /-- PRESS_SAVE (R205): The SAVE context command saves a context to its bin. -/
  | pressSave (unit : Fin 4)
  /-- PRESS_EXPORT (R206): The EXPORT context command writes a wrapped context. -/
  | pressExport (unit : Fin 4)
  /-- PRESS_IMPORT (R206): The IMPORT context command opens a wrapped context. -/
  | pressImport (unit : Fin 4)
  /-- PRESS_ABORT (R208): The ABORT context command clears a context. -/
  | pressAbort (unit : Fin 4)
  /-- PRESS_GENIV_DRAW (R211): The IV draw of a waiting GCM segment completes from the RNG wire. -/
  | pressGenivDraw (unit : Fin 4)
  /-- PRESS_QUANTUM_WRITE (R203): A write of QUANTUM_DEF or QUANTUMnn, accepted from SYS or KEYD only. -/
  | pressQuantumWrite (unit : Fin 4) (agent : AgentId) (which : Fin 65) (value : Word)
  /-- DIGEST_SUBMIT (R216): A write of DIGESTn.SUBMIT queues a descriptor with a copy of EXPECT. -/
  | digestSubmit (unit : Fin 6) (agent : AgentId) (value : Word)
  /-- DIGEST_DESCRIPTOR_FETCH (R217): A queued digest descriptor is fetched and checked. -/
  | digestDescriptorFetch (unit : Fin 6)
  /-- DIGEST_QUANTUM (R222): The digest unit runs a context for one quantum. -/
  | digestQuantum (unit : Fin 6) (fault : Bool)
  /-- DIGEST_SEGMENT_COMPLETE (R219): A segment completes, with output and comparison at FINAL. -/
  | digestSegmentComplete (e : UnitEnd 6)
  /-- DIGEST_CONTEXT_SPILL (R222): An idle digest context is saved to the bin's digest area. -/
  | digestContextSpill (unit : Fin 6)
  /-- DIGEST_CONTEXT_RESTORE (R222): A saved digest context is restored when a place frees. -/
  | digestContextRestore (unit : Fin 6)
  /-- DIGEST_SAVE (R222): The SAVE digest command saves a context. -/
  | digestSave (unit : Fin 6)
  /-- DIGEST_ABORT (R224): The ABORT digest command clears a context. -/
  | digestAbort (unit : Fin 6)
  /-- DIGEST_KEYSTORE_HASH (R226): The key store's hashing runs on a free context of DIGEST0-3. -/
  | digestKeystoreHash
  /-- STAVE_CLAIM (R235): A write of CLAIM = 1 starts a claim, or is refused. -/
  | staveClaim (unit : Fin 5) (agent : AgentId)
  /-- STAVE_CLAIM_END (R235): A write of CLAIM = 0, or the claimant's reset, ends the claim by clearing. -/
  | staveClaimEnd (unit : Fin 5) (agent : AgentId)
  /-- STAVE_MUL (R233): ACC plus or minus A × B, with BITSEL when D[12] is 1. -/
  | staveMul (unit : Fin 5)
  /-- STAVE_MULLO (R233): ACC plus or minus A × B mod 2^w. -/
  | staveMullo (unit : Fin 5)
  /-- STAVE_SHIFT (R233): Shift ACC right by 64-bit words, sign-extending. -/
  | staveShift (unit : Fin 5)
  /-- STAVE_LDACC (R233): Load ACC from operand RAM. -/
  | staveLdacc (unit : Fin 5)
  /-- STAVE_STACC (R233): Store ACC to operand RAM. -/
  | staveStacc (unit : Fin 5)
  /-- STAVE_RAND (R247): Write w random bits, optionally tainted. -/
  | staveRand (unit : Fin 5)
  /-- STAVE_RELEASE (R242): Check the region under its KIND, then release it clear. -/
  | staveRelease (unit : Fin 5)
  /-- STAVE_LIST_START (R236): A write of LIST_LEN starts a command list. -/
  | staveListStart (unit : Fin 5) (agent : AgentId) (length : Word)
  /-- STAVE_LIST_FETCH (R236): A burst of list commands is fetched as queue places free. -/
  | staveListFetch (unit : Fin 5)
  /-- STAVE_ABORT (R245): The claimant's write of ABORT clears the claim. -/
  | staveAbort (unit : Fin 5) (agent : AgentId)
  /-- STAVE_CLEARING_DONE (R245): The clearing ends, so BUSY falls and CLEARED is set. -/
  | staveClearingDone (unit : Fin 5)
  /-- STAVE_RAM_ACCESS_RESUME (R239): A fabric access waiting on a granule proceeds once no command names it. -/
  | staveRamAccessResume (flight : Nat)
  /-- STAVEL_KEYLD (R358): A write of STAVEL.KEYLD places d as hidden words bound for SIGN. -/
  | stavelKeyld (marked : Bool)
  /-- BIN_ENABLE (R255): A paired write of BIN.CTRL.EN enables the store, or is refused. -/
  | binEnable (agent : AgentId)
  /-- BIN_READY (R255): Clearing at enable ends and READY rises. -/
  | binReady
  /-- BIN_OPEN (R258): The OPEN command opens a FREE bin. -/
  | binOpen (agent : AgentId)
  /-- BIN_PIN (R262): The PIN command fills the bin if needed and increments its pin count. -/
  | binPin (agent : AgentId)
  /-- BIN_UNPIN (R262): The UNPIN command decrements the pin count. -/
  | binUnpin (agent : AgentId)
  /-- BIN_READ (R258): The READ command writes the visible part to memory. -/
  | binRead (agent : AgentId)
  /-- BIN_WRITE (R260): The WRITE command takes the visible part from memory. -/
  | binWrite (agent : AgentId)
  /-- BIN_INCR (R261): The INCR command adds to a counter indivisibly. -/
  | binIncr (agent : AgentId)
  /-- BIN_CLOSE (R266): The CLOSE command frees a bin and overwrites its frame. -/
  | binClose (agent : AgentId)
  /-- BIN_CANCEL (R263): The CANCEL command ends the agent's command that waits for a frame. -/
  | binCancel (agent : AgentId)
  /-- BIN_SPILL (R256): A hot bin is sealed into its cold record and its frame is freed. -/
  | binSpill
  /-- BIN_FILL (R257): A cold record is read, checked and brought into a frame. -/
  | binFill
  /-- BIN_FRAME_WAIT_SERVED (R263): A frame frees and the oldest waiting request is served. -/
  | binFrameWaitServed
  /-- BIN_ENGINE_TRANSFER (R265): An engine saves or restores its context in a bin through the private port. -/
  | binEngineTransfer (unit : Fin 10) (save : Bool)
  /-- BIN_INSTANCE_CLEAR (R269): After the engines drain, every bin of a torn-down instance is cleared. -/
  | binInstanceClear (inst : Fin 64)
  /-- BIN_QUOTA_WRITE (R259): A write of QUOTAnn, accepted from SYS or KEYD only. -/
  | binQuotaWrite (agent : AgentId) (inst : Fin 64) (value : Word)
  /-- RDR_FIELD_WRITE (R274): A write of RDRn.FIELD requests OFF, LOW or FULL. -/
  | rdrFieldWrite (chan : Fin 8) (agent : AgentId) (value : Word)
  /-- RDR_FULL_POWER_GRANT (R275): A waiting full-power request is granted as a holder leaves. -/
  | rdrFullPowerGrant
  /-- RDR_FIELD_RAMP_DONE (R274): The field completes its ramp to the new level. -/
  | rdrFieldRampDone (chan : Fin 8)
  /-- RDR_GUARD_END (R276): The guard time ends and GUARD falls. -/
  | rdrGuardEnd (chan : Fin 8)
  /-- RDR_ANTENNA_FAULT (R277): Driver current outside its window for 64 cycles switches the field off. -/
  | rdrAntennaFault (chan : Fin 8)
  /-- RDR_LOAD_WATCH (R278): Every 250 µs the load is measured against its baseline, which may set DETECT. -/
  | rdrLoadWatch (chan : Fin 8) (load : Fin 65536)
  /-- RDR_CAP_WATCH (R279): Every PERIOD ms the capacitance is measured on RDR6 or RDR7. -/
  | rdrCapWatch (chan : Fin 8) (cap : Fin 65536)
  /-- RDR_ROUND (R285): The ROUND command singulates cards or tags for its protocol. -/
  | rdrRound (chan : Fin 8) (agent : AgentId)
  /-- RDR_ACTIVATE (R290): The ACTIVATE command activates an entry. -/
  | rdrActivate (chan : Fin 8) (agent : AgentId) (entry : Fin 64)
  /-- RDR_XCHG (R291): The XCHG command carries one ISO-DEP or ISO/IEC 15693 exchange. -/
  | rdrXchg (chan : Fin 8) (agent : AgentId) (entry : Fin 64)
  /-- RDR_RAW (R292): The RAW command sends one raw frame and waits for one answer. -/
  | rdrRaw (chan : Fin 8) (agent : AgentId)
  /-- RDR_HALT (R281): The HALT command halts or quiets an entry. -/
  | rdrHalt (chan : Fin 8) (agent : AgentId) (entry : Fin 64)
  /-- RDR_FORGET (R281): The FORGET command frees an entry. -/
  | rdrForget (chan : Fin 8) (agent : AgentId) (entry : Fin 64)
  /-- RDR_ABORT (R293): The ABORT command ends the running command at a frame boundary. -/
  | rdrAbort (chan : Fin 8) (agent : AgentId)
  /-- RDR_FRAME_RECEIVED (R283): A response frame starts or completes reception. -/
  | rdrFrameReceived (chan : Fin 8) (data : List Byte) (bits : Fin 8) (coll : Option Nat) (good : Bool)
  /-- RDR_RESPONSE_TIMEOUT (R283): A response timeout expires in carrier cycles. -/
  | rdrResponseTimeout (chan : Fin 8)
  /-- RDR_PQ_HOLD_EXPIRY (R289): The PQ_HOLD time of a kept PQUIET entry expires and it becomes FREE. -/
  | rdrPqHoldExpiry (chan : Fin 8) (entry : Fin 64)
  /-- TAG_POWER_UP (R307): The island powers up, recovers its shadow record and derives its random identifier. -/
  | tagPowerUp (field reserve : Bool)
  /-- TAG_SUPPLY_LOSS (R300): The island loses supply, so every presented password is withdrawn. -/
  | tagSupplyLoss (step : Fin 6)
  /-- TAG_INVENTORY (R295): RF INVENTORY 0x01. -/
  | tagInventory (req : TagReq) (afi maskLen : Byte) (mask : BitVec 64)
  /-- TAG_STAY_QUIET (R304): RF STAY QUIET 0x02, which charges the quiet capacitor when PQ_EN is set. -/
  | tagStayQuiet (req : TagReq)
  /-- TAG_READ_SINGLE_BLOCK (R299): RF READ SINGLE BLOCK 0x20. -/
  | tagReadSingleBlock (req : TagReq) (block : Byte)
  /-- TAG_WRITE_SINGLE_BLOCK (R306): RF WRITE SINGLE BLOCK 0x21. -/
  | tagWriteSingleBlock (req : TagReq) (block : Byte) (value : Word)
  /-- TAG_READ_MULTIPLE_BLOCKS (R299): RF READ MULTIPLE BLOCKS 0x23. -/
  | tagReadMultipleBlocks (req : TagReq) (first more : Byte)
  /-- TAG_SELECT (R304): RF SELECT 0x25. -/
  | tagSelect (req : TagReq)
  /-- TAG_RESET_TO_READY (R304): RF RESET TO READY 0x26. -/
  | tagResetToReady (req : TagReq)
  /-- TAG_WRITE_AFI (R306): RF WRITE AFI 0x27. -/
  | tagWriteAfi (req : TagReq) (value : Byte)
  /-- TAG_WRITE_DSFID (R306): RF WRITE DSFID 0x29. -/
  | tagWriteDsfid (req : TagReq) (value : Byte)
  /-- TAG_GET_SYSTEM_INFORMATION (R295): RF GET SYSTEM INFORMATION 0x2B. -/
  | tagGetSystemInformation (req : TagReq)
  /-- TAG_GET_MULTIPLE_BLOCK_SECURITY (R299): RF GET MULTIPLE BLOCK SECURITY STATUS 0x2C. -/
  | tagGetMultipleBlockSecurity (req : TagReq) (first more : Byte)
  /-- TAG_EXT_READ (R295): Extended READ 0x30. -/
  | tagExtRead (req : TagReq) (block : BitVec 16)
  /-- TAG_EXT_WRITE (R306): Extended WRITE 0x31. -/
  | tagExtWrite (req : TagReq) (block : BitVec 16) (value : Word)
  /-- TAG_EXT_READ_MULTIPLE (R295): Extended READ MULTIPLE 0x33. -/
  | tagExtReadMultiple (req : TagReq) (first more : BitVec 16)
  /-- TAG_EXT_GET_SYSTEM_INFORMATION (R295): Extended GET SYSTEM INFORMATION 0x3B. -/
  | tagExtGetSystemInformation (req : TagReq)
  /-- TINVENTORY (R301): Trellis inventory 0xB0. -/
  | tinventory (req : TagReq) (afi maskLen : Byte) (mask : BitVec 64)
  /-- TRERAND (R302): Trellis re-randomise 0xB1, which gives a new random identifier. -/
  | trerand (req : TagReq)
  /-- TPASSWORD (R300): Trellis password presentation 0xB2. -/
  | tpassword (req : TagReq) (number : Byte) (value : Word)
  /-- TCHALLENGE (R301): Trellis nonce 0xB3. -/
  | tchallenge (req : TagReq)
  /-- TGETPWSTAT (R301): Trellis password status 0xB4. -/
  | tgetpwstat (req : TagReq)
  /-- TLOCKBLOCK (R301): Trellis permanent block lock 0xB5. -/
  | tlockblock (req : TagReq) (block : BitVec 16)
  /-- TKILL (R305): Trellis kill 0xB6. -/
  | tkill (req : TagReq) (value : Word)
  /-- TREADUID (R301): Trellis fixed-identifier read 0xB7. -/
  | treaduid (req : TagReq)
  /-- TAG_WRITE_CYCLE_DONE (R306): The program steps of a block write end and the answer is sent. -/
  | tagWriteCycleDone (good : Bool)
  /-- TAG_QUIET_EXPIRY (R304): The quiet capacitor discharges and persistent quiet ends. -/
  | tagQuietExpiry
  /-- TAG_WIRE_READ (R309): Wire READ of a block. -/
  | tagWireRead (agent : AgentId)
  /-- TAG_WIRE_WRITE (R309): Wire WRITE of a block. -/
  | tagWireWrite (agent : AgentId)
  /-- TAG_PROTECT (R309): Wire PROTECT of an area. -/
  | tagProtect (agent : AgentId)
  /-- TAG_SETPW (R309): Wire SETPW. -/
  | tagSetpw (agent : AgentId)
  /-- TAG_PWRESET (R309): Wire PWRESET. -/
  | tagPwreset (agent : AgentId)
  /-- TAG_CONFIG (R309): Wire CONFIG. -/
  | tagConfig (agent : AgentId)
  /-- TAG_SEED (R303): Wire SEED, which draws a new seed from the TAG RNG wire. -/
  | tagSeed (agent : Option AgentId)
  /-- TAG_HOLD (R308): Wire HOLD of tag memory. -/
  | tagHold (agent : AgentId)
  /-- TAG_UNHOLD (R308): Wire UNHOLD. -/
  | tagUnhold (agent : AgentId)
  /-- TAG_KILL (R305): Wire KILL. -/
  | tagKill (agent : AgentId)
  /-- TAG_LOCKBLOCK (R309): Wire LOCKBLOCK. -/
  | tagLockblock (agent : AgentId)
  /-- TAG_I2C_WRITE (R310): An external I²C write transfer to tag memory. -/
  | tagI2cWrite (block : BitVec 16) (words : List Word)
  /-- TAG_I2C_READ (R310): An external I²C read transfer from tag memory. -/
  | tagI2cRead (block : BitVec 16) (count : Fin 33)
  /-- CARD_ACTIVATE (R313): The ACTIVATE command powers and activates the card and reads its ATR. -/
  | cardActivate (slot : Fin 4) (agent : AgentId) (answer : Option CardAtr)
  /-- CARD_APDU (R317): The APDU command exchanges one C-APDU. -/
  | cardApdu (slot : Fin 4) (agent : AgentId) (line : CardLine) (vfail : Option Nat)
  /-- CARD_WARM (R316): The WARM command warm-resets the card. -/
  | cardWarm (slot : Fin 4) (agent : AgentId) (answer : Option CardAtr)
  /-- CARD_DEACTIVATE (R316): The DEACTIVATE command deactivates the card. -/
  | cardDeactivate (slot : Fin 4) (agent : AgentId)
  /-- CARD_ABORT (R317): The ABORT command ends the running command. -/
  | cardAbort (slot : Fin 4) (agent : AgentId)
  /-- CARD_INSERTION (R315): CnDET asserted for DEBOUNCE ms: the slot becomes INSERTED. -/
  | cardInsertion (slot : Fin 4)
  /-- CARD_REMOVAL (R315): CnDET deasserted for 10 µs: the card is deactivated. -/
  | cardRemoval (slot : Fin 4)
  /-- CARD_OVERCURRENT (R313): Supply current above the class limit for 1 ms deactivates the card. -/
  | cardOvercurrent (slot : Fin 4)
  /-- CARD_ATR_TIMEOUT (R313): No valid ATR within 40,000 clocks, which leads to the next class under AUTOCLASS. -/
  | cardAtrTimeout (slot : Fin 4)
  /-- CARD_CLOCK_STOP (R318): 1,860 clocks after an exchange, CLK stops at the indicated level. -/
  | cardClockStop (slot : Fin 4)
  /-- SDC_INIT (R320): The INIT command initialises the SD card and switches its speed. -/
  | sdcInit (agent : AgentId) (answer : Option SdInit)
  /-- SDC_READ (R322): The READ command reads blocks. -/
  | sdcRead (agent : AgentId) (data : Option SdData)
  /-- SDC_WRITE (R327): The WRITE command writes blocks, journalled when ARG.JOURNAL is set. -/
  | sdcWrite (agent : AgentId) (upto : Fin 4) (pre : List Byte) (ok : Bool) (vfail : Option Nat)
  /-- SDC_SWITCH (R320): The SWITCH command switches the speed mode. -/
  | sdcSwitch (agent : AgentId) (answer : Option SdSwitch)
  /-- SDC_POWER_OFF (R329): The POWER_OFF command removes the card's supply. -/
  | sdcPowerOff (agent : AgentId)
  /-- SDC_ABORT (R323): The ABORT command ends a read or journalled write. -/
  | sdcAbort (agent : AgentId)
  /-- SDC_INSERTION (R323): SDCD asserted for DEBOUNCE ms, which starts INIT under AUTOINIT. -/
  | sdcInsertion (wp : Bool)
  /-- SDC_REMOVAL (R323): SDCD deasserted for 10 µs: power is dropped and a running write ends. -/
  | sdcRemoval
  /-- SDC_BUSY_TIMEOUT (R323): A busy phase longer than TIM.BUSY drops power and gives OUTCOME_UNKNOWN. -/
  | sdcBusyTimeout
  /-- SDC_RESTORE (R329): The pre-image of an open SD record is written back to its card. -/
  | sdcRestore (good : Bool)
  /-- JRNL_ACK (R332): The ACK command closes a contact record. -/
  | jrnlAck (agent : AgentId) (slot : Fin 8)
  /-- JRNL_DISCARD (R332): The DISCARD command, from MCORE only, closes a record without restoring. -/
  | jrnlDiscard (agent : AgentId) (slot : Fin 8)
  /-- JRNL_SCAN (R331): The journal sectors are scanned at reset, after which READY rises. -/
  | jrnlScan
  /-- LEGAL_MB_POST (R363): A write of MB_DOOR posts a mailbox request. -/
  | legalMbPost (agent : AgentId)
  /-- LEGAL_MB_TAKE (R364): The island takes a posted request. -/
  | legalMbTake
  /-- LEGAL_STATUS (R364): Mailbox STATUS 0x01. -/
  | legalStatus
  /-- LEGAL_READING (R359): Mailbox READING 0x02, which makes and signs a record. -/
  | legalReading (good : Bool)
  /-- LEGAL_GETREC (R364): Mailbox GETREC 0x03. -/
  | legalGetrec
  /-- LEGAL_GETBOOK (R364): Mailbox GETBOOK 0x04. -/
  | legalGetbook
  /-- LEGAL_GETKEY (R364): Mailbox GETKEY 0x05. -/
  | legalGetkey
  /-- LEGAL_SETTIME (R353): Mailbox SETTIME 0x06. -/
  | legalSettime
  /-- LEGAL_PARAM (R356): Mailbox PARAM 0x07, an audited change. -/
  | legalParam
  /-- LEGAL_UPDATE_BEGIN (R364): Mailbox UPDATE_BEGIN 0x08. -/
  | legalUpdateBegin
  /-- LEGAL_UPDATE_DATA (R364): Mailbox UPDATE_DATA 0x09. -/
  | legalUpdateData
  /-- LEGAL_UPDATE_END (R364): Mailbox UPDATE_END 0x0A, which checks the image and resets the island. -/
  | legalUpdateEnd
  /-- LEGAL_KEYGEN (R357): Mailbox KEYGEN 0x0B. -/
  | legalKeygen (samples : List Bool) (mask : List Byte)
  /-- LEGAL_RESET (R364): Mailbox RESET 0x0C. -/
  | legalReset
  /-- LEGAL_HARMONICS (R364): Mailbox HARMONICS 0x0D. -/
  | legalHarmonics
  /-- LEGAL_CLEARBOOK (R362): Mailbox CLEARBOOK 0x0E. -/
  | legalClearbook
  /-- LEGAL_APP_REQUEST (R364): A mailbox code of 0x80-0xFF served by the metrology application. -/
  | legalAppRequest (code : Byte) (rsp : List Byte)
  /-- LFL_PROGRAM (R345): An island PROGRAM through LFL_CMD. -/
  | lflProgram (vinLow : Bool)
  /-- LFL_ERASE_SECTOR (R345): An island ERASE_SECTOR through LFL_CMD. -/
  | lflEraseSector (vinLow : Bool)
  /-- LFL_BLANK_CHECK (R345): An island BLANK_CHECK through LFL_CMD. -/
  | lflBlankCheck
  /-- AFE_BLOCK_END (R348): At the end of each one-second block the DSP updates the energies. -/
  | afeBlockEnd (block : AfeBlock)
  /-- LPULSE_PULSE (R351): The chosen quantity crosses PULSE_CONST, so LPULSE pulses. -/
  | lpulsePulse
  /-- ENERGY_SAVE_PERIODIC (R350): Every 15 minutes of LRTC time an energy journal entry is written. -/
  | energySavePeriodic
  /-- LVWARN_SAVE (R337): VIN below LVWARN triggers the power-fail save and the POWER_DOWN entry. -/
  | lvwarnSave
  /-- ISLAND_COLD_RESET (R339): LREG power-on or LHOLD below LBOR resets the island cold. -/
  | islandColdReset (vbat : Bool)
  /-- ISLAND_WARM_RESET (R339): An island warm reset leaves the DSP running. -/
  | islandWarmReset (cause : Fin 5)
  /-- ISLAND_WATCHDOG_EXPIRY (R339): One second without a kick from LCORE. -/
  | islandWatchdogExpiry
  /-- LCORE_HALT_TIMEOUT (R341): LCORE halted for 1 ms causes an island warm reset. -/
  | lcoreHaltTimeout
  /-- ISLAND_START_SCAN (R346): The start logic scans the partition and copies and checks the image before LCORE is released. -/
  | islandStartScan
  /-- ISLAND_CLOCK_FAULT (R338): LX32 stopped for 4 ms or a loss of LPLL lock halts accumulation. -/
  | islandClockFault
  /-- ISLAND_CLOCK_RESUME (R338): Accumulation resumes 10 ms after lock returns. -/
  | islandClockResume
  /-- LEGAL_SEAL_ASSERT (R354): LEGAL_SEAL high for 10 ms. -/
  | legalSealAssert
  /-- LEGAL_SEAL_RELEASE (R354): LEGAL_SEAL low for 10 ms. -/
  | legalSealRelease
  /-- ALARM_NOTICE (R335): An alarm notice strobe makes a cellar-book entry. -/
  | alarmNotice
  /-- LC_CHANGE_NOTICE (R361): A change of the LC input makes an LC_CHANGE entry. -/
  | lcChangeNotice
  /-- PERIODIC_RECORD (R360): A RECINT boundary of LRTC time makes a PERIODIC record. -/
  | periodicRecord
  /-- LRTC_SETCMD (R352): A write of LRTC.SETCMD loads SET on the next 1/65,536 s edge. -/
  | lrtcSetcmd
  /-- LRTC_COMPENSATION (R352): Every 10 s the LRTC applies COMP and its temperature term. -/
  | lrtcCompensation (temp : Int)
  /-- MED_CREATE (R371): Mediator CREATE takes the lowest FREE instance into CREATING. -/
  | medCreate (agent : AgentId) (pasid bins slots quantum queues flows : Word)
  /-- MED_REMOVE (R380): Mediator REMOVE starts a teardown into FREE. -/
  | medRemove (agent : AgentId) (arg : Word)
  /-- MED_RESET (R380): Mediator RESET starts a teardown back to ACTIVE. -/
  | medReset (agent : AgentId) (arg : Word)
  /-- MED_QUERY (R370): Mediator QUERY returns the instance's state and arguments. -/
  | medQuery (agent : AgentId) (arg : Word)
  /-- HOST_FW_ANSWER (R372): A write of FW_ANSWER accepts or refuses a CREATE. -/
  | hostFwAnswer (agent : AgentId) (value : Word)
  /-- CREATE_TIMEOUT (R373): MED_TO expires without a firmware answer: the instance enters REMOVING. -/
  | createTimeout
  /-- TEARDOWN_DRAIN_LIMIT (R380): At T0 + 100 µs the descriptors still running are squashed. -/
  | teardownDrainLimit (inst : Fin 64) (got : List (List Byte))
  /-- INSTANCE_RESET_DONE (R381): The reports are in and INFLIGHT is zero: RESET_DONE rises and the instance is ACTIVE or FREE. -/
  | instanceResetDone (inst : Fin 64)
  /-- INST_SRST (R382): CTRL.SRST on an instance page, written by SYS or KEYD, starts an instance reset. -/
  | instSrst (agent : AgentId) (inst : Fin 64)
  /-- SQ_DOORBELL (R375): A write of SQTAILq sets the queue tail. -/
  | sqDoorbell (agent : AgentId) (inst : Fin 64) (queue : Fin 8) (value : Word)
  /-- CQ_DOORBELL (R376): A write of CQHEADq sets the tenant's CQ head. -/
  | cqDoorbell (agent : AgentId) (inst : Fin 64) (queue : Fin 8) (value : Word)
  /-- HOST_SQ_FETCH (R375): A burst of SQ entries is fetched and written to the device ring. -/
  | hostSqFetch (data : Option (List Byte))
  /-- CPL_POST (R376): A write of CPL_POST writes one CQ entry and may send MSI-X. -/
  | cplPost (agent : AgentId) (inst : Fin 64) (value : Word)
  /-- HOST_DMA_SUBMIT (R377): A write of DMA_SUBMIT queues a DMA descriptor. -/
  | hostDmaSubmit (agent : AgentId) (value : Word)
  /-- HOST_DMA_COMPLETE (R378): A DMA descriptor completes and writes RESULT. -/
  | hostDmaComplete (run : Fin 16) (data : List Byte) (ok : Bool)
  /-- HOST_CPL_TIMEOUT (R378): A host read exceeds CPL_TO. -/
  | hostCplTimeout (run : Fin 16) (got : List Byte)
  /-- HOST_BAR_ACCESS (R366): A host access through BAR0, BAR2 or BAR4. -/
  | hostBarAccess (bar : Fin 6) (off : BitVec 18) (write : Bool) (value : Word)
  /-- PCIE_FLR (R383): A function-level reset removes every instance. -/
  | pcieFlr
  /-- PCIE_LINK_DOWN (R383): The PCIe link goes down and running descriptors complete with LINK_DOWN. -/
  | pcieLinkDown (got : List (List Byte))
  /-- PCIE_LINK_UP (R365): The PCIe link trains up. -/
  | pcieLinkUp (speed width : Fin 5)
  /-- STRM_LINK_UP (R386): All four lanes are aligned: LINK.UP rises and a CREDIT frame is sent. -/
  | strmLinkUp
  /-- STRM_ALIGNMENT_LOSS (R386): Alignment lost for 4 µs brings the stream link down. -/
  | strmAlignmentLoss
  /-- STRM_DATA_FRAME (R390): A DATA frame arrives and is checked and served. -/
  | strmDataFrame (frame : List Byte)
  /-- STRM_FRAME_END (R393): The input's terminate block arrives; the tag and FCS are sent or the frame fails. -/
  | strmFrameEnd (flow : Fin 4096) (fault : Bool)
  /-- STRM_CREDIT_FRAME (R394): A CREDIT frame returns partner credits. -/
  | strmCreditFrame (frame : List Byte)
  /-- STRM_FRAME_START (R394): A held output frame starts once the partner's credits cover it. -/
  | strmFrameStart
  /-- STRM_CREDIT_RETURN (R394): A CREDIT frame is sent once 16 credits are owed or 1 µs has passed. -/
  | strmCreditReturn (due : Bool)
  /-- STRM_CREDIT_STALL (R395): A frame held for CRED_TO µs sets CRED_STALL. -/
  | strmCreditStall
  /-- STRM_FLOW_ADD (R388): Flow command ADD checks, pins the bin and configures the flow. -/
  | strmFlowAdd (agent : AgentId)
  /-- STRM_FLOW_PIN_GRANTED (R388): A waiting pin is granted and the flow is configured. -/
  | strmFlowPinGranted
  /-- STRM_FLOW_REMOVE (R396): Flow command REMOVE. -/
  | strmFlowRemove (agent : AgentId)
  /-- STRM_FLOW_READ (R388): Flow command READ returns the flow's configuration. -/
  | strmFlowRead (agent : AgentId)
  /-- VINE_MODE_WRITE (R401): A write of VINEn.CFG.MODE sets OFF, TREE or TWIN. -/
  | vineModeWrite (port : Fin 6) (agent : AgentId) (value : Word)
  /-- VINE_LINK_UP (R401): Both lanes are aligned and LINK.UP rises. -/
  | vineLinkUp (port : Fin 6) (polarity : Fin 4) (swap : Bool)
  /-- VINE_LINK_DOWN (R410): Alignment lost for 4 µs ends membership across the port. -/
  | vineLinkDown (port : Fin 6)
  /-- VINE_PACKET_FORWARD (R406): A packet is routed, consumed or answered NO_ROUTE. -/
  | vinePacketForward (port : Fin 6) (pkt : VPkt) (intact : Bool)
  /-- VINE_CREDIT_PACKET (R404): A CREDIT packet returns credits, acknowledges LSEQ or carries a NAK. -/
  | vineCreditPacket (port : Fin 6) (req rsp msg : Byte) (ack nak : Option (Fin 4 × Byte)) (intact : Bool)
  /-- VINE_HELLO_SEND (R407): Every 10 µs an enabled device sends HELLO on each TREE port. -/
  | vineHelloSend
  /-- VINE_HELLO_RECEIVE (R407): A HELLO is received, which may lead to a JOIN or a REDUNDANT port. -/
  | vineHelloReceive (port : Fin 6) (serial : BitVec 64) (id : BitVec 10) (depth : Fin 8) (member up intact : Bool)
  /-- VINE_JOIN (R408): A JOIN packet is forwarded upstream or judged at the root. -/
  | vineJoin (port : Fin 6) (lseq : Byte) (serial : BitVec 64) (pref : BitVec 16) (tag : Word) (hops : Fin 8) (intact : Bool)
  /-- VINE_ASSIGN (R408): An ASSIGN packet sets routes and the newcomer's ID, or its refusal. -/
  | vineAssign (port : Fin 6) (lseq : Byte) (id : BitVec 10) (code : Fin 11) (tag : Word) (hops : Fin 8) (intact : Bool)
  /-- VINE_LEAVE (R410): A LEAVE packet clears routes and frees and reserves the ID. -/
  | vineLeave (port : Fin 6) (lseq : Byte) (id : BitVec 10) (intact : Bool)
  /-- VINE_JANSWER (R409): A write of JANSWER answers the oldest queued join. -/
  | vineJanswer (agent : AgentId) (value : Word)
  /-- VINE_JOIN_TIMEOUT (R409): A join not answered within JOIN_TO is refused. -/
  | vineJoinTimeout
  /-- VINE_JOIN_RETRY (R408): A refused newcomer resends JOIN every RETRY ms. -/
  | vineJoinRetry (port : Fin 6)
  /-- VINE_REJOIN_HOLD_EXPIRY (R410): The reservation of a freed ID expires. -/
  | vineRejoinHoldExpiry (id : BitVec 10)
  /-- VINE_RREAD (R413): An RREAD request is performed at the target with agent 0x90. -/
  | vineRread (port : Fin 6) (lseq : Byte) (dst src : BitVec 10) (tag : Word) (off : BitVec 28) (size : Fin 65) (intact : Bool)
  /-- VINE_RWRITE (R413): An RWRITE request is performed at the target. -/
  | vineRwrite (port : Fin 6) (lseq : Byte) (dst src : BitVec 10) (tag : Word) (off : BitVec 28) (size : Fin 65) (data : Word) (intact : Bool)
  /-- VINE_RRESP (R412): An RRESP completes the originator's window access. -/
  | vineRresp (port : Fin 6) (lseq : Byte) (dst src : BitVec 10) (tag : Word) (status : Fin 4) (data : Word) (intact : Bool)
  /-- VINE_MSG_SEND (R414): A write of MSG_SEND sends a message. -/
  | vineMsgSend (agent : AgentId) (value : Word)
  /-- VINE_MSG (R415): A MSG packet is written into the receive ring and acknowledged. -/
  | vineMsg (port : Fin 6) (lseq : Byte) (dst src : BitVec 10) (tag : Word) (chan : Byte) (count : Word) (payload : List Byte) (intact : Bool)
  /-- VINE_MSGACK (R414): A MSGACK completes the sender's message. -/
  | vineMsgack (port : Fin 6) (lseq : Byte) (dst src : BitVec 10) (tag : Word) (code : Byte) (intact : Bool)
  /-- VINE_MSG_TIMEOUT (R414): No MSGACK within 2 ms. -/
  | vineMsgTimeout (agent : AgentId)
  /-- VINE_SYNC (R417): Every 125 µs the downstream device sends SYNC. -/
  | vineSync (port : Fin 6)
  /-- VINE_SYNCACK (R417): A SYNCACK gives the link delay. -/
  | vineSyncack (port : Fin 6) (roundTrip : Word) (intact : Bool)
  /-- VINE_TIME_SEND (R417): Every 125 µs the upstream neighbour sends TIME. -/
  | vineTimeSend
  /-- VINE_TIME_PACKET (R417): A TIME packet steps or steers NOW. -/
  | vineTimePacket (port : Fin 6) (now : BitVec 64) (intact : Bool)
  /-- TIME_SETCMD (R416): A write of TIME.SETCMD loads NOW from SET. -/
  | timeSetcmd (agent : AgentId) (value : Word)
  /-- TIME_NOW_READ (R416): A read of NOW_LO latches NOW_HI for the reading agent. -/
  | timeNowRead (agent : AgentId)
  /-- TIME_COMPARE_ARM (R419): A write of CMPn_HI arms compare channel n. -/
  | timeCompareArm (agent : AgentId) (chan : Fin 16) (value : Word)
  /-- TIME_COMPARE_FIRE (R419): NOW reaches CMPn, so IRQ_RAW[n] is set and the channel disarms. -/
  | timeCompareFire (chan : Fin 16)
  /-- VINE_SNAP_FIRE (R420): A write of VINE.SNAP_FIRE starts a site snapshot or sends a SNAPREQ. -/
  | vineSnapFire (agent : AgentId) (value : Word)
  /-- VINE_SNAPREQ (R420): A SNAPREQ at the root starts a site snapshot. -/
  | vineSnapreq (port : Fin 6) (lseq : Byte) (intact : Bool)
  /-- VINE_SNAP (R420): A SNAP packet is forwarded and recorded as a pending target. -/
  | vineSnap (port : Fin 6) (no : Word) (target : BitVec 64) (intact : Bool)
  /-- VINE_SNAP_TARGET (R421): NOW reaches the target T and the Vine trigger is raised. -/
  | vineSnapTarget
  /-- TWIN_PAIR (R422): A paired write of CTRL.PAIR loads the pair key from the pair blob. -/
  | twinPair (agent : AgentId)
  /-- TWIN_PAIR_TIMEOUT (R423): A primary without a valid heartbeat within PAIR_TO becomes ACTIVE_ALONE. -/
  | twinPairTimeout
  /-- TWIN_HEARTBEAT_SEND (R425): Every 100 µs a heartbeat is sent. -/
  | twinHeartbeatSend
  /-- TWIN_HEARTBEAT_RECEIVE (R425): A heartbeat is received and judged valid or not. -/
  | twinHeartbeatReceive (port : Fin 6) (payload : List Byte) (intact peerPrimary : Bool)
  /-- TWIN_MISS_WINDOW (R426): A 100 µs window ends without a valid heartbeat and counts a miss. -/
  | twinMissWindow
  /-- TWIN_TAKEOVER (R427): The takeover decision is taken and, if both decisions agree, the standby takes over. -/
  | twinTakeover
  /-- TWIN_SECOND_DECISION (R427): The second takeover decision, 1-64 cycles after the first. -/
  | twinSecondDecision (agrees : Bool)
  /-- TWIN_FENCE (R428): TWFI high for 100 µs fences an active device. -/
  | twinFence
  /-- TWIN_HANDOVER (R429): A paired write of CTRL.HANDOVER starts a handover. -/
  | twinHandover (agent : AgentId)
  /-- TWIN_HANDOVER_COMPLETE (R429): SEQ_ACK reaches SEQ_TX; a HANDOVER heartbeat is sent and the device becomes STANDBY. -/
  | twinHandoverComplete
  /-- TWIN_RECORD (R432): A RECORD is applied by the standby and answered with RACK. -/
  | twinRecord (port : Fin 6) (lseq : Byte) (bytes : List Byte) (intact : Bool)
  /-- TWIN_RACK (R430): A RACK frees journal slots and releases waiting changes. -/
  | twinRack (port : Fin 6) (lseq : Byte) (seq : BitVec 64) (intact : Bool)
  /-- TWIN_JOURNAL_LAG (R430): A change waits 2 ms on a full ring: ERR.LAG is set and the device is ACTIVE_ALONE. -/
  | twinJournalLag
  /-- TWIN_RESYNC (R434): The active sends a bulk copy and BULK_END to a STANDBY_SYNC partner. -/
  | twinResync
  /-- TWIN_SELF_TEST (R435): The standby runs its next self-test in turn. -/
  | twinSelfTest (bit : Fin 16) (passed : Bool)
  /-- TWIN_HEALTH_SEND (R435): Every 10 ms a HEALTH packet is sent. -/
  | twinHealthSend (temp : BitVec 16)
  /-- TWIN_HEALTH_RECEIVE (R435): The active copies a HEALTH report into PEER_HEALTH. -/
  | twinHealthReceive (port : Fin 6) (lseq : Byte) (payload : List Byte) (intact : Bool)
  /-- TWIN_HEALTH_GAP (R435): 30 ms without a report sets IRQ_RAW.PEER. -/
  | twinHealthGap
  /-- TWIN_MCNT_INCR (R433): A write of MCNT_INCR increments a monotonic counter. -/
  | twinMcntIncr (agent : AgentId)
  /-- TAMPER_SOURCE_RAISE (R437): An alarm source's level rises. -/
  | tamperSourceRaise (sources : Word) (lit : BitVec 64)
  /-- DUAL_DECISION_SECOND (R440): The second of a dual decision, 1-64 cycles later; a disagreement raises DUAL. -/
  | dualDecisionSecond (which : Fin 7) (agrees : Bool) (other : Fin 6)
  /-- TAMP_RESUME (R443): A paired write of CTRL.RESUME ends HALT. -/
  | tampResume (agent : AgentId)
  /-- ZEROIZATION_DONE (R444): Zeroization ends and the pending reset may be taken. -/
  | zeroizationDone
  /-- VIN_DIP (R438): VIN falls below the dip threshold and recovers within 50 µs, raising VIN_UV. -/
  | vinDip
  /-- VIN_POWER_DOWN (R483): VIN stays below the threshold for 50 µs: brown-out and the ordered power-down. -/
  | vinPowerDown
  /-- TAMP_LOOP_CHECK (R439): An external loop is sampled or compared. -/
  | tampLoopCheck (loop : Fin 4) (high differs : Bool)
  /-- TAMP_MESH_CHECK (R439): A mesh is compared against its sequence. -/
  | tampMeshCheck (mesh : Fin 8) (bad : Bool)
  /-- TAMP_TEMP_SAMPLE (R446): TEMP_R is sampled every 250 ms on VBAT. -/
  | tampTempSample (temp : Word) (beyond : Bool)
  /-- TAMP_RESP_WRITE (R436): A write of RESPs stores at least the floor and updates the VBAT shadow copies. -/
  | tampRespWrite (agent : AgentId) (src : Fin 32) (value : Word)
  /-- TAMP_LOOP_CFG_WRITE (R446): A write of LOOP_CFG updates both VBAT shadow copies first. -/
  | tampLoopCfgWrite (agent : AgentId) (value : Word)
  /-- TAMP_FUSEPROG (R447): A write of FUSEPROG blows FUSECFG bits in MAKER or INTEGRATOR. -/
  | tampFuseprog (agent : AgentId) (value : Word)
  /-- BKP_POWER_UP (R447): A power-up checks the backup marker and reports lost or deferred state. -/
  | bkpPowerUp (valid : Bool)
  /-- BKP_FLAG_CLEAR (R450): A write to BKP.FLAG by MCORE clears flags that were read and whose source is low. -/
  | bkpFlagClear (agent : AgentId) (value : Word)
  /-- VBAT_CHANGEOVER (R477): PD01 changes over between VIN and VBAT. -/
  | vbatChangeover (toVbat : Bool)
  /-- LC_TRANSITION (R455): A paired write of LC.TRANS zeroizes if needed, blows the group and cold-resets. -/
  | lcTransition (agent : AgentId) (value compl : Word) (stuck : Option (Fin 16))
  /-- LC_PKREVOKE_SET (R463): A write of PKREVOKE_SET by MCORE revokes a Priesk key. -/
  | lcPkrevokeSet (agent : AgentId) (value : Word)
  /-- DBG_CHALLENGE (R462): A write of CHAL_CMD makes a new challenge. -/
  | dbgChallenge (agent : AgentId)
  /-- DBG_RESPONSE (R463): A write of RESP_CMD starts verification of a response. -/
  | dbgResponse (agent : AgentId)
  /-- DBG_RESPONSE_VERIFIED (R463): Verification ends and the grant is widened or a failure is counted. -/
  | dbgResponseVerified
  /-- DBG_REVOKE (R464): A write of REVOKE ends the grant. -/
  | dbgRevoke (agent : AgentId)
  /-- DBG_HALT_REQ (R465): A write of HALT_REQ requests a debug halt. -/
  | dbgHaltReq (agent : AgentId) (value : Word)
  /-- DBG_HALT_TAKEN (R465): The core halts at its next open boundary. -/
  | dbgHaltTaken (core : Fin 10)
  /-- DBG_STEP (R465): A write of DBG.STEP runs one instruction and its delay slot. -/
  | dbgStep (agent : AgentId) (value : Word)
  /-- DBG_RESUME (R465): A write of DBG.RESUME clears the debug halt. -/
  | dbgResume (agent : AgentId) (value : Word)
  /-- DBG_CDATA_ACCESS (R466): A read or write of CDATA accesses a halted core's register. -/
  | dbgCdataAccess (agent : AgentId) (write : Bool) (value : Word)
  /-- DBG_BREAKPOINT (R467): A breakpoint halts the core before its instruction. -/
  | dbgBreakpoint (core : Fin 11) (branch : Bool)
  /-- TRACE_RECORD (R468): A trace record is written for a taken branch, entry or RETX. -/
  | traceRecord (drop : Bool)
  /-- COLD_RESET (R471): A cold reset clears per the table and runs the boot ROM. -/
  | coldReset (stuck : Bool)
  /-- WARM_RESET (R471): A warm reset keeps the fixed registers, gate rules and SRAM keys, and runs the boot ROM. -/
  | warmReset
  /-- TAMPER_RESET (R471): A tamper reset clears what runs and keeps what is keyed. -/
  | tamperReset
  /-- ESCALATION_RESET (R471): An escalation reset resets the firmware cores only. -/
  | escalationReset
  /-- NRST_ASSERT (R470): NRST low for 1 µs requests a warm reset. -/
  | nrstAssert
  /-- RST_SWRST (R469): A paired write of RST.SWRST requests a warm reset. -/
  | rstSwrst (agent : AgentId) (value compl : Word)
  /-- RST_ESCRST (R469): A paired write of RST.ESCRST requests an escalation reset. -/
  | rstEscrst (agent : AgentId) (value compl : Word)
  /-- WDOG_ENABLE (R512): A paired write of CTRL.EN starts the watchdog until warm reset. -/
  | wdogEnable (agent : AgentId)
  /-- WDOG_KICK (R512): A write of 0x0000_4B49 to KICK restarts the count; any other value sets BADKICK. -/
  | wdogKick (agent : AgentId) (value : Word)
  /-- WDOG_WARN (R512): COUNT reaches WARN and IRQ_RAW.WARN is set. -/
  | wdogWarn
  /-- WDOG_EXPIRY (R512): The count expires and a warm reset with cause WDOG is taken. -/
  | wdogExpiry
  /-- BOOT_SEQUENCE (R472): The boot ROM runs its steps and passes control to the chosen image, or fails. -/
  | bootSequence (giveUp agree : Bool)
  /-- BOOT_RETRY (R474): One second after a failed boot, while FAILS is below RETRY, a warm reset is requested. -/
  | bootRetry
  /-- POWER_UP (R482): VIN exceeds 1.68 V and the regulators, references and PLLs come up in order. -/
  | powerUp (lost : Bool)
  /-- POWER_UP_RETRY (R482): The start conditions are not met within 5 ms: regulators off, wait 10 ms and start again. -/
  | powerUpRetry
  /-- RAIL_FAULT (R480): A regulator outside ±8 % for 1 µs raises RAIL. -/
  | railFault (rail : Fin 6)
  /-- POWER_FAULT (R480): A BK0-BK4 output outside ±15 % for 100 µs forces the power-down. -/
  | powerFault (rail : Fin 5)
  /-- PWR_DOMAIN_ON (R487): A PWR.REQ to switch a domain on. -/
  | pwrDomainOn (agent : AgentId) (domain : Fin 64)
  /-- PWR_DOMAIN_OFF (R488): A PWR.REQ to switch a domain off. -/
  | pwrDomainOff (agent : AgentId) (domain : Fin 64)
  /-- PWR_SWITCH_DONE (R490): A domain switch completes and sets DONE. -/
  | pwrSwitchDone
  /-- PWR_RAILCTL_BST (R481): A paired write of RAILCTL.BST switches BST on or off. -/
  | pwrRailctlBst (agent : AgentId) (on : Bool)
  /-- PWR_DRAM_RAILS_UP (R484): A paired write of RAILCTL.DRAM = 1 starts the DRAM rail sequence. -/
  | pwrDramRailsUp (agent : AgentId)
  /-- PWR_DRAM_RAILS_READY (R484): The DRAM rail sequence ends and DRAM_UP rises. -/
  | pwrDramRailsReady
  /-- PWR_DRAM_RAILS_DOWN (R485): A paired write of RAILCTL.DRAM = 0 takes the DRAM rails down. -/
  | pwrDramRailsDown (agent : AgentId)
  /-- PWR_VIN_AVERAGE (R476): Each 1 ms average of VIN is complete and PWR.VIN updates. -/
  | pwrVinAverage (mV : BitVec 12)
  /-- VIO_SENSE (R478): A bank's supply rises from below 1.0 V and its level is sensed. -/
  | vioSense (bank : Fin 2) (level : Fin 4)
  /-- CLK_CORESEL (R493): A write of CLK.CFG moves the cores to MAIN while CPLL relocks. -/
  | clkCoresel (agent : AgentId) (value : Word)
  /-- CLK_CORE_SWITCH_DONE (R493): CPLL locks at the new rate and the cores change back. -/
  | clkCoreSwitchDone
  /-- PLL_LOCK_LOSS (R492): A running PLL loses lock and LOCK_CNT counts it. -/
  | pllLockLoss (pll : Fin 5)
  /-- CLK_MEASURE_DONE (R494): The 1 ms measurement of the selected clock domain completes. -/
  | clkMeasureDone (kHz : BitVec 24)
  /-- STAVE_COMMAND_ENTRY (R237): A write of CMD_HI enters a command into the Stave queue, increments CMD_SEQ, or is held while the queue is full. -/
  | staveCommandEntry (unit : Fin 5) (agent : AgentId) (lo hi : Word)
  /-- TAG_FIELD_CHANGE (R296): A reader field appears at or leaves the tag island while it has a supply, changing STATUS.FIELD and setting IRQ_RAW.FIELD. -/
  | tagFieldChange (present : Bool)
  /-- CARD_TIMEOUT (R317): A contact-card waiting time (initial, character or block waiting time) expires on the CARD 1 MHz tick, ending the command with TIMEOUT or OUTCOME_UNKNOWN and counting TO_CNT. -/
  | cardTimeout (slot : Fin 4)
  /-- AFE_FAULT (R361): An AFE fault makes MSTATE AFE_FAULT, raises island source 1 and writes an AFE_FAULT cellar-book entry. -/
  | afeFault
  /-- TWFO_PULSE_END (R427): One millisecond after the takeover decision TWFO falls, and the device enters ACTIVE_ALONE, takes Vine ID 0, revives its replicated instances and sends MSI-X vector 0. -/
  | twfoPulseEnd
  /-- TAMPER_SOURCE_FALL (R437): An alarm source's level falls, so TAMP.RAW clears, the source may be raised again and its flag may be cleared. -/
  | tamperSourceFall (source : Fin 32)
  /-- PLL_LOCK_RETURN (R492): A PLL that lost lock locks again and DRAM accesses waiting on DPLL proceed. -/
  | pllLockReturn (pll : Fin 5)
  /-- GPIO_PIN_CHANGE (R34): The level of a GPIO input pin changes, which drives its interrupt source 32-95. -/
  | gpioPinChange (pin : Fin 64) (level : Bool)
  /-- NRST_RELEASE (R470): NRST returns high, ending the warm reset held while it was low so the boot ROM runs. -/
  | nrstRelease
  deriving DecidableEq, Repr

end Sys2Proof
end

