-- ==== Sys2Proof/Decode.lean ====
section
/-!
DEFINITION. The commands that words of the opcode table spell, and the instruction that a core's word spells. The table
gives no row any bits: it lists commands of a block, and no field of any of them is placed in a word. A core fetches
words of 32 bits (R59).
-/
namespace Sys2Proof

/-- The command of a table word: none, as no row has bits. -/
def decodeTableWord (nbits w : Nat) : Option Instr :=
  match nbits, w with
  | _, _ => none

/-! ### Words of a core (R59) -/

/-- The fields of an instruction word. -/
def fieldD (w : Word) : BitVec 5 := w.extractLsb' 21 5
def fieldS (w : Word) : BitVec 5 := w.extractLsb' 16 5
def fieldT (w : Word) : BitVec 5 := w.extractLsb' 11 5
def fieldC (w : Word) : BitVec 5 := w.extractLsb' 6 5
def fieldSeg (w : Word) : BitVec 3 := w.extractLsb' 13 3
def imm12 (w : Word) : BitVec 12 := w.extractLsb' 4 12
def imm13 (w : Word) : BitVec 13 := w.extractLsb' 0 13
def imm16 (w : Word) : BitVec 16 := w.extractLsb' 0 16

/-- What an unlisted major opcode, function, sub-op or cache operation does (R59, R72): ILLEGAL, as an ADD whose c field
is not zero. -/
def illegalWord (n : Fin 11) : Instr := .add n 0 0 0 1

/-- Major 0x00, by the function field. -/
def decodeR0 (n : Fin 11) (w : Word) : Instr :=
  let d := fieldD w
  let s := fieldS w
  let t := fieldT w
  let c := fieldC w
  match (w.extractLsb' 0 6).toNat with
  | 0x00 => .add n d s t c
  | 0x01 => .adc n d s t c
  | 0x02 => .sub n d s t c
  | 0x03 => .sbc n d s t c
  | 0x04 => .and n d s t c
  | 0x05 => .ior n d s t c
  | 0x06 => .xor n d s t c
  | 0x07 => .andn n d s t c
  | 0x08 => .shl n d s t c
  | 0x09 => .shr n d s t c
  | 0x0A => .asr n d s t c
  | 0x0B => .ror n d s t c
  | 0x0C => .cmplt n d s t c
  | 0x0D => .cmpltu n d s t c
  | 0x10 => .gotor n d s t c
  | 0x11 => .callr n d s t c
  | _ => illegalWord n

/-- Major 0x01, by the function field. -/
def decodeR1 (n : Fin 11) (w : Word) : Instr :=
  let d := fieldD w
  let s := fieldS w
  let t := fieldT w
  let c := fieldC w
  match (w.extractLsb' 0 6).toNat with
  | 0x00 => .mul n d s t c
  | 0x01 => .mull n d s t c
  | 0x02 => .mullu n d s t c
  | 0x04 => .div n d s t c
  | 0x05 => .divu n d s t c
  | 0x06 => .rem n d s t c
  | 0x07 => .remu n d s t c
  | 0x08 => .csel n d s t c
  | 0x0C => .par n d s c
  | 0x0D => .brevW n d s c
  | 0x0E => .brevB n d s c
  | 0x0F => .bswap n d s c
  | 0x10 => .clz n d s c
  | 0x14 => .crcstep n d s t c
  | 0x15 => .crcfin n d s c
  | _ => illegalWord n

/-- Major 0x1B, by the sub-op. -/
def decodeY (n : Fin 11) (w : Word) : Instr :=
  match (w.extractLsb' 0 4).toNat with
  | 0x0 => .segld n (fieldS w) (imm12 w)
  | 0x1 => .segrd n (fieldD w) (imm12 w)
  | 0x2 => .hold n (imm12 w)
  | 0x3 => .release n
  | 0x4 => .retx n
  | 0x5 => .feat n (fieldD w) (imm12 w)
  | 0x6 => .mfs n (fieldD w) (imm12 w)
  | 0x7 => .mts n (fieldS w) (imm12 w)
  | 0x8 => .wait n
  | 0x9 => .fence n
  | 0xA => .lexit n (imm12 w)
  | 0xB => .trap n (imm12 w)
  | _ => illegalWord n

/-- Major 0x1C, by the operation in the d field (R72). -/
def decodeCache (n : Fin 11) (w : Word) : Instr :=
  let b := fieldS w
  match (fieldD w).toNat with
  | 0 => .dclean n b (fieldSeg w) (imm13 w)
  | 1 => .dinv n b (fieldSeg w) (imm13 w)
  | 2 => .dflush n b (fieldSeg w) (imm13 w)
  | 3 => .iinv n b (fieldSeg w) (imm13 w)
  | 8 => .dcleanAll { core := n }
  | 9 => .dflushAll { core := n }
  | 10 => .iinvAll { core := n }
  | _ => illegalWord n

/-- The instruction that a word spells for a core (R59). -/
def decodeCoreWord (n : Fin 11) (w : Word) : Instr :=
  let d := fieldD w
  let s := fieldS w
  let g := fieldSeg w
  let m := imm13 w
  let i := imm16 w
  match (w.extractLsb' 26 6).toNat with
  | 0x00 => decodeR0 n w
  | 0x01 => decodeR1 n w
  | 0x02 => .addk n d s i
  | 0x03 => .andk n d s i
  | 0x04 => .iork n d s i
  | 0x05 => .xork n d s i
  | 0x06 => .hik n d i
  | 0x07 => .cmpltk n d s i
  | 0x08 => .ldw n d s g m .none
  | 0x09 => .ldh n d s g m .none
  | 0x0A => .ldhu n d s g m .none
  | 0x0B => .ldb n d s g m .none
  | 0x0C => .ldbu n d s g m .none
  | 0x0D => .stw n d s g m .none
  | 0x0E => .sth n d s g m .none
  | 0x0F => .stb n d s g m .none
  | 0x10 => .breq n d s i
  | 0x11 => .brne n d s i
  | 0x12 => .brlt n d s i
  | 0x13 => .brge n d s i
  | 0x14 => .brltu n d s i
  | 0x15 => .brgeu n d s i
  | 0x16 => .goto n (w.extractLsb' 0 26)
  | 0x17 => .call n (w.extractLsb' 0 26)
  | 0x19 => .loop0 n d (w.extractLsb' 9 12) (w.extractLsb' 0 9)
  | 0x1A => .loop1 n d (w.extractLsb' 9 12) (w.extractLsb' 0 9)
  | 0x1B => decodeY n w
  | 0x1C => decodeCache n w
  | _ => illegalWord n

end Sys2Proof
end

