-- ==== Sys2Proof/Machine/Tbl.lean ====
section
/-!
DEFINITION. Tables keyed by a number, and the arithmetic of bit fields and byte strings that every
block uses. Bit numbering is R1, byte order R2.
-/
namespace Sys2Proof.Machine

/-- The entry of a table at a key, if it has one. -/
def tfind {α : Type} (t : Tbl α) (k : Nat) : Option α :=
  match t with
  | [] => none
  | (j, v) :: r => if j = k then some v else tfind r k

/-- The value of a table at a key; `d` where the table has no entry. -/
def tget {α : Type} (d : α) (t : Tbl α) (k : Nat) : α := (tfind t k).getD d

/-- A table without its entries at a key. -/
def tdel {α : Type} (t : Tbl α) (k : Nat) : Tbl α := t.filter fun e => !(e.1 == k)

/-- An entry put before the first entry whose key is greater. -/
def tins {α : Type} (t : Tbl α) (k : Nat) (v : α) : Tbl α :=
  match t with
  | [] => [(k, v)]
  | (j, w) :: r => if k < j then (k, v) :: (j, w) :: r else (j, w) :: tins r k v

/-- A table with one value at a key, the rest as before. -/
def tset {α : Type} (t : Tbl α) (k : Nat) (v : α) : Tbl α := tins (tdel t k) k v

/-- Every entry of a table changed by its key and value. -/
def tmap {α : Type} (t : Tbl α) (f : Nat → α → α) : Tbl α := t.map fun e => (e.1, f e.1 e.2)

/-- A table without the entries a test picks. -/
def tdrop {α : Type} (t : Tbl α) (p : Nat → α → Bool) : Tbl α := t.filter fun e => !(p e.1 e.2)

/-- The field of `w` bits from bit `lo` of a word (R1). -/
def fld (v : Word) (lo w : Nat) : Nat := v.toNat / 2 ^ lo % 2 ^ w

/-- Bit `i` of a word. -/
def bitAt (v : Word) (i : Nat) : Bool := v.toNat.testBit i

/-- A word from a number. -/
def wd (n : Nat) : Word := BitVec.ofNat 32 n

/-- A number's bit as 0 or 1. -/
def b01 (b : Bool) : Nat := if b then 1 else 0

/-- `x` placed at bit `lo`. -/
def at' (x lo : Nat) : Nat := x * 2 ^ lo

/-- A flag placed at bit `lo`. -/
def flagAt (b : Bool) (lo : Nat) : Nat := if b then 2 ^ lo else 0

/-- The field of `w` bits from bit `lo` of a number. -/
def nfld (n lo w : Nat) : Nat := n / 2 ^ lo % 2 ^ w

/-- A word with bit `i` set. -/
def setBitW (v : Word) (i : Nat) : Word := v ||| wd (2 ^ i)

/-- A word with bit `i` cleared. -/
def clrBitW (v : Word) (i : Nat) : Word := v &&& ~~~ wd (2 ^ i)

/-- A word with bit `i` as given. -/
def putBitW (v : Word) (i : Nat) (b : Bool) : Word := if b then setBitW v i else clrBitW v i

/-- A word with the field of `w` bits from bit `lo` replaced. -/
def putFld (v : Word) (lo w x : Nat) : Word :=
  (v &&& ~~~ wd ((2 ^ w - 1) * 2 ^ lo)) ||| wd (x % 2 ^ w * 2 ^ lo)

/-- A number sign-extended from `w` bits. -/
def sext (n w : Nat) : Int :=
  if n % 2 ^ w < 2 ^ (w - 1) then (n % 2 ^ w : Nat) else (n % 2 ^ w : Nat) - (2 ^ w : Nat)

/-- A number from bytes, the least significant first (R2). -/
def leNat (bs : List Byte) : Nat :=
  match bs with
  | [] => 0
  | b :: r => b.toNat + 256 * leNat r

/-- A number from bytes, the most significant first. -/
def beNat (bs : List Byte) : Nat := leNat bs.reverse

/-- `n` bytes of a number, the least significant first (R2). -/
def leBytes (n x : Nat) : List Byte :=
  match n with
  | 0 => []
  | k + 1 => BitVec.ofNat 8 x :: leBytes k (x / 256)

/-- `n` bytes of a number, the most significant first. -/
def beBytes (n x : Nat) : List Byte := (leBytes n x).reverse

/-- A word from four bytes, little-endian (R2). -/
def wordOf (bs : List Byte) : Word := wd (leNat (bs.take 4))

/-- A byte of a byte string; 0 past its end. -/
def byteAt (bs : List Byte) (i : Nat) : Byte := bs.getD i 0

/-- Little-endian number of `n` bytes at place `i` of a byte string. -/
def leAt (bs : List Byte) (i n : Nat) : Nat := leNat ((bs.drop i).take n)

/-- A byte string cut or filled with zeros to `n` bytes. -/
def fitTo (n : Nat) (bs : List Byte) : List Byte := (bs ++ List.replicate n 0).take n

/-- Byte-wise exclusive or. -/
def xorBytes (a b : List Byte) : List Byte := List.zipWith (· ^^^ ·) a b

/-- A byte string with the bytes from `i` replaced by `new`. -/
def overlay (bs : List Byte) (i : Nat) (new : List Byte) : List Byte :=
  bs.take i ++ new ++ bs.drop (i + new.length)

/-- The number of one bits among the low `w` bits. -/
def popcount (n w : Nat) : Nat :=
  match w with
  | 0 => 0
  | k + 1 => n % 2 + popcount (n / 2) k

/-- The lowest `k` below `n` that passes a test. -/
def firstBelow (n : Nat) (p : Nat → Bool) : Option Nat := (List.range n).find? p

/-- A list with the element at a place replaced. -/
def listSet {α : Type} (l : List α) (i : Nat) (v : α) : List α := l.set i v

end Sys2Proof.Machine
end

