-- ==== Sys2Proof/Machine/Aes.lean ====
section
/-!
DEFINITION. AES (FIPS 197), as R156, R180, R190 and R206 name it (notes/assumptions/20.md). A block is a
list of 16 bytes, a key of 16, 24 or 32.
-/
namespace Sys2Proof.Machine

/-- Multiplication by x in the field of AES. -/
def xtime (b : Byte) : Byte := (b <<< 1) ^^^ (if b.msb then 0x1B else 0)

/-- Multiplication in the field of AES, `n` bits of the second factor. -/
def gfMul (a : Byte) (b n : Nat) : Byte :=
  match n with
  | 0 => 0
  | k + 1 => (if b % 2 = 1 then a else 0) ^^^ gfMul (xtime a) (b / 2) k

/-- The inverse in the field of AES, 0 for 0: the 254th power. -/
def gfInv (a : Byte) : Byte :=
  let m (x y : Byte) : Byte := gfMul x y.toNat 8
  let a2 := m a a
  let a3 := m a2 a
  let a12 := let a6 := m a3 a3; m a6 a6
  let a15 := m a12 a3
  let a240 := let p := m a15 a15; let q := m p p; let r := m q q; m r r
  m (m a240 a12) a2

/-- The S-box. -/
def sbox (a : Byte) : Byte :=
  let b := gfInv a
  b ^^^ b.rotateLeft 1 ^^^ b.rotateLeft 2 ^^^ b.rotateLeft 3 ^^^ b.rotateLeft 4 ^^^ 0x63

/-- The inverse S-box. -/
def invSbox (a : Byte) : Byte :=
  gfInv (a.rotateLeft 1 ^^^ a.rotateLeft 3 ^^^ a.rotateLeft 6 ^^^ 0x05)

/-- A block's byte with row `r` and column `c` stands at 4c + r; rows shift left by their number. -/
def shiftRows (b : List Byte) : List Byte := (List.range 16).map fun i => byteAt b (5 * i % 16)

def invShiftRows (b : List Byte) : List Byte := (List.range 16).map fun i => byteAt b (13 * i % 16)

/-- Each column multiplied by a circulant matrix with first row `m`. -/
def mixWith (m : List Nat) (b : List Byte) : List Byte :=
  (List.range 16).map fun i =>
    (List.range 4).foldl (fun x k =>
      x ^^^ gfMul (byteAt b (i / 4 * 4 + (i + k) % 4)) (m.getD k 0) 4) 0

def mixColumns : List Byte → List Byte := mixWith [2, 3, 1, 1]

def invMixColumns : List Byte → List Byte := mixWith [14, 11, 13, 9]

/-- The round constant of an expansion step. -/
def rcon (n : Nat) : Byte :=
  match n with
  | 0 => 1
  | k + 1 => xtime (rcon k)

/-- The next word of a key schedule whose last `nk` words are `ws`, for word number `i`. -/
def nextWord (nk i : Nat) (ws : List (List Byte)) : List Byte :=
  let t := ws.getD (nk - 1) []
  let u :=
    if i % nk = 0 then
      xorBytes (((t.drop 1) ++ t.take 1).map sbox) [rcon (i / nk - 1), 0, 0, 0]
    else if nk > 6 && i % nk = 4 then t.map sbox else t
  xorBytes (ws.getD 0 []) u

/-- Words of a key schedule from number `i`; `ws` are the last `nk`. -/
def expandFrom (nk i n : Nat) (ws : List (List Byte)) : List (List Byte) :=
  match n with
  | 0 => []
  | k + 1 =>
    let w := nextWord nk i ws
    w :: expandFrom nk (i + 1) k (ws.drop 1 ++ [w])

/-- Four-byte words of a byte string. -/
def chunks (k : Nat) (bs : List Byte) : List (List Byte) :=
  (List.range ((bs.length + k - 1) / k)).map fun i => (bs.drop (k * i)).take k

/-- Round keys of a key, 16 bytes each. -/
def roundKeys (key : List Byte) : List (List Byte) :=
  let nk := key.length / 4
  let ws := chunks 4 key
  chunks 16 ((ws ++ expandFrom nk nk (4 * (nk + 7) - nk) ws).flatten)

/-- The AES cipher on one block. -/
def aesEnc (key blk : List Byte) : List Byte :=
  match roundKeys key with
  | [] => blk
  | k0 :: ks =>
    let mid := ks.dropLast.foldl
      (fun b k => xorBytes (mixColumns (shiftRows (b.map sbox))) k) (xorBytes blk k0)
    xorBytes (shiftRows (mid.map sbox)) (ks.getLastD [])

/-- The inverse AES cipher on one block. -/
def aesDec (key blk : List Byte) : List Byte :=
  match (roundKeys key).reverse with
  | [] => blk
  | k0 :: ks =>
    let mid := ks.dropLast.foldl
      (fun b k => invMixColumns (xorBytes ((invShiftRows b).map invSbox) k)) (xorBytes blk k0)
    xorBytes ((invShiftRows mid).map invSbox) (ks.getLastD [])

end Sys2Proof.Machine
end

