-- ==== Sys2Proof/Machine/Des.lean ====
section
/-!
DEFINITION. DES and three-key TDES, as R170, R190 and R191 name them (notes/assumptions/20.md). Blocks and
keys are numbers of 64 bits, bit 1 of the standard the most significant.
-/
namespace Sys2Proof.Machine

/-- Bits of a `w`-bit number picked by a table of the standard: entry p is bit p counted from the most
significant as 1. -/
def desPick (w : Nat) (tab : List Nat) (x : Nat) : Nat :=
  tab.foldl (fun y p => 2 * y + x / 2 ^ (w - p) % 2) 0

/-- Initial permutation. -/
def desIP : List Nat :=
  (List.range 64).map fun i => (if i < 32 then 58 + i / 8 * 2 else 57 + (i / 8 - 4) * 2) - i % 8 * 8

/-- Final permutation: the inverse of the initial one. -/
def desFP : List Nat := (List.range 64).map fun i => (desIP.findIdx (· == i + 1)) + 1

/-- Expansion. -/
def desE : List Nat := (List.range 48).map fun i => (i / 6 * 4 + i % 6 + 31) % 32 + 1

def desP : List Nat :=
  [16, 7, 20, 21, 29, 12, 28, 17, 1, 15, 23, 26, 5, 18, 31, 10] ++
  [2, 8, 24, 14, 32, 27, 3, 9, 19, 13, 30, 6, 22, 11, 4, 25]

/-- First choice of the key bits. -/
def desPC1 : List Nat :=
  ((List.range 28).map fun i => 57 + i / 8 - i % 8 * 8) ++
  ((List.range 24).map fun i => 63 - i / 8 - i % 8 * 8) ++ [28, 20, 12, 4]

/-- Second choice of the key bits. -/
def desPC2 : List Nat :=
  [14, 17, 11, 24, 1, 5, 3, 28, 15, 6, 21, 10, 23, 19, 12, 4, 26, 8, 16, 7, 27, 20, 13, 2] ++
  [41, 52, 31, 37, 47, 55, 30, 40, 51, 45, 33, 48, 44, 49, 39, 56, 34, 53, 46, 42, 50, 36, 29, 32]

/-- The eight S-boxes, 64 nibbles each, row after row, the first entry most significant. -/
def desS : List Nat :=
  [0xE4D12FB83A6C59070F74E2D1A6CB953841E8D62BFC973A50FC8249175B3EA06D,
   0xF18E6B34972DC05A3D47F28EC01A69B50E7BA4D158C6932FD8A13F42B67C05E9,
   0xA09E63F51DC7B428D709346A285ECBF1D6498F30B12C5AE71AD069874FE3B52C,
   0x7DE3069A1285BC4FD8B56F03472C1AE9A690CB7DF13E52843F06A1D8945BC72E,
   0x2C417AB6853FD0E9EB2C47D150FA3986421BAD78F9C5630EB8C71E2D6F09A453,
   0xC1AF92680D34E75BAF427C9561DE0B389EF528C3704A1DB6432C95FABE17608D,
   0x4B2EF08D3C975A61D0B7491AE35C2F8614BDC37EAF6805926BD814A7950FE23C,
   0xD2846FB1A93E50C71FD8A374C56B0E927B419CE206ADF35821E74A8DFC90356B]

/-- The round function. -/
def desF (r k : Nat) : Nat :=
  let x := desPick 32 desE r ^^^ k
  let y := (List.range 8).foldl (fun y j =>
    let v := x / 2 ^ (42 - 6 * j) % 64
    let row := v / 32 * 2 + v % 2
    let col := v / 2 % 16
    16 * y + (desS.getD j 0) / 16 ^ (63 - (16 * row + col)) % 16) 0
  desPick 32 desP y

/-- The 16 round keys. -/
def desKeys (key : Nat) : List Nat :=
  let cd := desPick 64 desPC1 key
  (List.range 16).map fun i =>
    let n := if i = 0 then 1 else if i < 8 then 2 * i else if i < 15 then 2 * i - 1 else 28
    let rot (h : Nat) : Nat := (h * 2 ^ n) % 2 ^ 28 + h / 2 ^ (28 - n)
    desPick 56 desPC2 (rot (cd / 2 ^ 28) % 2 ^ 28 * 2 ^ 28 + rot (cd % 2 ^ 28) % 2 ^ 28)

/-- DES with round keys in a given order. -/
def desRounds (ks : List Nat) (blk : Nat) : Nat :=
  let x := desPick 64 desIP blk
  let lr := ks.foldl (fun (p : Nat × Nat) k => (p.2, p.1 ^^^ desF p.2 k)) (x / 2 ^ 32, x % 2 ^ 32)
  desPick 64 desFP (lr.2 * 2 ^ 32 + lr.1)

def desEnc (key blk : Nat) : Nat := desRounds (desKeys key) blk

def desDec (key blk : Nat) : Nat := desRounds (desKeys key).reverse blk

/-- Key `i` (0, 1, 2) of 24 key bytes. -/
def tdesKey (key : List Byte) (i : Nat) : Nat := beNat ((key.drop (8 * i)).take 8)

/-- TDES on a block of eight bytes: encrypt, decrypt, encrypt under the three keys. -/
def tdesEnc (key blk : List Byte) : List Byte :=
  beBytes 8 (desEnc (tdesKey key 2) (desDec (tdesKey key 1) (desEnc (tdesKey key 0) (beNat blk))))

def tdesDec (key blk : List Byte) : List Byte :=
  beBytes 8 (desDec (tdesKey key 0) (desEnc (tdesKey key 1) (desDec (tdesKey key 2) (beNat blk))))

end Sys2Proof.Machine
end

