-- ==== Sys2Proof/Machine/Modes.lean ====
section
/-!
DEFINITION. The constructions over a block cipher that R156, R180, R191 and R206 name: CTR_DRBG
(SP 800-90A), key wrap (RFC 3394), GCM (SP 800-38D) and the pieces of CCM, CMAC and XTS
(notes/assumptions/20.md).
-/
namespace Sys2Proof.Machine

/-- The block cipher of an ALG code of R193: 2 TDES, else AES. -/
def ciph (alg : Nat) (key blk : List Byte) : List Byte := if alg = 2 then tdesEnc key blk else aesEnc key blk

def deciph (alg : Nat) (key blk : List Byte) : List Byte := if alg = 2 then tdesDec key blk else aesDec key blk

/-- Block bytes of an ALG code. -/
def blockLen (alg : Nat) : Nat := if alg = 2 then 8 else 16

def zeros (n : Nat) : List Byte := List.replicate n 0

/-- A counter block incremented mod 2^(8·n) in its last `n` bytes, big-endian. -/
def incBlock (n : Nat) (b : List Byte) : List Byte :=
  let k := b.length - n
  b.take k ++ beBytes n (beNat (b.drop k) + 1)

/-! ### GCM -/

/-- The product in the field of GHASH, bits of `x` from the most significant. -/
def ghashMul (v z x n : Nat) : Nat :=
  match n with
  | 0 => z
  | k + 1 =>
    ghashMul (if v % 2 = 1 then v / 2 ^^^ (0xE1 * 2 ^ 120) else v / 2)
      (if x.testBit k then z ^^^ v else z) x k

/-- One block into a GHASH accumulator. -/
def ghashStep (h acc blk : List Byte) : List Byte :=
  beBytes 16 (ghashMul (beNat h) 0 (beNat (xorBytes acc blk)) 128)

/-- Blocks of a byte string, the last filled with zeros. -/
def paddedBlocks (bs : List Byte) : List (List Byte) := (chunks 16 bs).map (fitTo 16)

def ghash (h acc bs : List Byte) : List Byte := (paddedBlocks bs).foldl (ghashStep h) acc

/-- The closing block of GHASH. -/
def gcmLengths (aad ct : Nat) : List Byte := beBytes 8 (8 * aad) ++ beBytes 8 (8 * ct)

/-- The first counter block of a 12-byte IV. -/
def gcmJ0 (iv : List Byte) : List Byte := fitTo 12 iv ++ [0, 0, 0, 1]

/-- Key stream over blocks of input, the counter incremented before each (mod 2^32). -/
def gctr (key ctr : List Byte) (blks : List (List Byte)) : List Byte :=
  match blks with
  | [] => []
  | b :: r =>
    let c := incBlock 4 ctr
    xorBytes b (aesEnc key c) ++ gctr key c r

/-- The GCM tag of additional data and cipher text. -/
def gcmTag (key iv aad ct : List Byte) : List Byte :=
  let h := aesEnc key (zeros 16)
  xorBytes (ghashStep h (ghash h (ghash h (zeros 16) aad) ct) (gcmLengths aad.length ct.length))
    (aesEnc key (gcmJ0 iv))

/-- GCM sealing: cipher text and 16-byte tag. -/
def gcmSeal (key iv aad pt : List Byte) : List Byte × List Byte :=
  let ct := gctr key (gcmJ0 iv) (chunks 16 pt)
  (ct, gcmTag key iv aad ct)

/-- GCM opening; none when the tag fails. -/
def gcmOpen (key iv aad ct tag : List Byte) : Option (List Byte) :=
  if gcmTag key iv aad ct = tag then some (gctr key (gcmJ0 iv) (chunks 16 ct)) else none

/-! ### Key wrap -/

def wrapIv : List Byte := List.replicate 8 0xA6

/-- The wrapping steps over one pass: `t` counts from its start. -/
def wrapPass (key : List Byte) (t : Nat) (a : List Byte) (rs : List (List Byte)) :
    List Byte × List (List Byte) :=
  match rs with
  | [] => (a, [])
  | r :: rest =>
    let b := aesEnc key (a ++ r)
    let p := wrapPass key (t + 1) (xorBytes (b.take 8) (beBytes 8 t)) rest
    (p.1, b.drop 8 :: p.2)

/-- The unwrapping steps over one pass, registers last first. -/
def unwrapPass (key : List Byte) (t : Nat) (a : List Byte) (rs : List (List Byte)) :
    List Byte × List (List Byte) :=
  match rs with
  | [] => (a, [])
  | r :: rest =>
    let b := aesDec key (xorBytes a (beBytes 8 t) ++ r)
    let p := unwrapPass key (t - 1) (b.take 8) rest
    (p.1, b.drop 8 :: p.2)

/-- RFC 3394 wrapping of a multiple of 8 bytes with the default initial value. -/
def keyWrap (key pt : List Byte) : List Byte :=
  let rs := chunks 8 pt
  let p := (List.range 6).foldl (fun (p : List Byte × List (List Byte)) j =>
    wrapPass key (j * rs.length + 1) p.1 p.2) (wrapIv, rs)
  p.1 ++ p.2.flatten

/-- RFC 3394 unwrapping; none when the check value fails. -/
def keyUnwrap (key ct : List Byte) : Option (List Byte) :=
  let rs := (chunks 8 (ct.drop 8)).reverse
  let n := rs.length
  let p := (List.range 6).foldl (fun (p : List Byte × List (List Byte)) j =>
    unwrapPass key ((6 - j) * n) p.1 p.2) (ct.take 8, rs)
  if p.1 = wrapIv then some p.2.reverse.flatten else none

/-! ### CMAC, CCM and XTS -/

/-- Doubling in the field of CMAC and XTS: `big` most significant bit first (SP 800-38B), else the byte
order of IEEE 1619. -/
def doubleBlock (big : Bool) (b : List Byte) : List Byte :=
  let n := if big then beNat b else leNat b
  let w := 8 * b.length
  let r := if b.length = 8 then 0x1B else 0x87
  let m := 2 * n % 2 ^ w ^^^ (if 2 ^ (w - 1) ≤ n then r else 0)
  if big then beBytes b.length m else leBytes b.length m

/-- The CMAC subkeys K1 and K2. -/
def cmacKey (alg : Nat) (key : List Byte) (second : Bool) : List Byte :=
  let k1 := doubleBlock true (ciph alg key (zeros (blockLen alg)))
  if second then doubleBlock true k1 else k1

/-- The last block of a CMAC message under its subkey. -/
def cmacLast (key b : List Byte) : List Byte :=
  if b.length = 16 then xorBytes b (cmacKey 0 key false)
  else xorBytes (fitTo 16 (b ++ [0x80])) (cmacKey 0 key true)

def cmacChain (key acc : List Byte) (blks : List (List Byte)) : List Byte :=
  match blks with
  | [] => acc
  | [b] => aesEnc key (xorBytes acc (cmacLast key b))
  | b :: r => cmacChain key (aesEnc key (xorBytes acc b)) r

/-- AES-CMAC of a message that is not empty. -/
def cmacOf (key msg : List Byte) : List Byte := cmacChain key (zeros 16) (chunks 16 msg)

/-- The tweaks of the 16-byte blocks of a data unit in XTS (IEEE 1619). -/
def xtsTweaks (tweakKey : List Byte) (dataUnit n : Nat) : List (List Byte) :=
  match n with
  | 0 => []
  | k + 1 => (List.range k).foldl (fun ts _ => ts ++ [doubleBlock false (ts.getLastD [])])
      [aesEnc tweakKey (leBytes 16 dataUnit)]

/-- XTS over whole blocks. -/
def xtsWith (f : List Byte → List Byte) (tweaks : List (List Byte)) (blks : List (List Byte)) : List Byte :=
  (blks.zip tweaks).flatMap fun b => xorBytes (f (xorBytes b.1 b.2)) b.2

/-- AES in XTS mode on a data unit of whole blocks. -/
def xtsEnc (key tweakKey : List Byte) (dataUnit : Nat) (pt : List Byte) : List Byte :=
  xtsWith (aesEnc key) (xtsTweaks tweakKey dataUnit (pt.length / 16)) (chunks 16 pt)

def xtsDec (key tweakKey : List Byte) (dataUnit : Nat) (ct : List Byte) : List Byte :=
  xtsWith (aesDec key) (xtsTweaks tweakKey dataUnit (ct.length / 16)) (chunks 16 ct)

/-- The block B0 of CCM, its length code of 15 − the nonce length, and the encoding of the length of the
additional data. -/
def ccmB0 (nonce : List Byte) (taglen aad tot : Nat) : List Byte :=
  let q := 15 - nonce.length
  BitVec.ofNat 8 (flagAt (aad != 0) 6 + (taglen - 2) / 2 * 8 + (q - 1)) :: nonce ++ beBytes q tot

def ccmAadLen (aad : Nat) : List Byte :=
  if aad = 0 then [] else if aad < 0xFF00 then beBytes 2 aad else [0xFF, 0xFE] ++ beBytes 4 aad

/-- The CCM counter block `i`. -/
def ccmCtr (nonce : List Byte) (i : Nat) : List Byte :=
  let q := 15 - nonce.length
  BitVec.ofNat 8 (q - 1) :: nonce ++ beBytes q i

/-! ### CTR_DRBG -/

/-- The internal state of an instance: key and V (R156). -/
structure Drbg where
  key : List Byte
  v : List Byte
  deriving DecidableEq, Repr

/-- Output blocks of the counter: `n` blocks and the V after them. -/
def drbgBlocks (key v : List Byte) (n : Nat) : List Byte × List Byte :=
  match n with
  | 0 => ([], v)
  | k + 1 =>
    let v1 := incBlock 16 v
    let r := drbgBlocks key v1 k
    (aesEnc key v1 ++ r.1, r.2)

/-- The update of SP 800-90A with 48 bytes. -/
def Drbg.update (d : Drbg) (data : List Byte) : Drbg :=
  let x := xorBytes (drbgBlocks d.key d.v 3).1 (fitTo 48 data)
  { key := x.take 32, v := x.drop 32 }

/-- Instantiation from a seed and a personalisation string, 48 bytes each. -/
def Drbg.start (seed pers : List Byte) : Drbg :=
  ({ key := zeros 32, v := zeros 16 } : Drbg).update (xorBytes (fitTo 48 seed) (fitTo 48 pers))

/-- One request: 64 bytes and the state after. -/
def Drbg.generate (d : Drbg) : List Byte × Drbg :=
  let r := drbgBlocks d.key d.v 4
  (r.1, ({ d with v := r.2 } : Drbg).update [])

end Sys2Proof.Machine
end

