-- ==== Sys2Proof/Machine/Sha.lean ====
section
/-!
DEFINITION. The hash functions of R213: SHA-2 (FIPS 180-4) and SHA-3 (FIPS 202), block by block, and HMAC
(FIPS 198-1) and the key derivation of R175 (notes/assumptions/20.md).
-/
namespace Sys2Proof.Machine

/-- The `k`-th root of `x` by bits from bit `n` down. -/
def rootBits (k x n acc : Nat) : Nat :=
  match n with
  | 0 => acc
  | m + 1 => if (acc + 2 ^ m) ^ k ≤ x then rootBits k x m (acc + 2 ^ m) else rootBits k x m acc

/-- The first `n` primes from a candidate on. -/
def primesFrom (c n fuel : Nat) : List Nat :=
  match fuel with
  | 0 => []
  | f + 1 =>
    if n = 0 then []
    else if (List.range c).all fun d => d < 2 || c % d != 0 then c :: primesFrom (c + 1) (n - 1) f
    else primesFrom (c + 1) n f

def primes80 : List Nat := primesFrom 2 80 410

/-- The first `w` bits of the fraction of the square root of a number. -/
def sqrtFrac (w p : Nat) : Nat := rootBits 2 (p * 2 ^ (2 * w)) (w + 6) 0 % 2 ^ w

/-- The first `w` bits of the fraction of the cube root of a number. -/
def cbrtFrac (w p : Nat) : Nat := rootBits 3 (p * 2 ^ (3 * w)) (w + 4) 0 % 2 ^ w

def sha256K : List Nat := (primes80.take 64).map (cbrtFrac 32)

def sha512K : List Nat := primes80.map (cbrtFrac 64)

/-- Rotation right of a `w`-bit word. -/
def rotr (w x n : Nat) : Nat := x / 2 ^ n + x % 2 ^ n * 2 ^ (w - n)

/-- The rotations of the four sigma functions: Σ0, Σ1, then σ0, σ1 with a shift last. -/
def sig (w x : Nat) (r : List Nat) : Nat :=
  rotr w x (r.getD 0 0) ^^^ rotr w x (r.getD 1 0) ^^^ rotr w x (r.getD 2 0)

def sigShift (w x : Nat) (r : List Nat) : Nat :=
  rotr w x (r.getD 0 0) ^^^ rotr w x (r.getD 1 0) ^^^ x / 2 ^ r.getD 2 0

/-- The message schedule from the last 16 words, `n` more words. -/
def sha2Sched (w : Nat) (s0 s1 : List Nat) (n : Nat) (ws : List Nat) : List Nat :=
  match n with
  | 0 => []
  | k + 1 =>
    let x := (sigShift w (ws.getD 14 0) s1 + ws.getD 9 0 + sigShift w (ws.getD 1 0) s0 + ws.getD 0 0) % 2 ^ w
    x :: sha2Sched w s0 s1 k (ws.drop 1 ++ [x])

/-- One SHA-2 round. -/
def sha2Round (w : Nat) (b0 b1 : List Nat) (h : List Nat) (kw : Nat) : List Nat :=
  match h with
  | [a, b, c, d, e, f, g, hh] =>
    let t1 := hh + sig w e b1 + ((e &&& f) ^^^ ((2 ^ w - 1 - e) &&& g)) + kw
    let t2 := sig w a b0 + ((a &&& b) ^^^ (a &&& c) ^^^ (b &&& c))
    [(t1 + t2) % 2 ^ w, a, b, c, (d + t1) % 2 ^ w, e, f, g]
  | _ => h

/-- One SHA-2 block with words of `w` bits. -/
def sha2Block (w : Nat) (h : List Nat) (blk : List Byte) : List Nat :=
  let m := (chunks (w / 8) blk).map beNat
  let ks := if w = 32 then sha256K else sha512K
  let s0 := if w = 32 then [7, 18, 3] else [1, 8, 7]
  let s1 := if w = 32 then [17, 19, 10] else [19, 61, 6]
  let b0 := if w = 32 then [2, 13, 22] else [28, 34, 39]
  let b1 := if w = 32 then [6, 11, 25] else [14, 18, 41]
  let ws := m ++ sha2Sched w s0 s1 (ks.length - 16) m
  let h' := (List.zipWith (· + ·) ks ws).foldl (sha2Round w b0 b1) h
  List.zipWith (fun x y => (x + y) % 2 ^ w) h h'

/-- Rotation left of a 64-bit lane. -/
def rotl64 (x n : Nat) : Nat := rotr 64 x ((64 - n % 64) % 64)

/-- The bits of the round-constant register of FIPS 202 after `n` steps. -/
def keccakLfsr (n : Nat) : Nat :=
  match n with
  | 0 => 1
  | k + 1 => let r := keccakLfsr k * 2; if 256 ≤ r then (r - 256) ^^^ 0x71 else r

def keccakRC (i : Nat) : Nat :=
  (List.range 7).foldl (fun x j => x + keccakLfsr (7 * i + j) % 2 * 2 ^ (2 ^ j - 1)) 0

/-- The lanes and rotation offsets in the order of the ρ and π walk: (x, y) and the offset. -/
def rhoWalk (n x y t : Nat) : List (Nat × Nat) :=
  match n with
  | 0 => []
  | k + 1 => (x + 5 * y, (t + 1) * (t + 2) / 2 % 64) :: rhoWalk k y ((2 * x + 3 * y) % 5) (t + 1)

def rhoOffsets : List (Nat × Nat) := rhoWalk 24 1 0 0

/-- One Keccak-f[1600] round on 25 lanes, lane (x, y) at x + 5y. -/
def keccakRound (a : List Nat) (rc : Nat) : List Nat :=
  let l (i : Nat) : Nat := a.getD i 0
  let c := (List.range 5).map fun x => l x ^^^ l (x + 5) ^^^ l (x + 10) ^^^ l (x + 15) ^^^ l (x + 20)
  let d := (List.range 5).map fun x => c.getD ((x + 4) % 5) 0 ^^^ rotl64 (c.getD ((x + 1) % 5) 0) 1
  let t := a.mapIdx fun i v => v ^^^ d.getD (i % 5) 0
  let off (i : Nat) : Nat := ((rhoOffsets.find? fun e => e.1 == i).map (·.2)).getD 0
  let b := (List.range 25).map fun i =>
    let x := i % 5
    let y := i / 5
    let j := (x + 3 * y) % 5 + 5 * x
    rotl64 (t.getD j 0) (off j)
  let e := (List.range 25).map fun i =>
    let x := i % 5
    let y := i / 5
    b.getD i 0 ^^^ ((2 ^ 64 - 1 - b.getD ((x + 1) % 5 + 5 * y) 0) &&& b.getD ((x + 2) % 5 + 5 * y) 0)
  e.mapIdx fun i v => if i = 0 then v ^^^ rc else v

def keccakF (a : List Nat) : List Nat := ((List.range 24).map keccakRC).foldl keccakRound a

/-- One SHA-3 block absorbed. -/
def sha3Block (a : List Nat) (blk : List Byte) : List Nat :=
  let m := (chunks 8 blk).map leNat
  keccakF (a.mapIdx fun i v => v ^^^ m.getD i 0)

/-- An algorithm of R213: family, digest bytes and block bytes. -/
structure HashAlg where
  sha3 : Bool
  digest : Nat
  block : Nat
  deriving DecidableEq, Repr

/-- The algorithm of an ALG code (R213). -/
def hashAlg (alg : Nat) : Option HashAlg :=
  match alg with
  | 0x01 => some ⟨false, 28, 64⟩
  | 0x02 => some ⟨false, 32, 64⟩
  | 0x03 => some ⟨false, 48, 128⟩
  | 0x04 => some ⟨false, 64, 128⟩
  | 0x05 => some ⟨false, 32, 128⟩
  | 0x11 => some ⟨true, 32, 136⟩
  | 0x12 => some ⟨true, 48, 104⟩
  | 0x13 => some ⟨true, 64, 72⟩
  | _ => none

/-- Word width of a SHA-2 algorithm. -/
def HashAlg.width (a : HashAlg) : Nat := if a.block = 64 then 32 else 64

/-- The running state before any input. -/
def HashAlg.init (a : HashAlg) : List Nat :=
  if a.sha3 then List.replicate 25 0
  else if a.block = 64 then
    (if a.digest = 28 then ((primes80.drop 8).take 8).map fun p => sqrtFrac 64 p % 2 ^ 32
     else (primes80.take 8).map (sqrtFrac 32))
  else if a.digest = 48 then ((primes80.drop 8).take 8).map (sqrtFrac 64)
  else
    let h := (primes80.take 8).map (sqrtFrac 64)
    if a.digest = 64 then h
    else
      let h0 := h.map (· ^^^ 0xa5a5a5a5a5a5a5a5)
      sha2Block 64 h0 ([0x53, 0x48, 0x41, 0x2D, 0x35, 0x31, 0x32, 0x2F, 0x32, 0x35, 0x36, 0x80] ++
        List.replicate 114 0 ++ beBytes 2 88)

/-- One block. -/
def HashAlg.step (a : HashAlg) (h : List Nat) (blk : List Byte) : List Nat :=
  if a.sha3 then sha3Block h blk else sha2Block a.width h blk

/-- Every full block of a byte string: the state and the bytes left over. -/
def HashAlg.absorb (a : HashAlg) (h : List Nat) (bs : List Byte) : List Nat × List Byte :=
  let full := bs.length / a.block * a.block
  ((chunks a.block (bs.take full)).foldl a.step h, bs.drop full)

/-- The digest from a state, its left-over bytes and the length of the whole message in bytes (R218). -/
def HashAlg.finish (a : HashAlg) (h : List Nat) (rest : List Byte) (total : Nat) : List Byte :=
  if a.sha3 then
    let z := a.block - 1 - rest.length
    let pad : List Byte := if z = 0 then [0x86] else 0x06 :: List.replicate (z - 1) 0 ++ [0x80]
    (((a.absorb h (rest ++ pad)).1.map (leBytes 8)).flatten).take a.digest
  else
    let lb := a.block / 8
    let z := (2 * a.block - 1 - lb - rest.length % a.block) % a.block
    let pad := (0x80 : Byte) :: List.replicate z 0 ++ beBytes lb (8 * total)
    (((a.absorb h (rest ++ pad)).1.map (beBytes (a.width / 8))).flatten).take a.digest

/-- The hash of a byte string. -/
def HashAlg.hash (a : HashAlg) (bs : List Byte) : List Byte :=
  let r := a.absorb a.init bs
  a.finish r.1 r.2 bs.length

def sha256 : HashAlg := ⟨false, 32, 64⟩

def sha384 : HashAlg := ⟨false, 48, 128⟩

def sha512 : HashAlg := ⟨false, 64, 128⟩

/-- K0 of FIPS 198-1 (R214). -/
def HashAlg.hmacKey (a : HashAlg) (key : List Byte) : List Byte :=
  fitTo a.block (if key.length ≤ a.block then key else a.hash key)

def hmacPad (k0 : List Byte) (x : Byte) : List Byte := k0.map (· ^^^ x)

/-- HMAC of a byte string. -/
def HashAlg.hmac (a : HashAlg) (key bs : List Byte) : List Byte :=
  let k0 := a.hmacKey key
  a.hash (hmacPad k0 0x5C ++ a.hash (hmacPad k0 0x36 ++ bs))

/-- The SP 800-108 counter-mode KDF with HMAC-SHA-256 (R175, R185): `n` bytes of at most two blocks;
`label` is all that stands between the counter and the length in bits. -/
def kdfBytes (key label : List Byte) (n : Nat) : List Byte :=
  let blk (i : Nat) : List Byte := sha256.hmac key (beBytes 4 i ++ label ++ beBytes 4 (8 * n))
  (if n ≤ 32 then blk 1 else blk 1 ++ blk 2).take n

end Sys2Proof.Machine
end

