-- ==== Sys2Proof/Machine/Curve.lean ====
section
/-!
DEFINITION. The curves of R229 and R230 and ECDSA verification over them (notes/assumptions/20.md).
-/
namespace Sys2Proof.Machine

/-- A short Weierstrass curve y² = x³ + ax + b over the field of p, with group order n and base point. -/
structure Curve where
  p : Nat
  a : Nat
  b : Nat
  n : Nat
  gx : Nat
  gy : Nat
  deriving DecidableEq, Repr

def p256 : Curve :=
  { p := 0xffffffff00000001000000000000000000000000ffffffffffffffffffffffff,
    a := 0xffffffff00000001000000000000000000000000fffffffffffffffffffffffc,
    b := 0x5ac635d8aa3a93e7b3ebbd55769886bc651d06b0cc53b0f63bce3c3e27d2604b,
    n := 0xffffffff00000000ffffffffffffffffbce6faada7179e84f3b9cac2fc632551,
    gx := 0x6b17d1f2e12c4247f8bce6e563a440f277037d812deb33a0f4a13945d898c296,
    gy := 0x4fe342e2fe1a7f9b8ee7eb4a7c0f9e162bce33576b315ececbb6406837bf51f5 }

def p384 : Curve :=
  { p := 0xfffffffffffffffffffffffffffffffffffffffffffffffffffffffffffffffeffffffff0000000000000000ffffffff,
    a := 0xfffffffffffffffffffffffffffffffffffffffffffffffffffffffffffffffeffffffff0000000000000000fffffffc,
    b := 0xb3312fa7e23ee7e4988e056be3f82d19181d9c6efe8141120314088f5013875ac656398d8a2ed19d2a85c8edd3ec2aef,
    n := 0xffffffffffffffffffffffffffffffffffffffffffffffffc7634d81f4372ddf581a0db248b0a77aecec196accc52973,
    gx := 0xaa87ca22be8b05378eb1c71ef320ad746e1d3b628ba79b9859f741e082542a385502f25dbf55296c3a545e3872760ab7,
    gy := 0x3617de4a96262c6f5d9e98bf9292dc29f8f41dbd289a147ce9da3113b5f0b8c00a60b1ce1d7e819d7a431d7c90ea0e5f }

def p521 : Curve :=
  { p := 0x1ffffffffffffffffffffffffffffffffffffffffffffffffffffffffffffffffffffffffffffffffffffffffffffffffffffffffffffffffffffffffffffffffff,
    a := 0x1fffffffffffffffffffffffffffffffffffffffffffffffffffffffffffffffffffffffffffffffffffffffffffffffffffffffffffffffffffffffffffffffffc,
    b := 0x51953eb9618e1c9a1f929a21a0b68540eea2da725b99b315f3b8b489918ef109e156193951ec7e937b1652c0bd3bb1bf073573df883d2c34f1ef451fd46b503f00,
    n := 0x1fffffffffffffffffffffffffffffffffffffffffffffffffffffffffffffffffa51868783bf2f966b7fcc0148f709a5d03bb5c9b8899c47aebb6fb71e91386409,
    gx := 0xc6858e06b70404e9cd9e3ecb662395b4429c648139053fb521f828af606b4d3dbaa14b5e77efe75928fe1dc127a2ffa8de3348b3c1856a429bf97e7e31c2e5bd66,
    gy := 0x11839296a789a3bc0045c8a5fb42c7d1bd998f54449579b446817afbd17273e662c97ee72995ef42640c550b9013fad0761353c7086a272c24088be94769fd16650 }

def bp256 : Curve :=
  { p := 0xa9fb57dba1eea9bc3e660a909d838d726e3bf623d52620282013481d1f6e5377,
    a := 0x7d5a0975fc2c3057eef67530417affe7fb8055c126dc5c6ce94a4b44f330b5d9,
    b := 0x26dc5c6ce94a4b44f330b5d9bbd77cbf958416295cf7e1ce6bccdc18ff8c07b6,
    n := 0xa9fb57dba1eea9bc3e660a909d838d718c397aa3b561a6f7901e0e82974856a7,
    gx := 0x8bd2aeb9cb7e57cb2c4b482ffc81b7afb9de27e1e3bd23c23a4453bd9ace3262,
    gy := 0x547ef835c3dac4fd97f8461a14611dc9c27745132ded8e545c1d54c72f046997 }

/-- The field prime and group order of Curve25519 and Ed25519. -/
def p25519 : Nat := 2 ^ 255 - 19

def l25519 : Nat := 2 ^ 252 + 27742317777372353535851937790883648493

/-- Edwards d and the base point of Ed25519. -/
def d25519 : Nat := 0x52036cee2b6ffe738cc740797779e89800700a4d4141d8ab75eb4dca135978a3

def bx25519 : Nat := 0x216936d3cd6e53fec0a4e231fdd6dc5c692cc7609525a7b2c9562d608f25d51a

def by25519 : Nat := 0x6666666666666666666666666666666666666666666666666666666666666658

/-- A power modulo `m`; `k` bits of the exponent. -/
def powMod (m k b e : Nat) : Nat :=
  match k with
  | 0 => 1 % m
  | j + 1 =>
    let h := powMod m j (b * b % m) (e / 2)
    if e % 2 = 1 then h * b % m else h

/-- The inverse modulo a prime. -/
def invMod (m x : Nat) : Nat := powMod m 530 (x % m) (m - 2)

/-- The inverse of an odd number modulo 2^w, by doubling precision `k` times. -/
def invPow2 (w x k : Nat) : Nat :=
  match k with
  | 0 => 1
  | j + 1 => let y := invPow2 w x j; y * ((2 + 2 ^ w * x - x * y % 2 ^ w) % 2 ^ w) % 2 ^ w

/-- A point, none the neutral element. -/
abbrev Point := Option (Nat × Nat)

/-- The sum of two points. -/
def Curve.add (c : Curve) (u v : Point) : Point :=
  match u, v with
  | none, w => w
  | w, none => w
  | some (x1, y1), some (x2, y2) =>
    if x1 = x2 && (y1 + y2) % c.p = 0 then none
    else
      let l :=
        if x1 = x2 then (3 * x1 * x1 + c.a) * invMod c.p (2 * y1) % c.p
        else (y2 + c.p - y1) * invMod c.p (x2 + c.p - x1) % c.p
      let x3 := (l * l + 2 * c.p - x1 - x2) % c.p
      some (x3, (l * (x1 + c.p - x3) + c.p - y1) % c.p)

/-- A multiple of a point; `k` bits of the scalar. -/
def Curve.mul (c : Curve) (k e : Nat) (u : Point) : Point :=
  match k with
  | 0 => none
  | j + 1 =>
    let h := c.mul j (e / 2) (c.add u u)
    if e % 2 = 1 then c.add u h else h

/-- A point lies on the curve, with coordinates below p. -/
def Curve.on (c : Curve) (x y : Nat) : Bool :=
  x < c.p && y < c.p && (y * y) % c.p == (x * x * x + c.a * x + c.b) % c.p

/-- ECDSA verification of a digest (big-endian bytes) with public key (x, y) and signature (r, s), as
FIPS 186 sets it out. -/
def Curve.verify (c : Curve) (digest : List Byte) (qx qy r s : Nat) : Bool :=
  if r = 0 || c.n ≤ r || s = 0 || c.n ≤ s || !c.on qx qy then false
  else
    let nb := Nat.log2 c.n + 1
    let z := if 8 * digest.length ≤ nb then beNat digest else beNat digest / 2 ^ (8 * digest.length - nb)
    let w := invMod c.n s
    match c.add (c.mul nb (z * w % c.n) (some (c.gx, c.gy))) (c.mul nb (r * w % c.n) (some (qx, qy))) with
    | some (x, _) => x % c.n == r
    | none => false

/-- The public key of a private key. -/
def Curve.publicKey (c : Curve) (d : Nat) : Nat × Nat :=
  (c.mul (Nat.log2 c.n + 1) d (some (c.gx, c.gy))).getD (0, 0)

/-- ECDSA signature of a digest as wide as the order, with a nonce `k` (FIPS 186). -/
def Curve.sign (c : Curve) (digest : List Byte) (d k : Nat) : Nat × Nat :=
  let r := (c.publicKey k).1 % c.n
  (r, invMod c.n k * (beNat digest + r * d) % c.n)

end Sys2Proof.Machine
end

