-- ==== Sys2Proof/Config.lean ====
section
/-!
DEFINITION. What one implementation fixes and what the spec leaves open. Every constant here has no
body: nothing in Lean can evaluate it, and a statement about it holds for every value it may have.

A FREE VALUE is one of these constants applied to the counter `State.free` (which the model advances
each time one is drawn) or to the operands the value depends on.
-/
namespace Sys2Proof.Config

/-- A byte of the boot ROM: the spec gives the ROM no contents (R22). -/
opaque romByte : Nat → Byte

/-- A byte of LPDDR4X that nothing has written since its keys were last drawn, by the number of key
draws and the address: the contents read back as decrypted noise (R122). -/
opaque dramByte : Nat → Nat → Byte

/-- A byte of the flash information rows as manufacture left it: serials, public keys, roots (R135). -/
opaque infoByte : Nat → Byte

/-- The start key of the SRAM banks, a device-unique value in OTP (R113). -/
opaque startKey : Nat

/-- The tweakable block cipher of the SRAM banks, of which the spec gives only the shape: key, tweak and word (R113). -/
opaque sramCipher : Nat → Nat → Nat → Nat

/-- The 8 SEC-DED check bits of a cipher text (R116): the spec does not name the code. -/
opaque secDed : Nat → Nat

/-- A free word. -/
opaque freeWord : Nat → Word

/-- A free byte, by draw and position. -/
opaque freeByte : Nat → Nat → Byte

/-- A free number, used modulo the number of choices the spec allows. -/
opaque freeNat : Nat → Nat

/-- A byte of the tag island's OTP: its serial number and manufacturer code (R297). -/
opaque tagOtp : Nat → Byte

/-- The tag island's 64-bit lightweight cipher under a 128-bit seed, which the spec does not define
(R302). -/
opaque tagCipher : List Byte → Nat → Nat

/-- A nonce of the tag island, by seed, power-up counter and place in the sequence (R301). -/
opaque tagNonce : List Byte → Nat → Nat → Word

/-- The descriptor table that the boot ROM builds for the MCORE stage, byte by byte (R74, chapter "Cask cores"):
the spec gives neither its contents nor its place in monitor-core SRAM. -/
opaque stageTable : Nat → Byte

/-- Its place, as a multiple of 16 bytes from the first address the stage cannot fill. -/
opaque stagePlace : Nat

/-- Places in the island ROM of LCORE's descriptor table, vector table and escalation handler, as multiples of 16,
128 and 4 bytes (R341): the spec gives none. -/
opaque islandTable : Nat
opaque islandVectors : Nat
opaque islandEscape : Nat

end Sys2Proof.Config
end

