-- ==== Sys2Proof/Machine/Pages.lean ====
section
/-!
DEFINITION. The 172 register pages of R24: page numbers, block kinds, ID types, power domains and
whether CTRL is a paired register, and the address map of R22.
-/
namespace Sys2Proof.Machine

/-- The block a register page belongs to, with its unit number (R24). -/
inductive PageKind where
  | sys | pwr | clk | rst | snap | irq | time | wdog | otp | bridge
  | core (n : Nat) | fab | gate (n : Nat) | sram | ddr | mseal | flash | jrnl
  | rng | key | bin | press (n : Nat) | digest (n : Nat) | stave (n : Nat)
  | rdr (n : Nat) | tag | card (n : Nat) | sdc
  | host | strm | vine | vport (n : Nat) | twin
  | legal | lcore | afe | lrtc | stavel
  | tamp | bkp | lc | dbg | trace
  | gpio | uart (n : Nat) | i2c (n : Nat) | qspi (n : Nat) | inst (n : Nat)
  deriving DecidableEq, Repr

abbrev pSYS : Nat := 0x00
abbrev pPWR : Nat := 0x01
abbrev pCLK : Nat := 0x02
abbrev pRST : Nat := 0x03
abbrev pSNAP : Nat := 0x04
abbrev pIRQ : Nat := 0x05
abbrev pTIME : Nat := 0x06
abbrev pWDOG : Nat := 0x07
abbrev pOTP : Nat := 0x08
abbrev pBRIDGE : Nat := 0x09
abbrev pCORE (n : Nat) : Nat := if n = 10 then 0x81 else 0x10 + n
abbrev pFAB : Nat := 0x20
abbrev pGATE (n : Nat) : Nat := 0x21 + n
abbrev pSRAM : Nat := 0x40
abbrev pDDR : Nat := 0x41
abbrev pMSEAL : Nat := 0x42
abbrev pFLASH : Nat := 0x43
abbrev pJRNL : Nat := 0x44
abbrev pRNG : Nat := 0x48
abbrev pKEY : Nat := 0x49
abbrev pBIN : Nat := 0x4A
abbrev pPRESS (n : Nat) : Nat := 0x50 + n
abbrev pDIGEST (n : Nat) : Nat := 0x54 + n
abbrev pSTAVE (n : Nat) : Nat := if n = 4 then 0x84 else 0x5A + n
abbrev pRDR (n : Nat) : Nat := 0x60 + n
abbrev pTAG : Nat := 0x68
abbrev pCARD (n : Nat) : Nat := 0x69 + n
abbrev pSDC : Nat := 0x6D
abbrev pHOST : Nat := 0x70
abbrev pSTRM : Nat := 0x71
abbrev pVINE : Nat := 0x72
abbrev pVPORT (n : Nat) : Nat := 0x73 + n
abbrev pTWIN : Nat := 0x79
abbrev pLEGAL : Nat := 0x80
abbrev pLCORE : Nat := 0x81
abbrev pAFE : Nat := 0x82
abbrev pLRTC : Nat := 0x83
abbrev pSTAVEL : Nat := 0x84
abbrev pTAMP : Nat := 0x90
abbrev pBKP : Nat := 0x91
abbrev pLC : Nat := 0x92
abbrev pDBG : Nat := 0x93
abbrev pTRACE : Nat := 0x94
abbrev pGPIO : Nat := 0xA0
abbrev pINST (n : Nat) : Nat := 0x100 + n

/-- The block of a page number, if R24 lists the page. -/
def pageKind (pg : Nat) : Option PageKind :=
  if pg ≤ 0x09 then
    [PageKind.sys, .pwr, .clk, .rst, .snap, .irq, .time, .wdog, .otp, .bridge][pg]?
  else if 0x10 ≤ pg && pg ≤ 0x19 then some (.core (pg - 0x10))
  else if pg = 0x20 then some .fab
  else if 0x21 ≤ pg && pg ≤ 0x38 then some (.gate (pg - 0x21))
  else if 0x40 ≤ pg && pg ≤ 0x44 then [PageKind.sram, .ddr, .mseal, .flash, .jrnl][pg - 0x40]?
  else if 0x48 ≤ pg && pg ≤ 0x4A then [PageKind.rng, .key, .bin][pg - 0x48]?
  else if 0x50 ≤ pg && pg ≤ 0x53 then some (.press (pg - 0x50))
  else if 0x54 ≤ pg && pg ≤ 0x59 then some (.digest (pg - 0x54))
  else if 0x5A ≤ pg && pg ≤ 0x5D then some (.stave (pg - 0x5A))
  else if 0x60 ≤ pg && pg ≤ 0x67 then some (.rdr (pg - 0x60))
  else if pg = 0x68 then some .tag
  else if 0x69 ≤ pg && pg ≤ 0x6C then some (.card (pg - 0x69))
  else if pg = 0x6D then some .sdc
  else if 0x70 ≤ pg && pg ≤ 0x72 then [PageKind.host, .strm, .vine][pg - 0x70]?
  else if 0x73 ≤ pg && pg ≤ 0x78 then some (.vport (pg - 0x73))
  else if pg = 0x79 then some .twin
  else if 0x80 ≤ pg && pg ≤ 0x84 then [PageKind.legal, .lcore, .afe, .lrtc, .stavel][pg - 0x80]?
  else if 0x90 ≤ pg && pg ≤ 0x94 then [PageKind.tamp, .bkp, .lc, .dbg, .trace][pg - 0x90]?
  else if pg = 0xA0 then some .gpio
  else if 0xA1 ≤ pg && pg ≤ 0xA2 then some (.uart (pg - 0xA1))
  else if 0xA3 ≤ pg && pg ≤ 0xA4 then some (.i2c (pg - 0xA3))
  else if 0xA5 ≤ pg && pg ≤ 0xA6 then some (.qspi (pg - 0xA5))
  else if 0x100 ≤ pg && pg ≤ 0x13F then some (.inst (pg - 0x100))
  else none

/-- Every page number of R24, in ascending order. -/
def allPages : List Nat :=
  (List.range 0x140).filter fun p => (pageKind p).isSome

/-- ID[31:16] of a page (R24). -/
def pageType : PageKind → Nat
  | .sys => 0x0101 | .pwr => 0x0102 | .clk => 0x0103 | .rst => 0x0104 | .snap => 0x0105
  | .irq => 0x0106 | .time => 0x0107 | .wdog => 0x0108 | .otp => 0x0109 | .bridge => 0x010A
  | .core n => if n = 8 then 0x0202 else if n = 9 then 0x0203 else 0x0201
  | .fab => 0x0301 | .gate _ => 0x0302
  | .sram => 0x0401 | .ddr => 0x0402 | .mseal => 0x0403 | .flash => 0x0404 | .jrnl => 0x0405
  | .rng => 0x0501 | .key => 0x0502 | .bin => 0x0503
  | .press _ => 0x0601 | .digest _ => 0x0602 | .stave _ => 0x0603
  | .rdr _ => 0x0701 | .tag => 0x0702 | .card _ => 0x0703 | .sdc => 0x0704
  | .host => 0x0801 | .strm => 0x0803 | .vine => 0x0804 | .vport _ => 0x0805 | .twin => 0x0806
  | .legal => 0x0901 | .lcore => 0x0204 | .afe => 0x0902 | .lrtc => 0x0903 | .stavel => 0x0604
  | .tamp => 0x0A01 | .bkp => 0x0A02 | .lc => 0x0A03 | .dbg => 0x0A04 | .trace => 0x0A05
  | .gpio => 0x0B01 | .uart _ => 0x0B02 | .i2c _ => 0x0B03 | .qspi _ => 0x0B04
  | .inst _ => 0x0802

/-- ID[15:8] of a page: the unit number, 0 for a single block (R27). KCORE and MCORE are single. -/
def pageInstance : PageKind → Nat
  | .core n => if n < 8 then n else 0
  | .gate n | .press n | .digest n | .stave n | .rdr n | .card n | .vport n
  | .uart n | .i2c n | .qspi n | .inst n => n
  | _ => 0

/-- The ID register of a page (R27). -/
def pageId (k : PageKind) : Word :=
  wd (pageType k * 0x10000 + pageInstance k * 0x100 +
    (match k with | .inst _ => 2 | _ => 1))

/-- The power domain that holds a page's registers (R24). -/
def pageDomain : PageKind → Nat
  | .core n => if n < 8 then 3 + n else if n = 8 then 11 else 12
  | .ddr => 32 | .mseal => 34 | .flash | .jrnl => 35
  | .rng => 23 | .key => 11 | .bin => 55
  | .press n => 13 + n
  | .digest n => if n < 4 then 21 else 22
  | .stave n => 17 + n
  | .rdr n => 44 + n / 2
  | .card _ => 49 | .sdc => 50
  | .host | .inst _ => 36 | .strm => 37 | .vport n => 38 + n
  | .legal | .lcore | .afe | .lrtc | .stavel => 2
  | .bkp => 1 | .dbg | .trace => 53
  | .gpio | .uart _ | .i2c _ | .qspi _ => 51
  | _ => 0

/-- Whether CTRL of a page takes paired writes (R24, R28). -/
def ctrlPaired : PageKind → Bool
  | .snap | .time | .jrnl | .rdr _ | .tag | .card _ | .sdc | .strm | .vport _ | .trace
  | .gpio | .uart _ | .i2c _ | .qspi _ | .inst _ => false
  | _ => true

/-- The key of a register: page number times 4,096 plus its offset. -/
abbrev rkey (pg off : Nat) : Nat := pg * 0x1000 + off

/-- The first address of a register page (R24). -/
def pageBase (pg : Nat) : Nat := 0x30000000 + pg * 0x1000

/-- The page number an address of the register-page or instance-page ranges lies in (R22). -/
def pageOfAddr (a : Nat) : Option Nat :=
  if 0x30000000 ≤ a && a ≤ 0x3013FFFF then some ((a - 0x30000000) / 0x1000) else none

/-- The interrupt source of a page (R34): register pages in ascending order from 96, instance pages
from 204. -/
def pageSource (pg : Nat) : Option Nat :=
  if 0x100 ≤ pg then some (204 + (pg - 0x100))
  else
    match (allPages.filter (· < 0x100)).findIdx? (· == pg) with
    | some i => some (96 + i)
    | none => none

/-- The page of a page source, the inverse of `pageSource` (R34). -/
def sourcePage (src : Nat) : Option Nat :=
  if 204 ≤ src && src < 268 then some (0x100 + (src - 204))
  else if 96 ≤ src && src < 204 then (allPages.filter (· < 0x100))[src - 96]?
  else none

/-- What a physical address selects (R22). -/
inductive Region where
  | rom | flash (bank : Nat) | info | coreSram (n : Nat) | shared | stave (n : Nat) | keySram | monSram
  | page (pg : Nat) | vine (d : Nat) | dram
  deriving DecidableEq, Repr

/-- The range of R22 an address lies in, as the map lists it; the installed DRAM size and the
power of pages are checked elsewhere. -/
def regionOf (a : Nat) : Option Region :=
  if a ≤ 0x1FFFF then some .rom
  else if 0x10000000 ≤ a && a ≤ 0x107FFFFF then some (.flash ((a - 0x10000000) / 0x400000))
  else if 0x10800000 ≤ a && a ≤ 0x1080FFFF then some .info
  else if 0x20000000 ≤ a && a ≤ 0x201FFFFF then some (.coreSram ((a - 0x20000000) / 0x40000))
  else if 0x22000000 ≤ a && a ≤ 0x220FFFFF then some .shared
  else if 0x23000000 ≤ a && a ≤ 0x2303FFFF then some (.stave ((a - 0x23000000) / 0x10000))
  else if 0x24000000 ≤ a && a ≤ 0x2403FFFF then some .keySram
  else if 0x25000000 ≤ a && a ≤ 0x2503FFFF then some .monSram
  else if 0x30000000 ≤ a && a ≤ 0x3013FFFF then some (.page ((a - 0x30000000) / 0x1000))
  else if 0x40000000 ≤ a && a ≤ 0x7FFFFFFF then some (.vine ((a - 0x40000000) / 0x100000))
  else if 0x100000000 ≤ a && a ≤ 0x2FFFFFFFF then some .dram
  else none

/-- The gate in front of an address (R93); flash banks and pages are split as the table gives. -/
def gateOf (a : Nat) : Option Nat :=
  match regionOf a with
  | some .rom => some 0
  | some (.flash b) => some (1 + b)
  | some .info => some 3
  | some (.coreSram n) => some (4 + n)
  | some .shared => some 12
  | some (.stave _) => some 13
  | some .keySram => some 14
  | some .monSram => some 15
  | some (.page pg) =>
    some (if pg ≤ 0x19 then 16 else if pg ≤ 0x44 then 17 else if pg ≤ 0x5D then 18
      else if pg ≤ 0x79 then 19 else if pg ≤ 0xA6 then 20 else 21)
  | some (.vine _) => some 22
  | some .dram => some 23
  | none => none

/-- The first and last address of a gate's range (R93). -/
def gateRange (g : Nat) : Nat × Nat :=
  match g with
  | 0 => (0, 0x1FFFF)
  | 1 => (0x10000000, 0x103FFFFF)
  | 2 => (0x10400000, 0x107FFFFF)
  | 3 => (0x10800000, 0x1080FFFF)
  | 12 => (0x22000000, 0x220FFFFF)
  | 13 => (0x23000000, 0x2303FFFF)
  | 14 => (0x24000000, 0x2403FFFF)
  | 15 => (0x25000000, 0x2503FFFF)
  | 16 => (0x30000000, 0x30019FFF)
  | 17 => (0x30020000, 0x30044FFF)
  | 18 => (0x30048000, 0x3005DFFF)
  | 19 => (0x30060000, 0x30079FFF)
  | 20 => (0x30080000, 0x300A6FFF)
  | 21 => (0x30100000, 0x3013FFFF)
  | 22 => (0x40000000, 0x7FFFFFFF)
  | 23 => (0x100000000, 0x2FFFFFFFF)
  | n => (0x20000000 + (n - 4) * 0x40000, 0x20000000 + (n - 4) * 0x40000 + 0x3FFFF)

/-- The class of an agent (R18), numbered as the CLASS bits of R94. -/
inductive AgentClass where
  | gen | keyd | sys | legal | blk | inst | host | remote | debug | none
  deriving DecidableEq, Repr

/-- The class of an agent ID (R18). -/
def classOf (a : Nat) : AgentClass :=
  if a ≤ 0x07 then .gen else if a ≤ 0x0F then .keyd
  else if a ≤ 0x11 then .sys else if a = 0x12 then .legal
  else if 0x20 ≤ a && a ≤ 0x38 then .blk
  else if 0x40 ≤ a && a ≤ 0x7F then .inst
  else if a = 0x80 then .host else if a = 0x90 then .remote else if a = 0xF0 then .debug
  else .none

/-- The CLASS bit number of a class (R94). -/
def classBit : AgentClass → Nat
  | .gen => 0 | .keyd => 1 | .sys => 2 | .legal => 3 | .blk => 4 | .inst => 5 | .host => 6
  | .remote => 7 | .debug => 8 | .none => 9

abbrev aKCORE : Nat := 0x10
abbrev aMCORE : Nat := 0x11
abbrev aLCORE : Nat := 0x12
abbrev aPRESS (n : Nat) : Nat := 0x20 + n
abbrev aDIGEST (n : Nat) : Nat := 0x24 + n
abbrev aSTAVE (n : Nat) : Nat := 0x2A + n
abbrev aRNG : Nat := 0x2E
abbrev aKEY : Nat := 0x2F
abbrev aBIN : Nat := 0x30
abbrev aMSEAL : Nat := 0x31
abbrev aFLASH : Nat := 0x32
abbrev aJRNL : Nat := 0x33
abbrev aRDR : Nat := 0x34
abbrev aCARD : Nat := 0x35
abbrev aHOST : Nat := 0x36
abbrev aSTRM : Nat := 0x37
abbrev aVINE : Nat := 0x38
abbrev aPF : Nat := 0x80
abbrev aREMOTE : Nat := 0x90
abbrev aDEBUG : Nat := 0xF0

/-- The instance number of an INST agent. -/
def instOf (a : Nat) : Option Nat := if 0x40 ≤ a && a ≤ 0x7F then some (a - 0x40) else none

end Sys2Proof.Machine
end

