-- ==== Sys2Proof/Machine/RegTable.lean ====
section
/-!
DEFINITION. The register maps of every chapter: offsets, access codes (R3–R8), values after a cold
reset (R9), whether a warm reset keeps the value, writable bits, lock bits and named agents.
A register whose value the machine computes is listed too; `View.lean` gives its value.
-/
namespace Sys2Proof.Machine

/-- The access codes of "Register access codes"; `rwpN` is the complement partner of the RWP register
one word before it (R7). -/
inductive Acc where
  | ro | rw | wo | w1c | w1s | rc | rwp | rwpN | rwl
  deriving DecidableEq, Repr

/-- The agents a register admits for writes, ahead of its own rules. -/
inductive Who where
  | any | mcore | kcore | sysKeyd
  deriving DecidableEq, Repr

/-- One row of a register map. -/
structure RegRow where
  lo : Nat
  hi : Nat
  acc : Acc
  c : Word
  keep : Bool
  mask : Word
  lock : Nat
  who : Who
  perAgent : Bool
  coldKeep : Bool
  deriving DecidableEq, Repr

/-- A row: words `lo` to `hi`, access code, value after a cold reset, `keep` for a dash in column W,
the writable bits, the LOCK bits that lock it beside ALL, the agents admitted, a copy per agent, and a
dash in column C. -/
def mkRow (lo hi : Nat) (acc : Acc) (c : Word := 0) (keep : Bool := false)
    (mask : Word := 0xFFFFFFFF) (lock : Nat := 0) (who : Who := .any) (perAgent : Bool := false)
    (coldKeep : Bool := false) : RegRow :=
  { lo, hi, acc, c, keep, mask, lock, who, perAgent, coldKeep }

/-- The registers of a core page (R74, R78). -/
def coreRows (c : Nat) : List RegRow :=
  let m := c == 9
  [ mkRow 0x100 0x100 .rw (if m then 0x0001F000 else 0) true 0xFFFFFFF0,
    mkRow 0x104 0x104 .rw 0 true 0xFF,
    mkRow 0x108 0x108 .rw (if m then 8 else 0) true 0x1FFF,
    mkRow 0x10C 0x10C .rw 0 true,
    mkRow 0x110 0x118 .ro,
    mkRow 0x11C 0x11C .rc,
    mkRow 0x120 0x120 .rc,
    mkRow 0x124 0x124 .rw (if m then 0x0001EF80 else 0) true 0xFFFFFF80,
    mkRow 0x128 0x128 .rw 0 true 0xFF,
    mkRow 0x12C 0x12C .rw (if m then 0x80 else 0) true,
    mkRow 0x130 0x130 .ro,
    mkRow 0x134 0x134 .ro 0 true ]

/-- The queue registers of an instance page (R374–R376). -/
def instQueueRows (q : Nat) : List RegRow :=
  let b := 0x300 + 0x20 * q
  [ mkRow b b .rw 0 true 0xFFFFF000, mkRow (b + 4) (b + 4) .rw 0 true,
    mkRow (b + 8) (b + 8) .rw 0 true 0xFFFFF000, mkRow (b + 0xC) (b + 0xC) .rw 0 true,
    mkRow (b + 0x10) (b + 0x10) .rw 0 true 0x80070F0F,
    mkRow (b + 0x14) (b + 0x18) .ro,
    mkRow (b + 0x1C) (b + 0x1C) .rw 0 false 0xFFF 0 .sysKeyd ]

/-- TAMP.RESPs after a cold reset (R436). -/
def tampRespC (src : Nat) : Nat :=
  if src ≤ 13 then 4 else
  [0, 0, 3, 3, 3, 1, 1, 1, 1, 1, 1, 1, 3, 1, 0, 0, 0, 0].getD (src - 14) 0

/-- The Floor column of R436: the least severe response a source carries. -/
def tampFloor (src : Nat) : Nat := if src = 21 || src = 26 then 1 else 0

/-- The registers of a stave page (R235–R248); `warm` of INV_CNT is kept. -/
def staveRows : List RegRow :=
  [ mkRow 0x100 0x100 .rw 0 false, mkRow 0x104 0x104 .rw, mkRow 0x108 0x108 .wo,
    mkRow 0x10C 0x10C .rw 0 false 0xFFFFFFFF, mkRow 0x110 0x110 .rw 0 false 0xFF,
    mkRow 0x114 0x114 .wo, mkRow 0x118 0x120 .ro, mkRow 0x124 0x124 .rw, mkRow 0x128 0x128 .ro,
    mkRow 0x12C 0x12C .wo, mkRow 0x130 0x130 .ro, mkRow 0x134 0x134 .rc 0 true,
    mkRow 0x138 0x138 .rc, mkRow 0x140 0x23C .ro ]

/-- The block-specific registers of a page, 0x100–0xDFF (R27). -/
def regRows : PageKind → List RegRow
  | .sys =>
    [ mkRow 0x100 0x100 .rwp 0 true 0xFF, mkRow 0x104 0x104 .rwpN 0 true,
      mkRow 0x108 0x108 .rwp 0 true 0x3, mkRow 0x10C 0x10C .rwpN 0 true ]
  | .pwr =>
    [ mkRow 0x100 0x104 .ro 0 true, mkRow 0x108 0x108 .wo 0 false 0x13F 0 .mcore,
      mkRow 0x10C 0x118 .ro, mkRow 0x11C 0x11C .rc,
      mkRow 0x120 0x120 .rwp 0 true 0x3 0 .mcore, mkRow 0x124 0x124 .rwpN 0 true ]
  | .clk =>
    [ mkRow 0x100 0x100 .rwl 0 true 0x3 0 .mcore, mkRow 0x104 0x104 .rw 0 false 0xF,
      mkRow 0x108 0x108 .ro, mkRow 0x10C 0x10C .rc 0 true ]
  | .rst =>
    [ mkRow 0x100 0x100 .ro 1 true, mkRow 0x104 0x104 .rwp 0 false 1, mkRow 0x108 0x108 .rwpN,
      mkRow 0x10C 0x10C .rwp 0 false 1, mkRow 0x110 0x110 .rwpN, mkRow 0x114 0x118 .ro,
      mkRow 0x11C 0x11C .ro 0 true, mkRow 0x120 0x120 .rwl 3 true 3 0 .mcore,
      mkRow 0x124 0x124 .rc 0 true ]
  | .snap =>
    [ mkRow 0x100 0x100 .wo, mkRow 0x104 0x104 .rwl 0x1F true 0x113,
      mkRow 0x108 0x114 .ro 0 true, mkRow 0x118 0x118 .rc 0 true,
      mkRow 0x140 0x164 .rwl 0 true, mkRow 0x180 0x1A4 .ro 0 true ]
  | .irq =>
    [ mkRow 0x100 0x5FC .rwl 0 false 0xF03FF 0 .mcore, mkRow 0x600 0x624 .ro,
      mkRow 0x680 0x680 .w1s, mkRow 0x684 0x684 .wo, mkRow 0x700 0x724 .ro ]
  | .time =>
    [ mkRow 0x100 0x104 .ro 0 true, mkRow 0x108 0x10C .rw, mkRow 0x110 0x110 .wo,
      mkRow 0x114 0x114 .ro, mkRow 0x118 0x118 .rc 0 true, mkRow 0x200 0x27C .rw ]
  | .wdog =>
    [ mkRow 0x100 0x100 .rwl 0x3E8 false 0xFFFF, mkRow 0x104 0x104 .wo, mkRow 0x108 0x108 .ro,
      mkRow 0x10C 0x10C .rwl ]
  | .otp => []
  | .bridge => []
  | .core n => coreRows n
  | .fab =>
    [ mkRow 0x100 0x100 .ro 0x000F4240, mkRow 0x104 0x110 .rc, mkRow 0x114 0x114 .ro 0 true ]
  | .gate _ =>
    [ mkRow 0x100 0x100 .ro 0 true, mkRow 0x104 0x104 .rwp 0 true 0xFFFFFFFF 0 .mcore,
      mkRow 0x108 0x108 .rwpN 0 true 0xFFFFFFFF 0 .mcore,
      mkRow 0x10C 0x114 .ro, mkRow 0x118 0x120 .rc, mkRow 0x124 0x124 .ro,
      mkRow 0x200 0x3FC .rwl 0 true 0xFFFFFFFF 0 .mcore, mkRow 0x400 0x5FC .ro 0 true ]
  | .sram =>
    [ mkRow 0x100 0x100 .ro 0 true, mkRow 0x104 0x104 .rw 0x1000 true 0xFFFF,
      mkRow 0x108 0x110 .rc 0 true ]
  | .ddr =>
    [ mkRow 0x100 0x100 .rw 0 true, mkRow 0x104 0x108 .ro 0 true, mkRow 0x10C 0x10C .ro,
      mkRow 0x110 0x110 .rw 0x27271224 true, mkRow 0x114 0x114 .rw 0x16275A2D true,
      mkRow 0x118 0x118 .rw 0x00032B56 true, mkRow 0x11C 0x11C .rw 0x00002089 true ]
  | .mseal =>
    [ mkRow 0x100 0x100 .rw 0 true 0x7F, mkRow 0x104 0x104 .rw 0 true 0x7, mkRow 0x108 0x110 .ro,
      mkRow 0x114 0x120 .rc ]
  | .flash =>
    [ mkRow 0x100 0x100 .wo, mkRow 0x104 0x104 .rw 0 false 0x7FFFFF, mkRow 0x108 0x114 .rw,
      mkRow 0x118 0x118 .wo, mkRow 0x11C 0x120 .ro,
      mkRow 0x140 0x140 .wo, mkRow 0x144 0x144 .rw 0 false 0x7FFFFF, mkRow 0x148 0x154 .rw,
      mkRow 0x158 0x158 .wo, mkRow 0x15C 0x160 .ro,
      mkRow 0x180 0x1BC .rwl 0 true 0xFFFFFFFF 2, mkRow 0x1C0 0x1FC .ro,
      mkRow 0x200 0x200 .rw 0 false 0x1FF, mkRow 0x204 0x204 .ro, mkRow 0x208 0x20C .rc 0 true,
      mkRow 0x210 0x210 .rc, mkRow 0x214 0x214 .rc 0 true, mkRow 0x218 0x218 .ro,
      mkRow 0x21C 0x21C .rw 0x3E8 true 0xFFFF ]
  | .jrnl =>
    [ mkRow 0x100 0x100 .ro, mkRow 0x104 0x104 .rw 0 false 7, mkRow 0x108 0x134 .ro,
      mkRow 0x138 0x138 .wo, mkRow 0x13C 0x148 .ro, mkRow 0x14C 0x150 .rc 0 true ]
  | .rng =>
    [ mkRow 0x100 0x100 .ro, mkRow 0x104 0x104 .ro 0 false 0 0 .any true, mkRow 0x108 0x108 .rwl 0x10000 true 0x1FFFFF, mkRow 0x10C 0x114 .ro,
      mkRow 0x118 0x124 .rc ]
  | .key =>
    [ mkRow 0x100 0x100 .rwp 1 true 3 2 .mcore, mkRow 0x104 0x104 .rwpN 0 true 0xFFFFFFFF 2 .mcore,
      mkRow 0x108 0x108 .wo 0 false 0xFF 0 .kcore, mkRow 0x10C 0x10C .rw 0 false 0x03FF03FF 0 .kcore,
      mkRow 0x110 0x110 .rw 0 false 0x7FFFFFFF 0 .kcore, mkRow 0x114 0x114 .rw 0 false 0x3FFFF 0 .kcore,
      mkRow 0x118 0x118 .rw 0 false 0x03FFFFFF 0 .kcore, mkRow 0x11C 0x11C .rw 0 false 0xFFFFFFFF 0 .kcore,
      mkRow 0x120 0x120 .rw 0 false 0xFF 0 .kcore, mkRow 0x124 0x124 .ro,
      mkRow 0x128 0x128 .rw 0 false 0x3FF, mkRow 0x12C 0x138 .ro, mkRow 0x13C 0x13C .wo,
      mkRow 0x140 0x140 .rw 0 false 0x3FF 0 .any true,
      mkRow 0x144 0x144 .rw 0x7F false 0x7F 0 .any true,
      mkRow 0x148 0x148 .ro 0 false 0 0 .any true,
      mkRow 0x180 0x1BC .wo 0 false 0xFFFFFFFF 0 .kcore ]
  | .bin =>
    [ mkRow 0x100 0x100 .rw 0x00C00001 true 0x00FF01FF, mkRow 0x104 0x104 .rw 0 true 0xFFFFF000,
      mkRow 0x108 0x108 .rw 0 true 0xFF,
      mkRow 0x10C 0x10C .rw 0x007F0000 false 0xFFFFFFFF 0 .any true,
      mkRow 0x110 0x110 .rw 0 false 0xFFFFFFFF 0 .any true,
      mkRow 0x114 0x114 .rw 0 false 0xFF 0 .any true,
      mkRow 0x118 0x11C .rw 0 false 0xFFFFFFFF 0 .any true,
      mkRow 0x120 0x120 .wo, mkRow 0x124 0x124 .ro 0 false 0 0 .any true,
      mkRow 0x128 0x128 .rw 0 false 0xFFFF, mkRow 0x12C 0x130 .ro, mkRow 0x134 0x144 .rc,
      mkRow 0x148 0x14C .ro, mkRow 0x200 0x2FC .rwl 0 true 0x1FFFF 2 .sysKeyd, mkRow 0x300 0x3FC .ro ]
  | .press _ =>
    [ mkRow 0x100 0x100 .rw 0 false 0xFF 0 .any true, mkRow 0x104 0x104 .wo,
      mkRow 0x108 0x108 .ro 0 false 0 0 .any true, mkRow 0x10C 0x110 .ro, mkRow 0x114 0x128 .rc,
      mkRow 0x12C 0x130 .ro, mkRow 0x134 0x134 .rwl 0x10 true 0x1FF 2 .sysKeyd,
      mkRow 0x200 0x2FC .rwl 0x10 true 0x1FF 2 .sysKeyd ]
  | .digest _ =>
    [ mkRow 0x100 0x100 .rw 0 false 0xFF 0 .any true, mkRow 0x104 0x104 .wo,
      mkRow 0x108 0x108 .ro 0 false 0 0 .any true, mkRow 0x10C 0x110 .ro, mkRow 0x114 0x128 .rc,
      mkRow 0x12C 0x130 .ro, mkRow 0x134 0x134 .rwl 0x10 true 0x1FF 2 .sysKeyd, mkRow 0x138 0x17C .ro,
      mkRow 0x180 0x1BC .rw 0 false 0xFFFFFFFF 0 .any true,
      mkRow 0x200 0x2FC .rwl 0x10 true 0x1FF 2 .sysKeyd ]
  | .stave _ => staveRows
  | .stavel => staveRows
  | .rdr _ =>
    [ mkRow 0x100 0x100 .rwl 0x07D00000 false 0xFFFFFFFF 2, mkRow 0x104 0x104 .rw 0 false 3,
      mkRow 0x108 0x108 .rwl 0x000A0A14 false 0x00FFFFFF 2, mkRow 0x10C 0x10C .ro,
      mkRow 0x110 0x110 .wo, mkRow 0x114 0x118 .rw, mkRow 0x11C 0x11C .rw 0 false 0x7FF,
      mkRow 0x120 0x124 .ro, mkRow 0x128 0x128 .rw 0x02001388 false 0x0F00FFFF,
      mkRow 0x12C 0x12C .ro, mkRow 0x130 0x130 .rw 0 false 0x3F, mkRow 0x134 0x160 .ro,
      mkRow 0x164 0x16C .rc, mkRow 0x170 0x170 .rw 0 false 0xFF, mkRow 0x400 0x7FC .rw,
      mkRow 0x800 0xBFC .ro ]
  | .tag =>
    [ mkRow 0x100 0x100 .wo, mkRow 0x104 0x104 .rw 0 false 0xFFFFFFFF 0 .any true,
      mkRow 0x108 0x108 .rw 0 false 0xFFFFFFFF 0 .any true,
      mkRow 0x10C 0x10C .ro 0 false 0 0 .any true, mkRow 0x110 0x12C .ro, mkRow 0x130 0x13C .rc ]
  | .card _ =>
    [ mkRow 0x100 0x100 .rw 0x277 false 0xFF7F, mkRow 0x104 0x104 .rw 0x3C false 0xFF, mkRow 0x108 0x108 .wo,
      mkRow 0x10C 0x10C .rw 0 false 1, mkRow 0x110 0x110 .rw 0 false 0x7FF, mkRow 0x114 0x120 .ro,
      mkRow 0x124 0x128 .rc, mkRow 0x400 0x7FC .rw, mkRow 0x800 0xBFC .ro ]
  | .sdc =>
    [ mkRow 0x100 0x100 .rw 0x75 false 0x1F7, mkRow 0x104 0x104 .wo, mkRow 0x108 0x108 .rw 0 false 0x80000007,
      mkRow 0x10C 0x10C .rw, mkRow 0x110 0x110 .rw 0 false 0xFFFF, mkRow 0x114 0x114 .rw,
      mkRow 0x118 0x118 .rw 0 false 0xFF, mkRow 0x11C 0x134 .ro,
      mkRow 0x138 0x138 .rw 0x000201F4 false 0xFFFFFF, mkRow 0x13C 0x140 .rc ]
  | .host =>
    [ mkRow 0x100 0x100 .ro, mkRow 0x104 0x104 .rwl 0x64 true 0xFFFF,
      mkRow 0x108 0x108 .rwl 0x2710 true 0xFFFF, mkRow 0x10C 0x10C .wo 0 false 0xFFFFFFFF 0 .sysKeyd,
      mkRow 0x110 0x110 .rw 0 false 0xFF 0 .any true, mkRow 0x114 0x114 .wo,
      mkRow 0x118 0x118 .ro 0 false 0 0 .any true, mkRow 0x11C 0x11C .ro, mkRow 0x120 0x124 .rc,
      mkRow 0x140 0x15C .ro, mkRow 0x800 0x800 .rw 0 false 0xFF, mkRow 0x804 0x820 .rw,
      mkRow 0x824 0x824 .wo, mkRow 0x828 0x848 .ro ]
  | .strm =>
    [ mkRow 0x100 0x100 .ro, mkRow 0x104 0x104 .rwl 0x001003E8 false 0x001FFFFF,
      mkRow 0x108 0x108 .rw 0 false 0xFFF 0 .any true,
      mkRow 0x10C 0x110 .rw 0 false 0xFFFFFFFF 0 .any true,
      mkRow 0x114 0x114 .wo, mkRow 0x118 0x118 .ro 0 false 0 0 .any true, mkRow 0x11C 0x120 .ro,
      mkRow 0x124 0x148 .rc, mkRow 0x200 0x2FC .rwl 0 true 0x1FFF 2 .sysKeyd,
      mkRow 0x300 0x3FC .ro ]
  | .vine =>
    [ mkRow 0x100 0x100 .ro, mkRow 0x104 0x104 .rwl 0x03E80A04 true 0xFFFFFF07,
      mkRow 0x108 0x108 .rw 0 true 0x83FF, mkRow 0x10C 0x10C .ro,
      mkRow 0x110 0x110 .rwl 0x3C true 0xFFFF, mkRow 0x114 0x120 .ro, mkRow 0x128 0x128 .wo,
      mkRow 0x12C 0x12C .rw 0 false 0xF03FF 0 .any true,
      mkRow 0x130 0x130 .rw 0 false 0x7FF 0 .any true,
      mkRow 0x134 0x134 .rw 0 false 0xFFFFFFFF 0 .any true,
      mkRow 0x138 0x138 .rw 0 false 0xFF 0 .any true, mkRow 0x13C 0x13C .wo,
      mkRow 0x140 0x140 .ro 0 false 0 0 .any true, mkRow 0x144 0x144 .rw 0 true 0xFFFFFFE0,
      mkRow 0x148 0x148 .rw 0 true 0xFF, mkRow 0x14C 0x14C .rw 0 true 0xFFF, mkRow 0x150 0x150 .ro,
      mkRow 0x154 0x154 .rw 0 false 0xFFF, mkRow 0x158 0x158 .wo,
      mkRow 0x15C 0x15C .rwl 0x4E20 true 0xFFFFFF, mkRow 0x160 0x168 .ro 0 true,
      mkRow 0x16C 0x16C .rc, mkRow 0x170 0x170 .ro, mkRow 0x174 0x174 .rc ]
  | .vport _ =>
    [ mkRow 0x100 0x100 .rw 0 false 3, mkRow 0x104 0x110 .ro, mkRow 0x114 0x120 .rc,
      mkRow 0x124 0x128 .ro ]
  | .twin =>
    [ mkRow 0x100 0x100 .rwl 0x00640002 true 0x00FF0007, mkRow 0x104 0x104 .ro,
      mkRow 0x108 0x108 .rw, mkRow 0x10C 0x10C .rw 0 false 0xFF, mkRow 0x110 0x110 .ro,
      mkRow 0x114 0x114 .rw 0 true 0xFFFFF800, mkRow 0x118 0x118 .rw 0 true 0xFF,
      mkRow 0x11C 0x11C .rw 0x100 true 0x1FFF, mkRow 0x120 0x134 .ro, mkRow 0x138 0x138 .ro 0 true,
      mkRow 0x140 0x14C .ro, mkRow 0x150 0x150 .rw 0 false 0xF 0 .any true,
      mkRow 0x154 0x158 .rw 0 false 0xFFFFFFFF 0 .any true, mkRow 0x15C 0x15C .wo,
      mkRow 0x160 0x160 .ro 0 false 0 0 .any true ]
  | .legal =>
    [ mkRow 0x100 0x124 .ro, mkRow 0x128 0x128 .rw 0 false 0xFFFF00FF,
      mkRow 0x12C 0x12C .rw 0 false 0x1FF, mkRow 0x130 0x130 .wo, mkRow 0x134 0x138 .ro,
      mkRow 0x400 0x4FC .rw, mkRow 0x800 0x8FC .ro ]
  | .lcore => coreRows 10 ++ [ mkRow 0x140 0x140 .ro, mkRow 0x144 0x144 .rw 0 false 0xFFF, mkRow 0x148 0x148 .ro ]
  | .afe =>
    [ mkRow 0x100 0x100 .rwl 0x3FF true 0x303FF, mkRow 0x104 0x104 .rwl 0 true 3,
      mkRow 0x108 0x108 .rwl 0x186A0 true, mkRow 0x110 0x134 .rwl 0x01000000 true,
      mkRow 0x140 0x164 .rwl 0 true, mkRow 0x170 0x18C .rwl 0 true, mkRow 0x200 0x27C .ro 0 true ]
  | .lrtc =>
    [ mkRow 0x100 0x104 .ro 0 true, mkRow 0x108 0x10C .rwl 0 true, mkRow 0x110 0x110 .wo,
      mkRow 0x114 0x114 .rwl 0 true, mkRow 0x118 0x118 .ro 0 true, mkRow 0x11C 0x11C .ro 1 true ]
  | .tamp =>
    ((List.range 32).map fun n =>
      mkRow (0x100 + 4 * n) (0x100 + 4 * n) .rwl (wd (tampRespC n)) true 7 2 .mcore) ++
    [ mkRow 0x180 0x180 .rwl 0x200 true 0x3FF 2, mkRow 0x184 0x184 .ro,
      mkRow 0x188 0x18C .ro 0 true, mkRow 0x190 0x190 .ro, mkRow 0x194 0x194 .rwl 0xFF true 0xFF 2,
      mkRow 0x198 0x198 .rwl 0 true 0xFFF 2, mkRow 0x19C 0x1A0 .rc,
      mkRow 0x1A4 0x1A8 .rwl 0 true 0xFFFFFFFF 2, mkRow 0x1AC 0x1AC .rc, mkRow 0x1B0 0x1B0 .ro 0 true,
      mkRow 0x1B4 0x1B4 .wo ]
  | .bkp =>
    [ mkRow 0x100 0x100 .w1c 0 true 0xFFFFFFFF 0 .any false true,
      mkRow 0x104 0x104 .rc 0 true 0xFFFFFFFF 0 .any false true,
      mkRow 0x108 0x110 .ro 0 true 0 0 .any false true,
      mkRow 0x114 0x114 .rw 0 true 0x1F 0 .any false true,
      mkRow 0x118 0x128 .ro 0 true 0 0 .any false true,
      mkRow 0x12C 0x12C .ro 0x04444444 true 0 0 .any false true,
      mkRow 0x130 0x130 .ro 0 true 0 0 .any false true ]
  | .lc =>
    [ mkRow 0x100 0x100 .ro 0 true, mkRow 0x104 0x104 .rwp 0 false 7 0 .mcore,
      mkRow 0x108 0x108 .rwpN 0 false 0xFFFFFFFF 0 .mcore,
      mkRow 0x10C 0x10C .ro 0 true, mkRow 0x110 0x118 .ro 0 true,
      mkRow 0x11C 0x11C .wo 0 false 0xF 0 .mcore ]
  | .dbg =>
    [ mkRow 0x100 0x100 .rw, mkRow 0x104 0x104 .wo, mkRow 0x108 0x148 .ro, mkRow 0x180 0x1FC .rw,
      mkRow 0x200 0x200 .wo, mkRow 0x204 0x208 .ro, mkRow 0x20C 0x20C .wo, mkRow 0x210 0x210 .rc,
      mkRow 0x300 0x300 .rw 0 false 0x3FF, mkRow 0x304 0x304 .ro, mkRow 0x308 0x30C .wo,
      mkRow 0x310 0x310 .rw 0 false 0x3F0F, mkRow 0x314 0x314 .rw,
      mkRow 0x320 0x32C .rw 0 false 0xFFFFFFFD ]
  | .trace =>
    [ mkRow 0x100 0x100 .rw 0 false 0x1F03FF, mkRow 0x104 0x104 .rw 0 false 0xFFFFF000,
      mkRow 0x108 0x108 .rw 0 false 0xFF, mkRow 0x10C 0x10C .ro, mkRow 0x110 0x110 .rc ]
  | .gpio => []
  | .uart _ => []
  | .i2c _ => []
  | .qspi _ => []
  | .inst _ =>
    [ mkRow 0x100 0x100 .rw 0 true 0xF, mkRow 0x104 0x104 .rw 0 true 0x800FFFFF,
      mkRow 0x108 0x108 .rw 0 true 0xFFFFF000, mkRow 0x10C 0x10C .rw 0 true 0xFF,
      mkRow 0x110 0x110 .ro, mkRow 0x114 0x114 .rc, mkRow 0x200 0x23C .rw 0 false 0xFFF ] ++
    (List.range 8).flatMap instQueueRows ++
    [ mkRow 0x400 0x40C .rw 0 false 0xFFFFFFFF 0 .any true, mkRow 0x410 0x410 .wo,
      mkRow 0x414 0x414 .ro 0 false 0 0 .any true ]

/-- The row a block-specific offset belongs to; none for a reserved offset (R4). -/
def findRow (k : PageKind) (off : Nat) : Option RegRow :=
  (regRows k).find? fun r => r.lo ≤ off && off ≤ r.hi

/-- The value a register holds after a cold reset (R9). -/
def coldValue (k : PageKind) (off : Nat) : Word :=
  match findRow k off with
  | some r => r.c
  | none => 0

/-- CTRL bits that hold a value: EN and the block's own (R27, R28); bits that read 0 are not stored. -/
def ctrlStored : PageKind → Word
  | .sram => 0x201
  | .key => 0x101
  | .rng => 0x101
  | _ => 1

/-- LOCK bits a page defines (R30 and the chapters). -/
def lockBits : PageKind → Word
  | .gate _ | .flash | .key | .press _ | .digest _ | .bin | .rdr _ | .strm | .tamp => 3
  | _ => 1

/-- The registers a latch copies to 0xE0C and up (R37 and the chapters' snapshot rows). -/
def snapRegs : PageKind → List Nat
  | .gate _ => [0x100, 0x10C, 0x110, 0x118]
  | .sram => [0x100, 0x108, 0x10C]
  | .ddr => [0x104, 0x10C, 0x108]
  | .mseal => [0x10C, 0x114, 0x118, 0x120]
  | .flash => [0x11C, 0x15C, 0x120, 0x160, 0x20C]
  | .rng => [0x114, 0x118, 0x110, 0x11C]
  | .key => [0x124, 0x138, 0x100]
  | .press _ => [0x10C, 0x110, 0x128, 0x114]
  | .digest _ => [0x10C, 0x110, 0x128, 0x13C]
  | .stave _ => [0x100, 0x118, 0x120, 0x128]
  | .bin => [0x130, 0x144, 0x134, 0x13C]
  | .rdr _ => [0x124, 0x158, 0x15C, 0x10C]
  | .tag => [0x10C, 0x12C, 0x130]
  | .card _ => [0x118, 0x11C, 0x120]
  | .sdc => [0x11C, 0x120, 0x124]
  | .jrnl => [0x100, 0x148, 0x14C]
  | .legal => [0x110, 0x114, 0x10C, 0x134]
  | .host => [0x100, 0x11C, 0x828]
  | .inst _ => [0x110, 0x114, 0x104]
  | .strm => [0x100, 0x11C, 0x120, 0x124]
  | .vine => [0x100, 0x10C, 0x160, 0x16C]
  | .vport _ => [0x104, 0x108, 0x110]
  | .twin => [0x104, 0x120, 0x128, 0x134]
  | .tamp => [0x184, 0x188, 0x1AC]
  | .bkp => [0x100, 0x104, 0x118]
  | .rst => [0x100, 0x114]
  | .clk => [0x018, 0x10C]
  | .pwr => [0x100, 0x104, 0x110]
  | _ => []

/-- CAPS0 of a page, where its chapter gives one. -/
def caps0 : PageKind → Word
  | .press _ => 0x7FE
  | .digest _ => 0x000E003E
  | .stave _ => 0x73E
  | .stavel => 0x2
  | .rdr _ => 0xF
  | _ => 0

/-- CAPS1 of a page, where its chapter gives one. -/
def caps1 : PageKind → Word
  | .press _ | .digest _ => 0x4010
  | .stave _ => 0x20000010
  | .stavel => 0x04000010
  | .rdr _ => 0x00010140
  | _ => 0

end Sys2Proof.Machine
end

