-- ==== Sys2Proof/Machine/Segment.lean ====
section
/-!
DEFINITION. Segment registers and the descriptors they are loaded from (R53–R55).
-/
namespace Sys2Proof.Machine

/-- A loaded segment register (R53, R57); `null` is the null segment. -/
structure Seg where
  sel : Nat := 0
  null : Bool := true
  base : Nat := 0
  limit : Nat := 0
  r : Bool := false
  w : Bool := false
  x : Bool := false
  cache : Nat := 0
  order : Nat := 0
  deriving DecidableEq, Repr

/-- The outcome of loading a descriptor: the segment, or a cause code of R76. -/
inductive DescAns where
  | ok (s : Seg)
  | fail (code : Nat)
  deriving DecidableEq, Repr

/-- A descriptor decoded for core `t` under selector `sel` (R53, R54): SEG_MASK 0x24, SEG_DESC 0x25.
LCORE has no LOADMASK bit; its own descriptors allow it (notes/assumptions/14.md). -/
def decodeDesc (t sel : Nat) (bs : List Byte) : DescAns :=
  let w0 := wd (leAt bs 0 4)
  let w1 := wd (leAt bs 4 4)
  let w2 := wd (leAt bs 8 4)
  let w3 := wd (leAt bs 12 4)
  let base := w0.toNat + fld w1 0 8 * 2 ^ 32
  if !(bitAt w3 t) && t ≠ 10 then .fail 0x24
  else if !(bitAt w1 31) then .ok { sel := sel }
  else if fld w1 16 15 ≠ 0 || bitAt w1 11 || fld w3 10 22 ≠ 0 || fld w1 12 2 = 3 || fld w1 14 2 = 3 ||
      base + w2.toNat > 0xFFFFFFFFFF then .fail 0x25
  else .ok { sel := sel, null := false, base := base, limit := w2.toNat, r := bitAt w1 8, w := bitAt w1 9,
             x := bitAt w1 10, cache := fld w1 12 2, order := fld w1 14 2 }

/-- Segments s0–s7 of MCORE as the boot ROM's built-in table gives them (R74, R75): a descriptor that
fails a check leaves its segment null. -/
def romSegs : Tbl Seg :=
  (List.range 8).map fun i =>
    (i, match decodeDesc 9 i ((List.range 16).map fun j => Config.romByte (0x1F000 + 16 * i + j)) with
        | .ok s => s
        | .fail _ => { sel := i })

end Sys2Proof.Machine
end

