-- ==== Sys2Proof/Machine/State.lean ====
section
/-!
DEFINITION. The state of the KRM8840: plain data, every field with its value right after a cold reset
as its default. Registers stand in one table keyed by page and offset; an unlisted register holds its
column C value (R9). The queues, engines, key slots, sessions and islands hold their own structures.
-/
namespace Sys2Proof.Machine

/-- Why a command stops. No command of the table ends in a fault: the machine answers refused accesses
with a bus fault that it delivers to the initiator. -/
inductive Fault where
  /-- Raised by no meaning; the block has no stop of its own. Safe. -/
  | stopped
  deriving DecidableEq, Repr

/-- Why a command has no meaning. -/
inductive Refusal where
  /-- Raised by an arm of `exec` whose command has no meaning yet. Safe. -/
  | notModelled (mnemonic : String)
  deriving DecidableEq, Repr

/-- How an access was answered (R22, R98, R107, R109, R3). -/
inductive BusFault where
  | none | range | gate | parity | timeout | access | data
  deriving DecidableEq, Repr

/-- The last response an agent received: data and fault, with the size of the access and the CACHE and ORDER that its
gate delivered (R100). -/
structure Resp where
  data : Nat := 0
  fault : BusFault := .none
  size : Nat := 0
  attr : Option (Nat × Nat) := Option.none
  deriving DecidableEq, Repr

/-- What the accesses of an agent that touch a byte meet within a command: an upset, an answer that does not come in
time (R109), a second verdict that disagrees (R105). It stands until it is withdrawn (notes/assumptions/76.md). -/
structure Fate where
  agent : Nat
  addr : Nat
  upset : Upset := .none
  late : Bool := false
  twice : Bool := false
  deriving DecidableEq, Repr

/-- A pending paired write (R6): register key, agent, value and the cycle its window ends. -/
structure PairW where
  key : Nat
  agent : Nat
  value : Word
  deadline : Nat
  deriving DecidableEq, Repr

/-- An access judged by a gate whose response has not passed back (R103, R104). `second` is set while
the second verdict of R105 is awaited, `refused` the reason of a first verdict that refused; `asked` is the ordering
it was issued with and `order` the one delivered (R100, R106); `waited` counts the grants it has waited (R110);
`byDefault` that the default map admits it; `buf` is set for a buffered store or line write-back: its core, its segment
and the SIZE code of STERR_INFO (R73). -/
structure Flight where
  id : Nat
  agent : Nat
  gate : Nat
  epoch : Nat
  addr : Nat
  size : Nat
  write : Bool
  fetch : Bool
  data : List Byte
  cache : Nat
  order : Nat
  issued : Nat
  second : Bool
  timedOut : Bool
  asked : Nat := 0
  refused : Option Nat := Option.none
  byDefault : Bool := false
  waited : Nat := 0
  buf : Option (Nat × Nat × Nat) := Option.none
  deriving DecidableEq, Repr

/-- CORE.STATE.RUN. -/
inductive RunSt where
  | reset | run | wait | halted
  deriving DecidableEq, Repr

/-- A data-cache line: its 64 bytes, whether they are newer than memory, whether its gate delivered WT, and
the segment that wrote it last with its ORDER (R69, R70, R73). -/
structure DLine where
  data : List Byte
  dirty : Bool
  wt : Bool
  seg : Nat
  order : Nat := 0
  deriving DecidableEq, Repr

/-- An entry of the hold ledger (R78). -/
structure Hold where
  h : Bool := false
  hcnt : Nat := 0
  deriving DecidableEq, Repr

/-- What a frame describes of the event, beyond the registers (R80, R81). -/
structure Ref where
  epc : Word := 0
  npc : Word := 0
  done : Bool := false
  slot : Bool := false
  shadow : Bool := false
  loopEnd : Option Nat := Option.none
  deriving DecidableEq, Repr

/-- A core (chapters "Cask cores" and "Exceptions, holds and escalation"). `slot` holds the resolved
successor while the next instruction is a delay slot; `kept` holds the successor a returned-to
instruction keeps (R81); `shadow` that the next instruction is a shadow (R58); `await` the remote access its
instruction waits for, `got` that access's answer (R412), and `fetched` that the waiting instruction has been
fetched; `closed` that the
boundary is closed (R82); `last` describes the last completed instruction. -/
structure CoreSt where
  run : RunSt := .reset
  escHalt : Bool := false
  agent : Option Nat := Option.none
  g : Tbl Word := []
  pc : Word := 0
  c : Bool := false
  v : Bool := false
  h : Bool := false
  hcnt : Nat := 0
  la0 : Bool := false
  la1 : Bool := false
  esc : Bool := false
  lstart0 : Word := 0
  lend0 : Word := 0
  lcount0 : Word := 0
  lstart1 : Word := 0
  lend1 : Word := 0
  lcount1 : Word := 0
  crcpoly : Word := 0
  crccfg : Word := 0x20
  crcxor : Word := 0
  cycle : Nat := 0
  cycHi : Word := 0
  segs : Tbl Seg := []
  slot : Option Word := Option.none
  kept : Option Word := Option.none
  await : Option Nat := Option.none
  got : Option Resp := Option.none
  fetched : Bool := false
  shadow : Bool := false
  closed : Bool := false
  last : Ref := {}
  xdepth : Nat := 0
  iprio : Nat := 0
  ledger : List Hold := []
  escHold : Hold := {}
  escRef : Nat := 0
  pendAlarm : Bool := false
  pendSterr : Bool := false
  dbgHalt : Bool := false
  dbgStep : Bool := false
  bps : List Word := [0, 0, 0, 0]
  dcache : Tbl DLine := []
  icache : List Nat := []
  deriving DecidableEq, Repr

/-- The three island cores and application cores hold `CoreSt`; MCORE runs after a cold reset (R471). -/
def coreReset (n : Nat) : CoreSt :=
  if n = 9 then { run := .run, agent := some 0x11, segs := romSegs } else {}

/-- The pages and hardware of TAMP and BKP beyond their registers (R436–R451). `vin` that VIN is
present; `resp` the response being carried out (0 none); `twinWait` a response that waits for the
RELINQUISH heartbeat (R429); `first` the sources and response of the dispatch whose second decision is
outstanding (R440). -/
structure TampSt where
  vin : Bool := true
  resp : Nat := 0
  twinWait : Nat := 0
  first : Option (Nat × Nat) := Option.none
  halted : Bool := false
  zeroizing : Bool := false
  fuseCfg : Nat := 0
  flagSeen : Nat := 0
  log : Tbl (List Word) := []
  logSeq : Nat := 0
  lockdown : Bool := false
  lost : Bool := false
  vbatOk : Bool := true
  epochFuses : Nat := 0
  resetsLow : Nat := 0
  resetsEnd : Bool := false
  btime : Nat := 0
  batRam : Tbl (List Byte) := []
  batMask : List Byte := []
  maskDue : Bool := true
  deriving DecidableEq, Repr

/-- The LC fuse row, the decoded state and the debug port (R452–R468). `challenge` the held challenge
bytes and scope; `verify` the outcome of the response being verified and the scope it grants; `failed` the
failed responses since the last cold or warm reset. -/
structure LcSt where
  groups : List Nat := [0, 0, 0, 0]
  state : Nat := 0
  partialGrp : Bool := false
  invalid : Bool := false
  dualFail : Bool := false
  pkRevoke : Nat := 0
  grant : Nat := 0x1F
  challenge : Option (List Byte × Nat) := Option.none
  verify : Option (Nat × Nat) := Option.none
  failed : Nat := 0
  deriving DecidableEq, Repr

/-- Resets asked for and not yet carried out, and the hardware of RST, WDOG and the boot ROM. `asked` holds
the CAUSE bits of pending requests, and bit 16 an escalation reset. `bootWait` that the ROM waits to retry a
failed boot; `trainTried` and `sealTried` that it has asked for training and for INIT in this start. -/
structure RstSt where
  asked : Nat := 0
  nrstLow : Bool := false
  wdogCount : Nat := 0
  bootWait : Bool := false
  trainTried : Bool := false
  sealTried : Bool := false
  deriving DecidableEq, Repr

/-- Power and clocks (R476–R494): regulator states, the switch under way, PLL locks, the PLLs
that lost lock while running, crystals. -/
structure PwrSt where
  on : Nat := 0x210008ff201807
  rails : List Nat := [2, 2, 0, 0, 2, 0]
  switching : Option (Nat × Bool) := Option.none
  dramUp : Bool := false
  dramBusy : Bool := false
  vinLow : Bool := false
  vio : Nat := 0x202
  pllLocked : Nat := 0x3
  refOk : Nat := 0x7
  coreSwitching : Bool := false
  pllLost : Nat := 0
  deriving DecidableEq, Repr

/-- The eight SRAM banks (R111–R118): state codes of BANK_STATE, the re-key under way, and banks that
wait for a key draw. `rekeyUsed` is set once a re-key has taken effect since the last cold or warm
reset, `rekeyStarted` once one has started. `keys` holds the fresh keys of banks that have one; a bank
without an entry is on its start key; `oldKeys` those that a walk under way replaces, and `walked` the words that the
walkers have passed (R114). `zeroDraw` marks the banks whose zeroing waits for a key; `bad`
lists the words of banks 0–6 that hold an uncorrectable error (R116, R117). -/
structure SramSt where
  keys : Tbl (List Byte) := []
  oldKeys : Tbl (List Byte) := []
  walked : Nat := 0
  banks : List Nat := [0, 0, 0, 0, 0, 0, 0, 0]
  rekeyUsed : Bool := false
  rekeyStarted : Bool := false
  drawWait : Bool := false
  walking : Bool := false
  zeroDraw : Nat := 0
  bad : List Nat := []
  deriving DecidableEq, Repr

/-- The DDR controller (R120–R124): MODE, keys loaded, key draws made, and a draw that waits. From
`zeroLo`, `zeroLen` bytes of DRAM read as zero where nothing has been stored (R129). -/
structure DdrSt where
  keys : List Byte := []
  zeroLo : Nat := 0
  zeroLen : Nat := 0
  mode : Nat := 0
  trained : Bool := false
  keyed : Bool := false
  keyNo : Nat := 0
  keyUsed : Bool := false
  drawWait : Bool := false
  deriving DecidableEq, Repr

/-- A counter block of the protected window: the major counter and the 64 minors (R128). -/
structure CtrBlock where
  major : Nat := 0
  minors : Tbl Nat := []
  deriving DecidableEq, Repr

/-- The memory seal (R126–R133). `blocks` are the counter blocks by page of the window, `nodes` the
counters of tree nodes by level * 2^20 + index of the child they count, the root among them; `cache`
the metadata lines held, most recently used first, with their dirty marks. -/
structure MsealSt where
  winReady : Bool := false
  broken : Bool := false
  initBusy : Bool := false
  initUsed : Bool := false
  macKey : List Byte := []
  drawWait : Bool := false
  blocks : Tbl CtrBlock := []
  nodes : Tbl Nat := []
  cache : List (Nat × Bool) := []
  deriving DecidableEq, Repr

/-- One hidden state row of a flash sector (R142): the word states of its STARTED and DONE words are those of R136,
3 ERASED, 1 PARTIAL, 0 PROGRAMMED. -/
structure SectRow where
  seq : Nat := 0
  erases : Nat := 0
  started : Nat := 3
  done : Nat := 3
  deriving DecidableEq, Repr

/-- A flash command channel (R138–R145). `unlock` is 0 locked, 1 after the first key write, 2 unlocked;
`stuck` locked until the next warm reset; `prog` the code word under program with its data; `erase` the
sector under erase and `step` which of the steps of R142 runs, `lowers` that it belongs to a lowering of the read-out
protection (R149); `auto` that its suspension was automatic; `want` that a read waits for one;
`age` the suspended time in nanoseconds; `check` a running check command. -/
structure FlashChan where
  unlock : Nat := 0
  keyAgent : Nat := 0
  owner : Nat := 0
  stuck : Bool := false
  prog : Option (Nat × List Byte) := Option.none
  erase : Option Nat := Option.none
  step : Nat := 0
  lowers : Bool := false
  suspended : Bool := false
  auto : Bool := false
  want : Bool := false
  check : Option (Nat × Nat) := Option.none
  age : Nat := 0
  deriving DecidableEq, Repr

/-- The flash array beyond its bytes (R134–R149): word states by code word (unlisted ERASED, 3), the two
state rows of each sector (unlisted NEW), the protection row with the LOWERING marker of R149 and in `lowerAt` the next
sector that a lowering under way erases, the island's pending request, and in `bad` the
code words (address / 16) with more errors than a read corrects (R137). -/
structure FlashSt where
  ws : Tbl Nat := []
  rows : Tbl (SectRow × SectRow) := []
  chans : List FlashChan := [{}, {}]
  scanned : Bool := false
  intSectors : List Nat := []
  rdp : Nat := 0
  lowering : Bool := false
  lowerAt : Option Nat := Option.none
  islandReq : Bool := false
  bad : List Nat := []
  deriving DecidableEq, Repr
/-- A noise source of the RNG (R150–R152, R163): its start-up test, whether it feeds the conditioner, the
tests it failed, and the running counts of both health tests. -/
structure RngSrc where
  startup : Bool := true
  run : Bool := false
  rct : Bool := false
  apt : Bool := false
  last : Option Bool := Option.none
  rep : Nat := 0
  winPos : Nat := 0
  winFirst : Bool := false
  winCnt : Nat := 0
  deriving DecidableEq, Repr

/-- A DRBG instance (R155–R164): its state once instantiated, the requests served since its seed, its
place in the seed queue while it waits for instantiation or is due, whether it stalls at its cap, and the
unread output delivered to its client, with the mark of the fall-back. -/
structure RngInst where
  drbg : Option Drbg := Option.none
  count : Nat := 0
  asked : Option Nat := Option.none
  due : Option Nat := Option.none
  stalled : Bool := false
  block : List Byte := []
  fromFallback : Bool := false
  deriving DecidableEq, Repr

/-- The random number generator beyond its registers (R150–R167). `outs` are the conditioner outputs of
the seed being gathered, `order` numbers the arrivals in the seed queue. -/
structure RngSt where
  srcs : List RngSrc := [{}, {}, {}, {}, {}, {}, {}, {}]
  lfsr : Nat := 0
  outs : List (List Byte) := []
  seeds : List (List Byte) := []
  ready : Bool := false
  fault : Bool := false
  lowpwr : Bool := false
  insts : Tbl RngInst := []
  order : Nat := 0
  deriving DecidableEq, Repr

/-- A key slot (R169): attributes and material. A battery slot keeps its material in the battery key RAM
and lists none here. -/
structure KeySlot where
  typ : Nat := 0
  len : Nat := 0
  usage : Nat := 0
  owner : Nat := 0
  inst : Nat := 0x7F
  mat : List Byte := []
  deriving DecidableEq, Repr

/-- A running management command (R178): its code, the result it will write, none while it waits for its wire or for
an engine, and the slot it has begun to store into. `slots` are those it zeroized (R187), `tried` the scalar draws
rejected so far (R184), `data` the blob read or the IV drawn for the work on PRESS0 (R181–R183). -/
structure KeyRun where
  cmd : Nat
  code : Option Nat
  target : Option Nat
  slots : List Nat := []
  tried : Nat := 0
  data : List Byte := []
  deriving DecidableEq, Repr

/-- A running injection of an agent (R186): the request with the agent's INJ_DEST and INJ_INST as they stood, and the
code it will report, none while it waits (R175, R239). -/
structure Inject where
  code : Option Nat := Option.none
  req : Word := 0
  dest : Nat := 0
  tag : Nat := 0x7F
  deriving DecidableEq, Repr

/-- The key store (R168–R189). `root` holds the OTP shares M and root ⊕ M. `inject` lists the running
injections of agents. `scrub` counts the granules of zeroized slots that are still to be overwritten (R187). `bootOff`
that slot 1,016 refuses every use until the next cold, warm or tamper reset (R176), which outlasts CTRL.BOOT_OFF in a
block reset (R28). -/
structure KeySt where
  slots : Tbl KeySlot := []
  root : Option (List Byte × List Byte) := Option.none
  arenaKey : List Byte := []
  derived : Bool := false
  classReady : Bool := false
  classFail : Bool := false
  run : Option KeyRun := Option.none
  inject : Tbl Inject := []
  scrub : Nat := 0
  bootOff : Bool := false
  deriving DecidableEq, Repr

/-- The running state of one open job of a Press or digest unit (R201, R222). `mats` is the key material
held on chip, none once dropped (R204). `chain` is the chaining value, counter or tweak, `acc` the GHASH
or MAC accumulator, `part` the trailing partial block, `hash` the digest state with `inner` its length in
bytes. `bin` is none for a one-shot job. `used` is the place in the LRU order. -/
structure Ctx where
  bin : Option Nat := Option.none
  mode : Nat := 0
  alg : Nat := 0
  dir : Bool := false
  pad : Bool := false
  inv : Bool := false
  agent : Nat := 0
  inst : Nat := 0x7F
  key : Nat := 0
  key2 : Nat := 0
  ivlen : Nat := 0
  taglen : Nat := 0
  aadlen : Nat := 0
  totlen : Nat := 0
  consumed : Nat := 0
  mats : Option (List Byte × List Byte) := Option.none
  iv : List Byte := []
  chain : List Byte := []
  acc : List Byte := []
  part : List Byte := []
  hash : List Nat := []
  inner : Nat := 0
  poisoned : Bool := false
  used : Nat := 0
  deriving DecidableEq, Repr

/-- A queued descriptor: its address, the submitter, for a digest unit the copy of EXPECT (R216), and its bytes once
the unit has fetched them. -/
structure QEntry where
  addr : Nat
  agent : Nat
  expect : List Byte := []
  desc : Option (List Byte) := Option.none
  deriving DecidableEq, Repr

/-- Work of the device itself that runs on a unit as an ordinary context: the key store's command (R183, R226), the
class keys (R175), a pair blob (R422), or a frame of a stream flow (R190). -/
inductive OwnWork where
  | key | classes | pair
  | flow (n : Nat)
  deriving DecidableEq, Repr

/-- A prepared segment: its descriptor, the context it belongs to, the submitter, the input bytes taken
and output bytes written so far, the input bytes of the job with them, plaintext held until the tag is checked (R198), the IV drawn and whether it waits for the
draw (R211), whether its input has all been taken, its place in the scheduling order, and its outcome
once it has ended. `dropped` that its outcome has been dropped (R194); `own` that it is the device's own work, which has
no descriptor. -/
structure Segment where
  addr : Nat
  agent : Nat
  expect : List Byte := []
  desc : List Byte
  ctx : Option Nat := Option.none
  taken : Nat := 0
  outlen : Nat := 0
  total : Nat := 0
  held : List Byte := []
  trunc : Bool := false
  iv : List Byte := []
  waitIv : Bool := false
  ran : Bool := false
  stamp : Nat := 0
  code : Option Nat := Option.none
  matched : Bool := false
  dropped : Bool := false
  own : Option OwnWork := Option.none
  deriving DecidableEq, Repr

/-- A Press or digest unit (R190–R226). `wants` is own work that waits for a place, `resetting` a block reset whose
clearing waits for the wire (R210), `unbin` one of BIN (R270). `queue` holds descriptors not yet fetched, `segs` the prepared
segments in submission order, `ctxs` the on-chip contexts by place, `running` the place scheduled with the
input bytes it consumed in its quantum. -/
structure UnitSt where
  queue : List QEntry := []
  segs : List Segment := []
  ctxs : Tbl Ctx := []
  running : Option (Nat × Nat) := Option.none
  stamp : Nat := 0
  wants : List OwnWork := []
  resetting : Bool := false
  unbin : Bool := false
  deriving DecidableEq, Repr

/-- A Stave beyond its registers and its operand RAM (R228–R248). `hidden`, `taint` and `written` list
granules; `bind` is the bound slot, purpose and key type; `randing` that the command at the front is a RAND that runs and
waits for its wire (R247); `ending` that the clearing under way ends the claim, `gone` that its slot was zeroized (R246),
`srst` that a block reset asked for it (R248). -/
structure StaveSt where
  ready : Bool := true
  claim : Option Nat := Option.none
  queue : List (Word × Word) := []
  list : Option (Nat × Nat) := Option.none
  acc : Nat := 0
  accTaint : Bool := false
  hidden : List Nat := []
  taint : List Nat := []
  written : List Nat := []
  bind : Option (Nat × Nat × Nat) := Option.none
  error : Bool := false
  ranRand : Bool := false
  marked : Bool := false
  rngf : Bool := false
  randing : Bool := false
  clearing : Bool := false
  ending : Bool := false
  gone : Bool := false
  srst : Bool := false
  deriving DecidableEq, Repr

/-- The state of a bin (R254). -/
inductive BinState where
  | free | hot | cold | lost
  deriving DecidableEq, Repr

/-- A bin (R253, R254). `flags` is FLAGS; `vis` is the visible part while the bin is hot, bytes 0–63 then
416–511; `press` and `digest` are its saved engine contexts with the unit that saved them; `stuck` marks a
frame unevictable (R267). -/
structure BinRec where
  st : BinState := .free
  inst : Nat := 0x7F
  pins : Nat := 0
  flags : Nat := 0
  vis : List Byte := []
  press : Option (Nat × Ctx) := Option.none
  digest : Option (Nat × Ctx) := Option.none
  stuck : Bool := false
  deriving DecidableEq, Repr

/-- Who waits for a bin (R263): a command of an agent, or an engine unit for a context. -/
inductive BinWho where
  | cmd (agent : Nat)
  | engine (unit : Nat)
  | flow (flow : Nat)
  deriving DecidableEq, Repr

/-- What a command carries from ARG, ADDR and VAL as they stood when CMD was written (R258). -/
structure BinArgs where
  arg : Word := 0
  addr : Nat := 0
  val : Nat := 0
  deriving DecidableEq, Repr

/-- A request that waits, with its command code (0 for an engine) and bin. `framed` says that it found no frame
to take (R262, R263). -/
structure BinWait where
  who : BinWho
  cmd : Nat
  bin : Nat
  args : BinArgs := {}
  framed : Bool := false
  deriving DecidableEq, Repr

/-- A frame of a closed bin whose overwriting waits for the wire (R266): the instance whose USED it counts in, and the
agent of the CLOSE it completes, with its ARG.IRQ. -/
structure BinScrub where
  inst : Nat
  close : Option (Nat × Bool) := Option.none
  deriving DecidableEq, Repr

/-- The bin store beyond its registers (R252–R271). `lru` lists hot bins, least recently used first;
`syncs` the increments that await the standby's acknowledgement of a SEQ, with their ARG.IRQ (R261). -/
structure BinSt where
  ready : Bool := false
  clearing : Bool := false
  bins : Tbl BinRec := []
  gens : Tbl Nat := []
  lru : List Nat := []
  waits : List BinWait := []
  spillSeq : Nat := 0
  noSpill : Bool := false
  used : Tbl Nat := []
  drains : List Nat := []
  syncs : Tbl (Nat × Bool) := []
  scrubs : List BinScrub := []
  deriving DecidableEq, Repr

/-- A change that the twin's journal will carry (R430, R431): its SEQ, KIND, target, body and FLAGS. -/
structure TwinChange where
  seq : Nat
  kind : Nat
  target : Nat
  body : List Byte
  flags : Nat := 0
  deriving DecidableEq, Repr

/-- An entry of a reader's singulation table (R284); `st` 0 FREE, 1 READY, 2 HALTED, 3 ACTIVE, 4 QUIET,
5 UNRESOLVED. `bn` is the block number of the ISO/IEC 14443-4 protocol, `held` that the entry is kept past
the end of its field (R289). -/
structure RdrEntry where
  st : Nat := 0
  proto : Nat := 0
  random : Bool := false
  dep : Bool := false
  cidu : Bool := false
  pquiet : Bool := false
  uid : List Byte := []
  info : List Byte := []
  rate : Nat := 0
  fsci : Nat := 0
  cid : Nat := 0
  round : Nat := 0
  tries : Nat := 0
  ats : Bool := false
  bn : Bool := false
  held : Bool := false
  deriving DecidableEq, Repr

/-- What a reader's running command waits for (R276, R285–R292). -/
inductive RdrPhase where
  | guard | reqa | anti | sak | slotB | haltB | slotV | wakeA | wakeSak | wakeB | rats | pps | attrib
  | selectV | block | xchgV | raw | deselect | hltb
  deriving DecidableEq, Repr

/-- A running reader command with its copies of ARG0, ARG1 and TXBUF. `bits` are identifier bits known at
a cascade level, `mask` and `branches` those of an inventory; `off` request bytes acknowledged, `blk` in
the block sent last, `rx` the answer so far. -/
structure RdrRun where
  cmd : Nat
  entry : Nat
  arg0 : Nat
  arg1 : Nat
  tx : List Byte
  phase : RdrPhase := .guard
  level : Nat := 0
  bits : List Bool := []
  uid : List Byte := []
  atqa : List Byte := []
  slot : Nat := 0
  slots : Nat := 16
  pass : Nat := 0
  passColl : Nat := 0
  mask : List Bool := []
  branches : List (List Bool) := []
  found : List (List Bool) := []
  tries : Nat := 0
  new : Nat := 0
  seen : Nat := 0
  coll : Nat := 0
  low : Option Nat := Option.none
  deferred : Bool := false
  unresolved : Bool := false
  multi : Bool := false
  off : Nat := 0
  blk : Nat := 0
  rx : List Byte := []
  answering : Bool := false
  retry : Nat := 0
  sentAll : Bool := false
  deriving DecidableEq, Repr

/-- A reader channel beyond its registers (R272–R293). `level` is the field in force (0 OFF, 1 LOW,
2 FULL), `ramp` the level it changes to; `hold` that it holds full power; `baseDue` that the next
measurement sets the baseline; `sent` the frame that left the antenna last, with its last byte's bits. -/
structure RdrSt where
  level : Nat := 0
  ramp : Option Nat := Option.none
  hold : Bool := false
  guard : Bool := false
  ant : Bool := false
  detect : Bool := false
  baseDue : Bool := true
  entries : Tbl RdrEntry := []
  run : Option RdrRun := Option.none
  sent : List Byte := []
  sentBits : Nat := 0
  deriving DecidableEq, Repr

/-- A change to tag memory or system data that goes through the steps of R306. -/
inductive TagChange where
  | block (b : Nat) (v : Word)
  | lock (b : Nat)
  | afi (v : Nat)
  | dsfid (v : Nat)
  | protect (area r w : Nat)
  | setpw (i : Nat) (v : Word) (limit : Nat)
  | pwreset (i : Nat)
  | conf (v : Nat)
  | seed (k : List Byte)
  deriving DecidableEq, Repr

/-- A wire command that waits or runs: its agent (none for the port's own SEED), code, ARG and DATA. -/
structure TagWire where
  agent : Option Nat
  cmd : Nat
  arg : Word
  data : Word
  deriving DecidableEq, Repr

/-- A change in steps 3–5 (R306): the wire command it belongs to, none for the RF side. -/
structure TagCycle where
  change : TagChange
  wire : Option TagWire
  deriving DecidableEq, Repr

/-- What a supply collapse left of a change (R307): COPIED with commit clear and the block to restore, or
commit set. -/
inductive TagShadow where
  | empty
  | copied (change : TagChange) (old : Word)
  | committed (change : TagChange)
  deriving DecidableEq, Repr

/-- The tag island (R295–R310). `rid` is the random identifier derived at the last power-up; `rf` the RF
state (0 ready, 1 quiet, 2 selected); `answer` the last RF answer, none where nothing was modulated, and
`slot` the slot it was sent in; `i2c` the bytes the I²C port read last. -/
structure TagSt where
  powered : Bool := true
  field : Bool := false
  blocks : Tbl Word := []
  pws : List Word := [0, 0, 0, 0, 0, 0, 0, 0]
  cnts : List Nat := [0, 0, 0, 0, 0, 0, 0, 0]
  lims : List Nat := [0, 8, 8, 8, 8, 8, 8, 8]
  pwlock : Nat := 0
  map : Tbl (Nat × Nat) := []
  locks : List Nat := []
  conf : Nat := 0
  seed : Option (List Byte) := Option.none
  count : Nat := 0
  shadow : TagShadow := .empty
  killed : Bool := false
  rid : Option (List Byte) := Option.none
  rf : Nat := 0
  shown : Nat := 0
  nonce : Option Word := Option.none
  nonces : Nat := 0
  quietCap : Bool := false
  cycle : Option TagCycle := Option.none
  waits : List TagWire := []
  hold : Bool := false
  seedDue : Bool := true
  answer : Option (List Byte) := Option.none
  slot : Nat := 0
  i2c : List Byte := []
  deriving DecidableEq, Repr

/-- A running contact-slot command (R316): its code, the class being tried, whether bytes of the C-APDU
have left the I/O line (0 none, 1 some, 2 all), whether it is journalled and whether its record is
open. -/
structure CardRun where
  cmd : Nat
  cls : Nat := 0
  left : Nat := 0
  jrn : Bool := false
  opened : Bool := false
  deriving DecidableEq, Repr

/-- A contact slot (R312–R318): STATE, the class that is powered (0 none), its running command, the first
16 ATR bytes, and the APDU that left on the line. -/
structure CardSt where
  st : Nat := 0
  cls : Nat := 0
  run : Option CardRun := Option.none
  atr : List Byte := []
  deriving DecidableEq, Repr

/-- A running SD command (R322, R327) with its operands as they stood. `auto` that the slot started it
itself; `stage` 0 started, 1 record open, 2 data phase begun; `data` the buffered block data; `after`
the code to complete with once a restore has ended. -/
structure SdRun where
  cmd : Nat
  agent : Nat
  auto : Bool := false
  stage : Nat := 0
  jrn : Bool := false
  mode : Nat := 0
  lba : Nat := 0
  count : Nat := 0
  addr : Nat := 0
  data : List Byte := []
  after : Nat := 0
  deriving DecidableEq, Repr

/-- The SD slot (R319–R323): STATE, card detected, write protected, the running command and one that waits
for the end of a restore, whether the restore is under way, and the last blocks sent to the card. -/
structure SdSt where
  st : Nat := 0
  present : Bool := false
  wp : Bool := false
  run : Option SdRun := Option.none
  wait : Option SdRun := Option.none
  restoring : Bool := false
  sent : Option (Nat × List Byte) := Option.none
  deriving DecidableEq, Repr

/-- The transaction journal (R324–R332): READY, the sector in use and the offset of its next record, the
next sector sequence and record SEQ, and the addresses of the open records by slot. -/
structure JrnlSt where
  ready : Bool := false
  cur : Option Nat := Option.none
  pos : Nat := 0
  sectSeq : Nat := 0
  seq : Nat := 0
  opens : Tbl Nat := []
  deriving DecidableEq, Repr
/-- The legal island beyond its registers (R334–R364). `mstate` is MSTATE and `held` the value before a
clock fault; `dsp` that the DSP accumulates; `cold` that the next start follows an island cold reset.
`key` holds d and NKEY as two shares each. `recPos`, `jpos` and `bookNo` are the next places in the record
ring, the energy journal and the cellar book; `recno` the next record number, `jseq` the next journal
sequence. `energy` holds the six accumulators with their residuals below 1 mWh in units of 2^-32.
`pulseAcc` is the growth not yet paid out in pulses, in units of 2^-32 µWh. `time` is LRTC TIME, `frac`
its remainder, `lastSet` the last unsealed SETTIME. `mb` is 0 idle, 1 posted, 2 taken. `lc` is the LC
value last seen, `lfl` a flash command that waits for a boundary, `lirq` the latched interrupt causes. -/
structure LegalSt where
  mstate : Nat := 0
  held : Nat := 0
  dsp : Bool := false
  cold : Bool := true
  swid : Nat := 0
  csum : Nat := 0
  pcsum : Nat := 0
  audit : Nat := 0
  key : Option ((List Byte × List Byte) × (List Byte × List Byte)) := Option.none
  recno : Nat := 0
  recPos : Nat := 0
  recCut : Bool := false
  bookNo : Nat := 0
  bookOvf : Nat := 0
  ovfNext : Bool := false
  ovfRec : Bool := false
  jseq : Nat := 0
  jpos : Nat := 0
  estimated : Bool := false
  energy : List (Nat × Nat) := [(0, 0), (0, 0), (0, 0), (0, 0), (0, 0), (0, 0)]
  pulseAcc : Nat := 0
  pulses : Nat := 0
  harm : List (List Nat) := []
  sealOn : Bool := false
  lvwarn : Bool := false
  time : Nat := 0
  frac : Nat := 0
  comp : Int := 0
  timeUnset : Bool := true
  lastSet : Option Nat := Option.none
  recint : Nat := 0
  pseq : Nat := 0
  mb : Nat := 0
  mbAgent : Nat := 0
  lc : Nat := 0
  lfl : Option Nat := Option.none
  lirq : Nat := 0
  deriving DecidableEq, Repr
/-- A flow of the stream port (R388): MODE 1 SEAL, 2 OPEN; unit 0 PRESS2, 1 PRESS3; the agent that added
it; frames served since it was added (R398). -/
structure StrmFlow where
  mode : Nat
  unit : Nat
  inst : Nat
  key : Nat
  bin : Nat
  rflow : Nat
  agent : Nat
  frames : Nat := 0
  deriving DecidableEq, Repr

/-- An input frame in the receive buffer: its bytes as they arrived, `stage` 0 not yet looked at, 1 held for
credits, 2 served, 3 whole and waiting for its Press unit (R190); its flow as it stood, the credits reserved for its output, its SEQ. -/
structure StrmFrame where
  bytes : List Byte
  stage : Nat := 0
  flow : Option StrmFlow := Option.none
  need : Nat := 0
  seq : Nat := 0
  deriving DecidableEq, Repr

/-- An ADD whose pin waits: the agent's flow number and configuration words (R388). -/
structure FlowAdd where
  agent : Nat
  flow : Nat
  cfg0 : Word
  cfg1 : Word
  deriving DecidableEq, Repr

/-- The stream port beyond its registers (R384–R399). `credits` are the partner's credits held, `owed`
those owed to it, `granted` those it still holds of this port; `errs` ERROR frames that wait for a credit;
`removing` flows whose last frames run; `out` the frames sent, oldest first. -/
structure StrmSt where
  up : Bool := false
  flows : Tbl StrmFlow := []
  adds : List FlowAdd := []
  removing : List (Nat × Nat × StrmFlow) := []
  credits : Nat := 0
  owed : Nat := 0
  granted : Nat := 0
  frames : List StrmFrame := []
  errs : List (List Byte) := []
  stall : Bool := false
  out : List (List Byte) := []
  deriving DecidableEq, Repr
/-- A virtual instance beyond its registers (R369–R382): its state code, the CREATE arguments in force, the
steps of a teardown that have reported, the drain limit passed, the queues whose fetch has stopped, and the key slots
that its teardown zeroized (R187). -/
structure InstSt where
  st : Nat := 0
  args : List Word := []
  drained : Bool := false
  binsDone : Bool := false
  limit : Bool := false
  stopped : List Nat := []
  slots : List Nat := []
  deriving DecidableEq, Repr

/-- The mediator's running command (R370): its code, the instance, the code it will complete with. -/
structure MedRun where
  cmd : Nat
  inst : Nat := 0
  code : Nat := 0
  deriving DecidableEq, Repr

/-- A DMA descriptor that is queued or running (R377): its address, submitter and bytes; `squashed` that
its RESULT is written and a host read of it is still outstanding. -/
structure DmaRun where
  addr : Nat
  agent : Nat
  desc : List Byte
  squashed : Bool := false
  deriving DecidableEq, Repr

/-- A posted request that left towards the host: a memory write under a PASID, or an MSI-X message. -/
structure HostMsg where
  pasid : Option Nat
  addr : Nat
  data : List Byte
  deriving DecidableEq, Repr

/-- The host interface beyond its registers (R365–R383). `link` is speed and width while the link is up;
`next` the place of the round-robin; `msix` the words of BAR4's table, `pba` its pending bits; `flr` that an
FLR waits for the last instance; `out` the posted requests, oldest first. -/
structure HostSt where
  link : Option (Nat × Nat) := Option.none
  med : Option MedRun := Option.none
  insts : Tbl InstSt := []
  queue : List DmaRun := []
  running : List DmaRun := []
  next : Nat := 0
  msix : Tbl Word := []
  pba : List Nat := []
  flr : Bool := false
  out : List HostMsg := []
  deriving DecidableEq, Repr
/-- A packet that waits for credits of its class at a port, with the port it came in on (R403). -/
structure VWait where
  pkt : VPkt
  src : Option Nat := Option.none
  deriving DecidableEq, Repr

/-- A Vine port beyond its registers (R400–R411): STATE and the neighbour its last HELLO named; credits
spent by class (1 REQ, 2 RSP, 3 MSG); the next LSEQ sent and expected by class; `kept` the credited packets
not yet acknowledged, `wait` those without credits, `sent` everything handed to the neighbour since the link
rose, oldest first. -/
structure VPort where
  state : Nat := 0
  nid : Nat := 0
  nmember : Bool := false
  ndepth : Nat := 0
  nserial : Nat := 0
  nup : Bool := false
  spent : Tbl Nat := []
  txSeq : Tbl Nat := []
  rxSeq : Tbl Nat := []
  kept : List VPkt := []
  wait : List VWait := []
  sent : List VPkt := []
  deriving DecidableEq, Repr

/-- A join that waits for firmware (R409), with the port it arrived on. -/
structure VJoin where
  serial : Nat
  pref : Nat
  tag : Nat
  hops : Nat
  port : Nat
  deriving DecidableEq, Repr

/-- A remote access of this device (R412): its flight, and whether its packet has been sent. -/
structure VRemote where
  flight : Nat
  sent : Bool
  deriving DecidableEq, Repr

/-- A message under way (R414). -/
structure VSend where
  agent : Nat
  dst : Nat
  tag : Nat
  deriving DecidableEq, Repr

/-- The VINE block and its ports beyond their registers (R400–R421). `routes` the port of each ID below;
`members` and `held` are the root's: the serial of each ID in use, and of each reserved ID; `targets` the
snapshot times pending; `msgNo` the count of messages sent. -/
structure VineSt where
  ports : Tbl VPort := []
  routes : Tbl Nat := []
  members : Tbl Nat := []
  held : Tbl Nat := []
  joins : List VJoin := []
  remotes : List VRemote := []
  sends : List VSend := []
  targets : List Nat := []
  msgNo : Nat := 0
  tagNo : Nat := 0
  deriving DecidableEq, Repr

/-- TIME beyond its registers (R416–R419): `run`, `locked`, `holdover`, successive offsets within ±10 ns,
the channels armed, the rate correction in parts per billion and what it has accumulated. -/
structure TimeSt where
  run : Bool := false
  locked : Bool := false
  holdover : Bool := false
  good : Nat := 0
  armed : Nat := 0
  rate : Int := 0
  frac : Int := 0
  deriving DecidableEq, Repr
/-- TWIN beyond its registers and the journal's waiting changes (R422–R435). `key` is the pair key with the
partner's serial `pserial`; `hbOut` and `hbIn` the own heartbeat counter and the last valid one; `heard` that
the running window had a valid heartbeat; `miss` the consecutive misses; `ack` SEQ_ACK; `peerSeq` and
`peerWell` from the partner's last heartbeat; `applied` the SEQ that last set each target, by
KIND * 65,536 + target; `frag` a FRAG1 body; `bulkEnd` that BULK_END has been applied; `bulk` the targets of a
bulk copy still to send, with its mark; `pairing` a pair blob that PRESS0 is to open; `due` a takeover reason that awaits its decision, `first` one decided
once, `taking` one that both decisions took; `waits` agents whose increment awaits a SEQ; `twfo` the ball. -/
structure TwinSt where
  state : Nat := 0
  peer : Nat := 0
  key : List Byte := []
  pserial : List Byte := []
  hbOut : Nat := 0
  hbIn : Nat := 0
  heard : Bool := false
  miss : Nat := 0
  ack : Nat := 0
  peerSeq : Nat := 0
  peerWell : Bool := false
  applied : Tbl Nat := []
  frag : Option (List Byte) := Option.none
  bulkEnd : Bool := false
  bulk : Option (Nat × List (Nat × Nat)) := Option.none
  due : Option Nat := Option.none
  first : Option Nat := Option.none
  taking : Option Nat := Option.none
  handover : Bool := false
  counters : Tbl Nat := []
  waits : Tbl Nat := []
  passMap : Nat := 0
  failed : Bool := false
  fails : Nat := 0
  well : Bool := false
  twfo : Bool := false
  pairing : Option (List Byte) := Option.none
  deriving DecidableEq, Repr

/-- The state of the machine. -/
structure State where
  /-- The commands that wait, first in first out. -/
  pending : List Instr := []
  /-- MAIN clock cycles since reset: the model's count for the windows of R6. -/
  cycle : Nat := 0
  /-- The number of free values drawn: the model's own (notes/assumptions/2.md). -/
  free : Nat := 0
  /-- Registers whose value differs, or differed, from their column C value, by page and offset. -/
  regs : Tbl Word := []
  /-- Copies of per-agent registers, by agent * 2^24 + page and offset. -/
  aregs : Tbl Word := []
  /-- Snapshot areas, by page and offset 0xE00–0xEFC (R37). -/
  snaps : Tbl Word := []
  /-- Paired writes whose window runs (R6). -/
  pairs : List PairW := []
  /-- The last response each agent received. -/
  ports : Tbl Resp := []
  /-- Accesses in flight on the fabric (R103, R104). -/
  flights : List Flight := []
  flightNo : Nat := 0
  /-- What accesses within a command meet on the fabric (notes/assumptions/76.md). -/
  fates : List Fate := []
  /-- Set while a command runs in which an access of an engine or to a core's tables has to wait at its target: its
  address. The command is then left to be given again; none between commands (notes/assumptions/77.md). -/
  held : Option Nat := Option.none
  /-- Bytes of the on-chip SRAM, the flash array and LPDDR4X, by address. -/
  mem : List Host.Cell := []
  /-- Triggers seen and not yet latched (R38), and whether the unit is armed (R39). -/
  snapPend : Nat := 0
  snapArmed : Bool := true
  /-- Levels of the GPIO pins 0–63 (R34). -/
  gpio : Nat := 0
  sram : SramSt := {}
  ddr : DdrSt := {}
  mseal : MsealSt := {}
  flash : FlashSt := {}
  /-- TIME.NOW in nanoseconds (R416). -/
  now : Nat := 0
  /-- Alarm notices sent to the legal island and not yet taken (R334, R442): the 4-bit classes. -/
  notices : List Nat := []
  rng : RngSt := {}
  key : KeySt := {}
  /-- PRESS0–3 at 0–3 and DIGEST0–5 at 4–9. -/
  units : Tbl UnitSt := []
  /-- The per-boot context key of the Press units, once drawn (R206). -/
  ctxKey : List Byte := []
  /-- STAVE0–3, and STAVE-L at 4. -/
  staves : Tbl StaveSt := []
  bin : BinSt := {}
  /-- SEQ_TX of the twin journal, whether changes are journalled, and changes on their way into the ring
  (R430). -/
  twinSeq : Nat := 0
  twinRepl : Bool := false
  changes : List TwinChange := []
  /-- RDR0–7. -/
  rdrs : Tbl RdrSt := []
  /-- Channels that wait for full power, oldest first (R275). -/
  rdrWaits : List Nat := []
  tag : TagSt := {}
  /-- CARD0–3. -/
  cards : Tbl CardSt := []
  sdc : SdSt := {}
  jrnl : JrnlSt := {}
  legal : LegalSt := {}
  strm : StrmSt := {}
  host : HostSt := {}
  vine : VineSt := {}
  time : TimeSt := {}
  twin : TwinSt := {}
  /-- Program-flow events that await their trace record (R468): core, kind, target, cycle count. -/
  traceQ : List (Nat × Nat × Word × Nat) := []
  /-- Trace records dropped since the last record (R468). -/
  traceLost : Bool := false
  cores : Tbl CoreSt := []
  tamp : TampSt := {}
  lc : LcSt := {}
  rst : RstSt := {}
  pwr : PwrSt := {}
  deriving DecidableEq, Repr

/-- The machine right after a cold reset (R471), before the boot ROM's first step. -/
def State.reset : State := {}

end Sys2Proof.Machine
end

