-- ==== Sys2Proof/Machine/Reg.lean ====
section
/-!
DEFINITION. Reading and writing the register tables, error and interrupt bits, counters, per-agent
copies, free values and bytes of memory: the named operations everything else is built from.
-/
namespace Sys2Proof.Machine

/-- The cold value of a common or block-specific register (R9, R27). -/
def regCold (k : Nat) : Word :=
  match pageKind (k / 0x1000) with
  | some kd => if k % 0x1000 < 0x100 then 0 else coldValue kd (k % 0x1000)
  | none => 0

/-- The stored value of a register. -/
def State.rg (s : State) (pg off : Nat) : Word := (tfind s.regs (rkey pg off)).getD (regCold (rkey pg off))

/-- A register stored. -/
def State.setRg (s : State) (pg off : Nat) (v : Word) : State :=
  { s with regs := tset s.regs (rkey pg off) v }

/-- A register changed by a function of its value. -/
def State.modRg (s : State) (pg off : Nat) (f : Word → Word) : State := s.setRg pg off (f (s.rg pg off))

/-- The key of an agent's own copy of a register. -/
abbrev akey (a pg off : Nat) : Nat := a * 0x1000000 + rkey pg off

/-- An agent's copy of a per-agent register. -/
def State.arg (s : State) (a pg off : Nat) : Word :=
  (tfind s.aregs (akey a pg off)).getD (regCold (rkey pg off))

/-- An agent's copy stored. -/
def State.setArg (s : State) (a pg off : Nat) (v : Word) : State :=
  { s with aregs := tset s.aregs (akey a pg off) v }

/-- ERR bit `i` of a page set (R27). -/
def State.err (s : State) (pg i : Nat) : State := s.modRg pg 0x1C fun v => setBitW v i

/-- IRQ_RAW bit `i` of a page set (R29). -/
def State.irq (s : State) (pg i : Nat) : State := s.modRg pg 0x20 fun v => setBitW v i

/-- A counter register incremented, saturating at all ones. -/
def State.cnt (s : State) (pg off : Nat) : State :=
  s.modRg pg off fun v => if v = 0xFFFFFFFF then v else v + 1

/-- Whether a bit of a stored register is 1. -/
def State.rbit (s : State) (pg off i : Nat) : Bool := bitAt (s.rg pg off) i

/-- CTRL.EN of a page. -/
def State.en (s : State) (pg : Nat) : Bool := s.rbit pg 0x10 0

/-- A fresh free value is drawn: the counter advances. -/
def State.draw (s : State) : State := { s with free := s.free + 1 }

/-- Bytes `n` of the free value now due. -/
def State.freeBytes (s : State) (n : Nat) : List Byte :=
  (List.range n).map fun i => Config.freeByte s.free i

/-- A power domain is on and not being switched off (R486, R488). -/
def State.pdOn (s : State) (d : Nat) : Bool := s.pwr.on.testBit d && s.pwr.switching != some (d, false)

/-- The pages of an agent's page number are powered, PD54 included for general I/O (R25). -/
def State.pageOn (s : State) (k : PageKind) : Bool :=
  s.pdOn (pageDomain k) &&
    (match k with
     | .gpio | .uart _ | .i2c _ | .qspi _ => s.pdOn 54
     | _ => true)

/-- A page's domain has its supply: also while a switch-off that was taken waits for admitted accesses (R488). -/
def State.pageUp (s : State) (k : PageKind) : Bool :=
  s.pwr.on.testBit (pageDomain k) &&
    (match k with
     | .gpio | .uart _ | .i2c _ | .qspi _ => s.pwr.on.testBit 54
     | _ => true)

/-- A core of the machine. -/
def State.core (s : State) (n : Nat) : CoreSt := (tfind s.cores n).getD (coreReset n)

/-- A core stored. -/
def State.setCore (s : State) (n : Nat) (c : CoreSt) : State := { s with cores := tset s.cores n c }

/-- A core changed. -/
def State.modCore (s : State) (n : Nat) (f : CoreSt → CoreSt) : State := s.setCore n (f (s.core n))

/-- The response an agent received last. -/
def State.port (s : State) (a : Nat) : Resp := tget {} s.ports a

/-- A response delivered to an agent. -/
def State.setPort (s : State) (a : Nat) (r : Resp) : State := { s with ports := tset s.ports a r }

/-- What an address of the on-chip SRAM, the flash array or LPDDR4X reads as while nothing has been
stored there: zero for SRAM (R112), 0xFF for an erased flash byte (R136), for LPDDR4X zero where INIT
cleared it (R129) and elsewhere a free byte by the number of key draws, and the bytes manufacture left in
the ROM and the information rows, where the protection row and the unused rest read zero (R134, R148). -/
def unlisted (d : DdrSt) (a : Nat) : Byte :=
  match regionOf a with
  | some .rom => Config.romByte a
  | some (.flash _) => 0xFF
  | some .info =>
    if a - 0x10800000 < 0x1000 || (0x2000 ≤ a - 0x10800000 && a - 0x10800000 < 0x4000)
    then Config.infoByte a else 0
  | some .dram => if d.zeroLo ≤ a && a < d.zeroLo + d.zeroLen then 0 else Config.dramByte d.keyNo a
  | _ => 0

/-- The value whose storing removes an entry, where an unlisted byte has a fixed value. -/
def erasedByte (d : DdrSt) (a : Nat) : Option Byte :=
  match regionOf a with
  | some (.flash _) => some 0xFF
  | some .rom | some .info => none
  | some .dram => if d.zeroLo ≤ a && a < d.zeroLo + d.zeroLen then some 0 else none
  | _ => some 0

/-- A byte of memory. -/
def memByte (d : DdrSt) (m : List Host.Cell) (a : Nat) : Byte := (tfind m a).getD (unlisted d a)

/-- Memory with one byte stored, in canonical form. -/
def memPut (d : DdrSt) (m : List Host.Cell) (a : Nat) (b : Byte) : List Host.Cell :=
  if erasedByte d a = some b then tdel m a else tset m a b

/-- Memory with bytes stored from an address up. -/
def memPuts (d : DdrSt) (m : List Host.Cell) (a : Nat) (bs : List Byte) : List Host.Cell :=
  match bs with
  | [] => m
  | b :: r => memPuts d (memPut d m a b) (a + 1) r

/-- Memory with a range returned to its unlisted contents. -/
def memClear (m : List Host.Cell) (lo n : Nat) : List Host.Cell :=
  m.filter fun c => !(lo ≤ c.1 && c.1 < lo + n)

/-- The canonical form of memory: addresses strictly rising, and no entry equal to the fixed value its
address reads as unlisted. -/
def memWf (d : DdrSt) : List Host.Cell → Bool
  | [] => true
  | [c] => !(erasedByte d c.1 == some c.2)
  | c :: e :: r => !(erasedByte d c.1 == some c.2) && decide (c.1 < e.1) && memWf d (e :: r)

end Sys2Proof.Machine
end

