-- ==== Sys2Proof/Machine/View.lean ====
section
/-!
DEFINITION. What each register reads as: the stored value, or the value the machine computes from its
state (STATUS, IRQ_STAT, PEND, LEVEL, queue levels, fuse rows). A read through these functions has no
effect; what a read changes is in `Access.lean`.
-/
set_option linter.unusedVariables false
namespace Sys2Proof.Machine

/-- A core issues an agent ID (R17): its own, once it is released. A core that is back in RESET keeps its ID,
and so its domain, for its next release, and issues none. -/
def State.coreIssues (s : State) (n a : Nat) : Bool := (s.core n).agent == some a && (s.core n).run != .reset

/-- Core n is released and its page is powered (R17). -/
def State.released (s : State) (n : Nat) : Bool :=
  (s.core n).agent.isSome && (s.core n).run != .reset && s.pageOn (.core n)

/-- Whether an agent ID is one that some agent now issues (R17, R18). -/
def State.issues (s : State) (a : Nat) : Bool :=
  if a = 0x12 then s.coreIssues 10 a
  else if !s.tamp.vin then false
  else if a < 0x10 then s.coreIssues (a % 8) a && s.pdOn (3 + a % 8)
  else if a = 0x10 then s.coreIssues 8 a
  else if a = 0x11 then s.coreIssues 9 a
  else classOf a != .none

/-- SW of a core (R45). -/
def swOf (c : CoreSt) : Word :=
  wd (flagAt c.c 0 + flagAt c.v 1 + flagAt c.h 2 + flagAt c.la0 3 + flagAt c.la1 4 + flagAt c.esc 5 +
    at' c.hcnt 16)

/-- CORE.STATE (R75, R90, R465). -/
def coreState (c : CoreSt) : Word :=
  wd ((if c.dbgHalt then 2 else
    match c.run with
    | .reset => 0 | .run => 1 | .wait => 2 | .halted => 3) + flagAt c.escHalt 2)

/-- CORE.XSTATE (R78). -/
def coreXstate (c : CoreSt) : Word := wd (c.xdepth + at' c.iprio 8 + flagAt c.esc 16)

/-- The register of a halted core that CSEL names (R466). -/
def State.cdataView (s : State) : Word :=
  let c := s.core (fld (s.rg pDBG 0x310) 0 4)
  let r := fld (s.rg pDBG 0x310) 8 6
  if !c.dbgHalt then 0
  else if r = 0 then 0
  else if r < 32 then tget 0 c.g r
  else if r = 32 then c.pc
  else if r = 33 then swOf c
  else if r < 40 then [c.lstart0, c.lend0, c.lcount0, c.lstart1, c.lend1, c.lcount1].getD (r - 34) 0
  else if r < 48 then wd (tget {} c.segs (r - 40)).sel
  else 0

/-- GATEnn.INFLIGHT_OLD: accesses in flight under older epochs (R104). -/
def State.inflightOld (s : State) (g : Nat) : Nat :=
  (s.flights.filter fun f => f.gate == g && f.epoch != (s.rg (pGATE g) 0x100).toNat).length

/-- SYS.ROLE.ROLE. -/
def State.role (s : State) : Nat := fld (s.rg pSYS 0x108) 0 2

/-- The effective life-cycle state. -/
def State.lcState (s : State) : Nat := s.lc.state

/-- BKP.RESETS (R451). -/
def State.resets (s : State) : Nat := at' s.tamp.epochFuses 24 + s.tamp.resetsLow

/-- The read-out protection level in force: the row's or the life-cycle floor (R457). -/
def State.rdpLevel (s : State) : Nat :=
  let floor := [0, 0, 1, 0, 2].getD s.lcState 2
  if s.flash.rdp < floor then floor else s.flash.rdp

/-- BTIME's oldest unlisted log entry is zero. -/
def State.logWord (s : State) (i : Nat) : Word :=
  ((tget [] s.tamp.log (fld (s.rg pBKP 0x114) 0 5)).getD i 0)

/-- Row A of a sector governs (R142): its STARTED word is PROGRAMMED, and row B's is not or has no higher number. -/
def firstGoverns (r : SectRow × SectRow) : Bool :=
  r.1.started == 0 && (r.2.started != 0 || decide (r.1.seq > r.2.seq))

/-- The state of a sector: 0 DONE, 1 INTERRUPTED, 2 ERASING, 3 NEW (R142). -/
def FlashSt.governing (f : FlashSt) (sec : Nat) : SectRow :=
  let r := tget ({}, {}) f.rows sec
  if firstGoverns r then r.1 else r.2

/-- The sector an erase runs or is suspended on in a bank. -/
def FlashSt.erasing (f : FlashSt) (bank : Nat) : Option Nat := (f.chans.getD bank {}).erase

def FlashSt.sectState (f : FlashSt) (sec : Nat) : Nat :=
  let r := f.governing sec
  if f.erasing (sec / 256) == some sec then 2
  else if r.started ≠ 0 then 3 else if r.done = 0 then 0 else 1

/-- A word of FLASH.INT_SECTORS (R143). -/
def FlashSt.intWord (f : FlashSt) (w : Nat) : Word :=
  wd ((f.intSectors.filter (· / 32 == w)).foldl (fun n x => n + 2 ^ (x % 32)) 0)

/-- Whether a channel runs a command (R141). -/
def FlashChan.busy (c : FlashChan) : Bool :=
  c.lowers || c.prog.isSome || (c.erase.isSome && !c.suspended) || (c.erase.isSome && c.suspended && c.auto) ||
    c.check.isSome

/-- SUSP and BUSY of CHc_RESULT. -/
def FlashChan.resultBits (c : FlashChan) : Nat :=
  flagAt (c.erase.isSome && c.suspended) 29 + flagAt c.busy 30

/-- FLASH.STATUS bits 8 and up (chapter "Flash array and controller"). -/
def FlashSt.statusBits (f : FlashSt) : Nat :=
  let c0 := f.chans.getD 0 {}
  let c1 := f.chans.getD 1 {}
  flagAt c0.busy 9 + flagAt c1.busy 10 + flagAt c0.suspended 11 + flagAt c1.suspended 12 +
  flagAt (c0.unlock == 2) 13 + flagAt (c1.unlock == 2) 14 + flagAt (f.intSectors != []) 15 +
  at' (if c0.unlock == 2 then c0.owner else 0) 16 + at' (if c1.unlock == 2 then c1.owner else 0) 24

/-- A bank's domain (R111). -/
def bankDomain (b : Nat) : Nat := 24 + b

/-- SRAM.STATUS.KEYED: every powered bank re-keyed (R114). -/
def State.sramKeyed (s : State) : Bool :=
  s.sram.rekeyUsed && !s.sram.walking &&
    (List.range 8).all fun b => !s.pdOn (bankDomain b) || (s.sram.banks.getD b 0) == 3

/-- SRAM.BANK_STATE. -/
def State.bankState (s : State) : Word :=
  wd ((List.range 8).foldl (fun n b => n + at' (s.sram.banks.getD b 0) (2 * b)) 0)

/-- PWR.ON as one number: the switched domains and the island domains as the islands report (R514). -/
def State.onBits (s : State) : Nat :=
  s.pwr.on % 2 ^ 52 + flagAt (s.legal.mstate != 0 && s.legal.mstate != 2) 52 + at' (s.pwr.on / 2 ^ 53) 53

/-- PWR.RAILS. -/
def State.railsWord (s : State) : Word :=
  wd ((List.range 6).foldl (fun n k => n + at' (s.pwr.rails.getD k 0) (2 * k)) 0)
/-! ### Crypto blocks -/

/-- An instance of the RNG. -/
def State.rngInst (s : State) (n : Nat) : RngInst := tget {} s.rng.insts n

/-- The instance number of an agent at the software port, 86 for an agent that has none (R155, R162). -/
def rngPort (a : Nat) : Nat :=
  if a ≤ 0x07 then 10 + a
  else if a ≤ 0x0F then 10 + (a - 8)
  else if a = 0x10 then 18
  else if a = 0x11 then 19
  else if 0x40 ≤ a && a ≤ 0x7F then 20 + (a - 0x40)
  else if a = 0x80 then 84
  else if a = 0x90 then 85
  else 86

/-- RNG.STATUS bits 8 and up, for a reading agent (R164). -/
def State.rngStatus (s : State) (a : Nat) : Nat :=
  flagAt s.rng.fault 8 + flagAt ((s.rngInst (rngPort a)).block != []) 9 + flagAt s.rng.lowpwr 10 +
    flagAt (s.rng.srcs.any fun x => x.startup) 11

/-- RNG.SRC_STAT. -/
def State.srcStat (s : State) : Nat :=
  (List.range 8).foldl (fun n i =>
    let x := s.rng.srcs.getD i {}
    n + flagAt x.rct i + flagAt x.apt (8 + i) + flagAt x.run (16 + i)) 0

/-- A key slot; none while it is empty. -/
def State.slot (s : State) (n : Nat) : Option KeySlot := tfind s.key.slots n

/-- Arena granules of a slot (R168). -/
def slotGranules (n : Nat) (k : KeySlot) : Nat := if n < 32 then 0 else (k.len + 63) / 64

/-- Granules of the arena in use, those of zeroized slots among them until they are overwritten (R187). -/
def State.granulesUsed (s : State) : Nat := s.key.slots.foldl (fun n e => n + slotGranules e.1 e.2) s.key.scrub

/-- KEY.FREE. -/
def State.keyFree (s : State) : Nat :=
  (984 - (s.key.slots.filter fun e => 32 ≤ e.1 && e.1 ≤ 1015).length) + at' (1792 - s.granulesUsed) 16

/-- The attribute word of a slot. -/
def KeySlot.attr (k : KeySlot) : Nat := k.typ + at' k.usage 8 + at' k.inst 17 + 0x80000000

/-- A Press or digest unit; unit 4 + n is DIGESTn. -/
def State.unit (s : State) (u : Nat) : UnitSt := tget {} s.units u

/-- The bin a descriptor of either family names, with BINV (R193, R215). -/
def descBin (d : List Byte) : Option Nat := if (byteAt d 2).getLsbD 5 then some (leAt d 8 2) else none

/-- Segments of a context of a unit are prepared or queued (R201): a queued descriptor counts once the unit has fetched
it (notes/assumptions/29.md). -/
def UnitSt.ctxBusy (u : UnitSt) (k : Nat) : Bool :=
  (u.segs.any fun g => g.ctx == some k) ||
    (let b := (tget ({} : Ctx) u.ctxs k).bin
     b.isSome && u.queue.any fun q => match q.desc with | some d => descBin d == b | none => false)

/-- CTX_STAT. -/
def UnitSt.ctxStat (u : UnitSt) : Nat :=
  let jobs := u.ctxs.filter fun e => !e.2.poisoned
  jobs.length + at' (jobs.filter fun e => u.ctxBusy e.1).length 8 +
    at' (u.ctxs.filter fun e => e.2.poisoned).length 16

/-- A Stave. -/
def State.stave (s : State) (n : Nat) : StaveSt := tget {} s.staves n

/-- A word of HMAP or TMAP. -/
def granuleWord (gs : List Nat) (w : Nat) : Nat :=
  (List.range 32).foldl (fun n i => n + flagAt (gs.contains (32 * w + i)) i) 0

/-- STAVEn registers that the unit computes. -/
def StaveSt.view (t : StaveSt) (off : Nat) : Option Nat :=
  if off = 0x100 then some (match t.claim with | some a => 1 + at' a 8 | none => 0)
  else if off = 0x118 then
    some (t.queue.length + (match t.list with | some (_, n) => at' n 16 + 0x80000000 | none => 0))
  else if off = 0x130 then
    some (match t.bind with | some (sl, p, _) => sl + at' p 16 + 0x80000000 | none => 0)
  else if 0x140 ≤ off && off ≤ 0x1BC then some (granuleWord t.hidden ((off - 0x140) / 4))
  else if 0x1C0 ≤ off && off ≤ 0x23C then some (granuleWord t.taint ((off - 0x1C0) / 4))
  else none

def StaveSt.statusBits (t : StaveSt) : Nat :=
  flagAt t.claim.isSome 8 + flagAt t.error 9 + flagAt t.rngf 10 + flagAt t.marked 12

/-- A bin. -/
def State.binRec (s : State) (b : Nat) : BinRec := tget {} s.bin.bins b

/-- No DRAM is installed (R16), which is so per board: DDR.SIZE reads 0, in whatever role, and so also until the
installed DRAM has been trained (DESIGN CHOICE: no rule says how the device knows; notes/assumptions/75.md). -/
def State.dramless (s : State) : Bool := (s.rg pDDR 0x108) == 0

/-- BIN.CFG.COUNT as the store reads it (R252). -/
def State.binCount (s : State) : Nat := if s.dramless then 1 else max 1 (fld (s.rg pBIN 0x100) 0 9)

/-- BIN.HOT. -/
def State.binHot (s : State) : Nat :=
  let hot := s.bin.bins.filter fun e => e.2.st == .hot
  hot.length + at' (hot.filter fun e => e.2.pins != 0).length 16

def BinState.code : BinState → Nat
  | .free => 0 | .hot => 1 | .cold => 2 | .lost => 3

/-- A request waits under R262 or R263 with no frame to take. -/
def State.allPinned (s : State) : Bool :=
  (s.bin.waits.any fun w => w.framed) || (s.bin.waits != [] &&
    256 ≤ (s.bin.bins.filter fun e => e.2.st == .hot).length &&
    !(s.bin.bins.any fun e => e.2.st == .hot && e.2.pins == 0 && !e.2.stuck))

/-! ### Readers -/

def State.rdr (s : State) (n : Nat) : RdrSt := tget {} s.rdrs n

/-- The 28 bytes of a singulation entry (R284). -/
def RdrEntry.bytes (e : RdrEntry) : List Byte :=
  if e.st = 0 then List.replicate 28 0
  else
    [BitVec.ofNat 8 e.st, BitVec.ofNat 8 e.proto, BitVec.ofNat 8 e.uid.length,
      BitVec.ofNat 8 (flagAt e.random 0 + flagAt e.dep 1 + flagAt e.cidu 2 + flagAt e.pquiet 3)] ++
    fitTo 10 e.uid ++ fitTo 7 e.info ++
    [BitVec.ofNat 8 e.rate, BitVec.ofNat 8 e.fsci, BitVec.ofNat 8 e.cid] ++ leBytes 2 e.round ++
    [BitVec.ofNat 8 e.tries, 0]

/-- FP_MAP (R275). -/
def State.fpMap (s : State) : Nat :=
  (List.range 8).foldl (fun n k =>
    n + flagAt (s.rdr k).hold k + flagAt (s.rdrWaits.contains k) (8 + k)) 0

/-- STATUS of a reader page, bits 8 and up. -/
def State.rdrStatus (s : State) (n : Nat) : Nat :=
  let r := s.rdr n
  at' (if r.ramp.isSome then 3 else r.level) 8 + flagAt (s.rdrWaits.contains n) 10 + flagAt r.guard 11 +
    flagAt r.detect 12 + flagAt r.ant 13 + flagAt (6 ≤ n) 15

/-- Registers of a reader page that the channel computes. -/
def State.rdrView (s : State) (n off : Nat) : Option Nat :=
  let r := s.rdr n
  if 0x134 ≤ off && off ≤ 0x14C then
    some (leAt (tget {} r.entries (fld (s.rg (pRDR n) 0x130) 0 6)).bytes (off - 0x134) 4)
  else if off = 0x150 then
    some (r.entries.foldl (fun x e => x + flagAt (e.1 < 32 && e.2.st != 0) e.1) 0)
  else if off = 0x154 then
    some (r.entries.foldl (fun x e => x + flagAt (32 ≤ e.1 && e.2.st != 0) (e.1 - 32)) 0)
  else if off = 0x158 then some s.fpMap
  else none

/-! ### Tag island -/

/-- The fixed identifier (R297). -/
def tagFixed : List Byte :=
  (List.range 5).map Config.tagOtp ++ [Config.tagOtp 5 &&& 0x3F, Config.tagOtp 6, 0xE0]

/-- The random identifier is presented (R302). -/
def TagSt.random (t : TagSt) : Bool :=
  t.conf.testBit 0 && t.seed.isSome && t.rid.isSome && t.count != 0xFFFFFFFF

/-- The identifier now presented. -/
def TagSt.ident (t : TagSt) : List Byte := if t.random then t.rid.getD tagFixed else tagFixed

/-- One of the wired sources supplies the island (R296). -/
def State.tagWired (s : State) : Bool := s.tamp.vin

/-- Four-bit counters of PW1–PW7. -/
def pwNibbles (l : List Nat) : Nat := (List.range 8).foldl (fun n i => n + at' (l.getD i 0) (4 * i)) 0

def State.tagView (s : State) (off : Nat) : Option Nat :=
  let t := s.tag
  if off = 0x110 then some (t.conf + flagAt (t.count == 0xFFFFFFFF) 3)
  else if off = 0x114 then some (leAt tagFixed 0 4)
  else if off = 0x118 then some (leAt tagFixed 4 4)
  else if off = 0x11C then some (leAt t.ident 0 4)
  else if off = 0x120 then some (leAt t.ident 4 4)
  else if off = 0x124 then some (pwNibbles t.cnts)
  else if off = 0x128 then some (pwNibbles t.lims)
  else if off = 0x12C then some t.pwlock
  else none

def State.tagStatus (s : State) : Nat :=
  let t := s.tag
  flagAt t.field 8 + flagAt (t.cycle.any fun c => c.wire.isNone) 9 + flagAt t.hold 10 +
    flagAt t.killed 11 + flagAt t.seed.isSome 12 + flagAt t.random 13 + flagAt t.quietCap 14 +
    flagAt s.tagWired 15


/-! ### Card slots -/

def State.card (s : State) (n : Nat) : CardSt := tget {} s.cards n

/-- STATUS of a contact slot, bits 8 and up. -/
def State.cardStatus (s : State) (n : Nat) : Nat :=
  flagAt ((s.card n).st != 0) 8 + at' (s.card n).st 9

def State.sdcStatus (s : State) : Nat :=
  flagAt s.sdc.present 8 + flagAt s.sdc.wp 9 + at' s.sdc.st 10 + flagAt (tfind s.jrnl.opens 4).isSome 13

/-- RESULT.BUSY and SENT of the SD slot while a command runs. -/
def SdSt.resultWord (c : SdSt) (v : Word) : Word :=
  match c.run with
  | some r => if r.auto then v else wd (at' r.cmd 8 + flagAt (2 ≤ r.stage) 16 + 0x40000000)
  | none => v

/-- RESULT of a contact slot. -/
def CardSt.resultWord (c : CardSt) (v : Word) : Word :=
  match c.run with
  | some r => wd (at' r.cmd 8 + flagAt (r.left == 2) 16 + 0x40000000)
  | none => v

/-- The word state of the code word at a flash address. -/
def State.wsAt (s : State) (addr : Nat) : Nat := tget 3 s.flash.ws ((addr - 0x10000000) / 16)

/-- First address of a flash sector. -/
def sectorBase (sec : Nat) : Nat := 0x10000000 + sec * 0x4000

/-- Bytes of flash as the journal's own port reads them. -/
def State.flashBytes (s : State) (addr n : Nat) : List Byte :=
  (List.range n).map fun i => memByte s.ddr s.mem (addr + i)

/-- The sequence of a journal sector that has a valid header (R325, R331). -/
def State.sectorHeader (s : State) (sec : Nat) : Option Nat :=
  let h := s.flashBytes (sectorBase sec) 16
  if s.flash.sectState sec = 0 && s.wsAt (sectorBase sec) = 0 && h.take 3 == [0x4A, 0x53, 0x01] then
    some (leAt h 4 8)
  else none

/-- JRNL registers that the scan and the records give. -/
def State.jrnlView (s : State) (off : Nat) : Option Nat :=
  if off = 0x100 then some ((List.range 5).foldl (fun n k => n + flagAt (tfind s.jrnl.opens k).isSome k) 0)
  else if 0x108 ≤ off && off ≤ 0x134 then
    some (match tfind s.jrnl.opens (fld (s.rg pJRNL 0x104) 0 3) with
      | some a => leNat (s.flashBytes (a + (off - 0x108)) 4)
      | none => 0)
  else if off = 0x140 then some s.jrnl.seq
  else if off = 0x144 then some (s.jrnl.seq / 2 ^ 32)
  else if off = 0x148 then
    some (((List.range 16).filter fun i => (s.sectorHeader (496 + i)).isNone).length +
      at' (if s.jrnl.cur.isSome then (0x4000 - s.jrnl.pos) % 0x4000 else 0) 16)
  else none

/-! ### Legal island -/

/-- A valid LC value; any other reads as SCRAPPED (R335). -/
def State.islandLc (s : State) : Nat := if s.lcState ≤ 4 then s.lcState else 4

/-- MB_RESULT while a request is posted or taken. -/
def LegalSt.mbWord (l : LegalSt) (v : Word) : Word :=
  if l.mb = 1 then wd (at' l.mbAgent 8 + 0x20000000)
  else if l.mb = 2 then wd (at' l.mbAgent 8 + 0x40000000)
  else v

/-- STATUS of page 0x80, bits 8 and up. -/
def LegalSt.statusBits (l : LegalSt) : Nat :=
  flagAt l.sealOn 8 + flagAt l.key.isSome 9 + flagAt (4032 ≤ l.bookNo) 10

/-- A word of an accumulator (R349): low then high of each. -/
def LegalSt.energyWord (l : LegalSt) (i : Nat) : Nat :=
  (l.energy.getD (i / 2) (0, 0)).1 / 2 ^ (32 * (i % 2))

/-- Page 0x80's computed registers. -/
def LegalSt.view (l : LegalSt) (off : Nat) : Option Nat :=
  if off = 0x100 then some l.swid
  else if off = 0x104 then some l.csum
  else if off = 0x108 then some l.pcsum
  else if off = 0x10C then some l.audit
  else if off = 0x110 then some l.mstate
  else if off = 0x114 then some l.recno
  else if off = 0x118 then some l.bookNo
  else if off = 0x11C then some l.time
  else if off = 0x120 then some (l.time / 2 ^ 32)
  else if off = 0x124 then some l.bookOvf
  else none

/-! ### Stream port -/

/-- Flows of an instance: configured, or on their way out (R388, R396). -/
def StrmSt.used (t : StrmSt) (nn : Nat) : Nat :=
  (t.flows.filter fun e => e.2.inst == nn).length + (t.removing.filter fun e => e.2.2.inst == nn).length

/-- STRM registers the port computes. -/
def StrmSt.view (t : StrmSt) (off : Nat) : Option Nat :=
  if off = 0x100 then some (if t.up then 0x11F else 0)
  else if off = 0x11C then some (min 0xFFFF t.credits + at' (min 0xFFFF t.owed) 16)
  else if off = 0x120 then some t.flows.length
  else if 0x300 ≤ off && off ≤ 0x3FC then some (t.used ((off - 0x300) / 4))
  else none

/-! ### Host interface -/

def State.inst (s : State) (nn : Nat) : InstSt := tget {} s.host.insts nn

/-- The instance a descriptor names. -/
def DmaRun.inst (d : DmaRun) : Nat := if d.desc = [] then 0x7F else leAt d.desc 2 1

/-- A host read of the descriptor is outstanding. -/
def DmaRun.reads (d : DmaRun) : Bool := leAt d.desc 0 1 == 0

/-- INFLIGHT of an instance (R381). -/
def State.inflight (s : State) (nn : Nat) : Nat :=
  (s.flights.filter fun f => f.agent == 0x40 + nn).length +
    at' (s.host.running.filter fun d => d.inst == nn && d.reads).length 16

/-- HOST registers the block computes. -/
def State.hostView (s : State) (off : Nat) : Option Nat :=
  if off = 0x100 then some (match s.host.link with | some (sp, w) => sp + at' w 4 + 0x10000 | none => 0)
  else if off = 0x11C then
    some (s.host.queue.length + at' (s.host.running.filter fun d => !d.squashed).length 16)
  else if 0x140 ≤ off && off ≤ 0x15C then
    some ((List.range 8).foldl (fun n k => n + at' (s.inst (8 * ((off - 0x140) / 4) + k)).st (4 * k)) 0)
  else none

/-- STATUS of an instance page, bits 8 and up. -/
def InstSt.statusBits (i : InstSt) : Nat := at' i.st 8 + flagAt (i.st != 3 && i.st != 4) 11

/-! ### Vine -/

def State.vport (s : State) (n : Nat) : VPort := tget {} s.vine.ports n

/-- The buffer of a class at a receiving port, in credits (R403). -/
def vineBuffer (c : Nat) : Nat := [0, 16, 32, 48].getD c 0

/-- VINEn registers the block computes: STATE, CRED and the neighbour's serial. -/
def State.vportView (s : State) (n off : Nat) : Option Nat :=
  let p := s.vport n
  if off = 0x108 then some (p.state + at' (p.nid % 1024) 16 + flagAt p.nmember 31)
  else if off = 0x110 then
    some (if s.rbit (pVPORT n) 0x104 3 then
      (List.range 3).foldl (fun m i => m + at' (vineBuffer (i + 1) - tget 0 p.spent (i + 1)) (8 * i)) 0
    else 0)
  else if off = 0x124 then some (p.nserial % 2 ^ 32)
  else if off = 0x128 then some (p.nserial / 2 ^ 32 % 2 ^ 32)
  else none

/-- The depth at which a join that took these hops puts the newcomer. -/
def VJoin.depth (j : VJoin) : Nat := j.hops + 1

/-- VINE registers the block computes: MEMBERS and the oldest queued join. -/
def State.vineView (s : State) (off : Nat) : Option Nat :=
  if off = 0x10C then some (if s.rbit pVINE 0x100 17 then s.vine.members.length else 0)
  else if off = 0x114 then some s.vine.joins.length
  else
    match s.vine.joins with
    | [] => if off = 0x118 || off = 0x11C || off = 0x120 then some 0 else none
    | j :: _ =>
      if off = 0x118 then some (j.serial % 2 ^ 32)
      else if off = 0x11C then some (j.serial / 2 ^ 32 % 2 ^ 32)
      else if off = 0x120 then some (j.pref % 0x10000 + at' (j.depth % 8) 16 + at' j.port 20)
      else none

/-! ### Twin -/

/-- The last SEQ written into the journal: changes that wait for the ring have theirs still to come. -/
def State.seqWritten (s : State) : Nat :=
  match s.changes with
  | [] => s.twinSeq
  | c :: _ => c.seq - 1

/-- TWIN registers the block computes. -/
def State.twinView (s : State) (off : Nat) : Option Nat :=
  let t := s.twin
  if off = 0x104 then some (t.state + at' (t.peer % 8) 8)
  else if off = 0x120 then some (s.seqWritten % 2 ^ 32)
  else if off = 0x124 then some (s.seqWritten / 2 ^ 32)
  else if off = 0x128 then some (t.ack % 2 ^ 32)
  else if off = 0x12C then some (t.ack / 2 ^ 32)
  else if off = 0x130 then some (min 0x1FFF (s.seqWritten - t.ack))
  else if off = 0x134 then some (min 255 t.miss)
  else none

/-- IRQ_RAW bits of a page that drive a second line and not the page source (R34, R39). The LINK bit of VINEn,
which drives sources 290–295, is bit 0 (PRESUMED: no table of the spec numbers it; notes/assumptions/75.md). -/
def secondLine : PageKind → Word
  | .press _ | .digest _ | .stave _ | .rdr _ | .bin => 2
  | .card _ | .sdc => 6
  | .time => 0xFFFF
  | .snap | .pwr => 1
  | .lcore | .afe | .lrtc | .stavel => 0xFFFFFFFF
  | .vport _ => 1
  | _ => 0

/-- IRQ_STAT of a page: IRQ_RAW and IRQ_EN (R29); a page whose domain is off asserts nothing. -/
def State.irqStat (s : State) (pg : Nat) : Word :=
  match pageKind pg with
  | some kd => if s.pageUp kd then s.rg pg 0x20 &&& s.rg pg 0x24 else 0
  | none => 0

/-- Bit `i` of IRQ_STAT of a page. -/
def State.irqLine (s : State) (pg i : Nat) : Bool := bitAt (s.irqStat pg) i

/-- The level of a GPIO source: the pin's, while the page is powered and its bank sensed inside a window (R34,
R478). The registers that configure the sources stand in no chapter, and the pin's level is taken directly (DESIGN
CHOICE; notes/assumptions/75.md). -/
def State.gpioLevel (s : State) (k : Nat) : Bool :=
  s.pageUp .gpio && s.gpio.testBit k &&
    (let v := if k < 32 then nfld s.pwr.vio 0 2 else nfld s.pwr.vio 8 2
     v == 1 || v == 2)

/-- The current level of an interrupt source (R34, R36). -/
def State.srcLevel (s : State) (n : Nat) : Bool :=
  if n < 32 then bitAt (s.rg pIRQ 0x680) n
  else if n < 96 then s.gpioLevel (n - 32)
  else if n < 268 then
    match sourcePage n with
    | some pg =>
      (match pageKind pg with
       | some kd => (s.irqStat pg &&& ~~~ secondLine kd) != 0
       | none => false)
    | none => false
  else if n < 272 then s.irqLine (pPRESS (n - 268)) 1
  else if n < 278 then s.irqLine (pDIGEST (n - 272)) 1
  else if n < 282 then s.irqLine (pSTAVE (n - 278)) 1
  else if n < 290 then s.irqLine (pRDR (n - 282)) 1
  else if n < 296 then s.irqLine (pVPORT (n - 290)) 0
  else if n < 300 then s.irqLine (pCARD (n - 296)) 1 || s.irqLine (pCARD (n - 296)) 2
  else if n = 300 then s.irqLine pSDC 1 || s.irqLine pSDC 2
  else if n < 317 then s.irqLine pTIME (n - 301)
  else if n = 317 then s.irqLine pSNAP 0
  else if n = 318 then s.irqLine pPWR 0
  else if n = 319 then s.irqLine pBIN 1
  else false

/-- The ROUTE registers that have been written: source and value. -/
def State.routes (s : State) : List (Nat × Word) :=
  (s.regs.filter fun e => rkey pIRQ 0x100 ≤ e.1 && e.1 ≤ rkey pIRQ 0x5FC).map fun e =>
    ((e.1 - rkey pIRQ 0x100) / 4, e.2)

/-- The better of two presented sources: higher PRIO, then the lower number (R36). -/
def betterSrc (a b : Option (Nat × Nat)) : Option (Nat × Nat) :=
  match a, b with
  | none, x => x
  | x, none => x
  | some (p, n), some (q, m) => if q > p || (q == p && m < n) then some (q, m) else some (p, n)

/-- The source presented to a target, with its priority (R36). -/
def State.presented (s : State) (t : Nat) : Option (Nat × Nat) :=
  s.routes.foldl (fun best e =>
    if bitAt e.2 t && fld e.2 16 4 != 0 && s.srcLevel e.1 then betterSrc best (some (fld e.2 16 4, e.1))
    else best) none

/-- IRQ.PENDt. -/
def State.pendWord (s : State) (t : Nat) : Word :=
  match s.presented t with
  | some (p, n) => wd (n + at' p 16 + 0x80000000)
  | none => 0

/-- IRQ.LEVELw. -/
def State.levelWord (s : State) (w : Nat) : Word :=
  wd ((List.range 32).foldl (fun n i => n + flagAt (s.srcLevel (32 * w + i)) i) 0)

/-- STATUS.READY of a page (R511). -/
def State.ready (s : State) (kd : PageKind) : Bool :=
  match kd with
  | .flash => s.flash.scanned
  | .rng => s.rng.ready
  | .key => s.key.classReady
  | .bin => s.bin.ready
  | .stave n => (s.stave n).ready && !(s.stave n).srst
  | .press n => !(s.unit n).resetting
  | .digest n => !(s.unit (4 + n)).resetting
  | .jrnl => s.jrnl.ready
  | .inst n => (s.inst n).st == 2
  | _ => true

/-- STATUS.BUSY of a page. -/
def State.busy (s : State) (kd : PageKind) : Bool :=
  match kd with
  | .flash => (s.flash.chans.getD 0 {}).busy || (s.flash.chans.getD 1 {}).busy
  | .ddr => s.ddr.mode == 1
  | .mseal => s.mseal.initBusy
  | .pwr => s.pwr.switching.isSome || s.pwr.dramBusy
  | .key => s.key.run.isSome
  | .press n => (s.unit n).segs != [] || (s.unit n).queue != [] || (s.unit n).resetting
  | .digest n => (s.unit (4 + n)).segs != [] || (s.unit (4 + n)).queue != [] || (s.unit (4 + n)).resetting
  | .stave n => (s.stave n).clearing || (s.stave n).queue != []
  | .stavel => (s.stave 4).clearing || (s.stave 4).queue != []
  | .bin => s.bin.clearing || s.bin.waits != []
  | .rdr n => (s.rdr n).run.isSome
  | .tag => s.tag.waits != [] || (s.tag.cycle.any fun c => c.wire.isSome)
  | .card n => (s.card n).run.isSome
  | .sdc => s.sdc.run.isSome
  | .legal => s.legal.mb == 2
  | .inst n => (s.inst n).st == 3 || (s.inst n).st == 4
  | .host => s.host.med.isSome
  | _ => false

/-- STATUS[31:8] of a page. -/
def State.statusHigh (s : State) (a : Nat) (kd : PageKind) (pg : Nat) : Nat :=
  match kd with
  | .snap => flagAt s.snapArmed 8
  | .gate g => flagAt (s.inflightOld g == 0) 8
  | .clk => at' s.pwr.pllLocked 8 + at' s.pwr.refOk 13 + flagAt s.pwr.coreSwitching 16
  | .pwr => flagAt (s.pwr.rails.getD 5 0 == 2) 8 + flagAt s.pwr.dramUp 9 + flagAt s.pwr.dramBusy 10
  | .sram => flagAt s.sramKeyed 8
  | .ddr => at' s.ddr.mode 8 + flagAt s.ddr.keyed 10
  | .mseal => flagAt s.mseal.winReady 8 + flagAt s.mseal.broken 9 + flagAt s.mseal.initBusy 10
  | .flash => s.flash.statusBits
  | .tamp => flagAt s.tamp.halted 8 + flagAt s.tamp.zeroizing 9
  | .bkp => flagAt s.tamp.lockdown 8 + flagAt s.tamp.lost 9 + flagAt s.tamp.vbatOk 10 +
      flagAt s.tamp.resetsEnd 11
  | .rng => s.rngStatus a
  | .key => flagAt s.key.classReady 8 + flagAt s.key.root.isSome 9 + flagAt s.tamp.zeroizing 10
  | .press n => flagAt (n == 0) 8 + flagAt (2 ≤ n) 9
  | .digest n => flagAt (4 ≤ n) 8
  | .stave n => (s.stave n).statusBits
  | .stavel => (s.stave 4).statusBits
  | .bin => flagAt s.allPinned 8 + flagAt s.bin.noSpill 9 + flagAt s.dramless 10
  | .rdr n => s.rdrStatus n
  | .tag => s.tagStatus
  | .card n => s.cardStatus n
  | .sdc => s.sdcStatus
  | .legal => s.legal.statusBits
  | .strm => flagAt s.strm.up 8 + flagAt s.strm.stall 9
  | .inst n => (s.inst n).statusBits
  | .vine => flagAt (s.rbit pVINE 0x100 16) 8
  | .time => flagAt s.time.run 8 + flagAt s.time.locked 9 + flagAt s.time.holdover 10
  | _ => 0

/-- STATUS of a page (R27, R511). -/
def State.statusWord (s : State) (a : Nat) (kd : PageKind) (pg : Nat) : Word :=
  wd (b01 (s.ready kd) + flagAt (s.busy kd) 1 + flagAt (s.rg pg 0x1C != 0) 2 + s.statusHigh a kd pg)

/-- A block-specific register whose value the machine computes. `a` is the reading agent. -/
def State.derived (s : State) (a : Nat) (kd : PageKind) (pg off : Nat) : Option Word :=
  match kd with
  | .irq =>
    if 0x600 ≤ off && off ≤ 0x624 then some (s.pendWord ((off - 0x600) / 4))
    else if 0x700 ≤ off && off ≤ 0x724 then some (s.levelWord ((off - 0x700) / 4))
    else none
  | .core n =>
    if off = 0x110 then some (coreState (s.core n))
    else if off = 0x130 then some (coreXstate (s.core n)) else none
  | .lcore =>
    if off = 0x110 then some (coreState (s.core 10))
    else if off = 0x130 then some (coreXstate (s.core 10)) else none
  | .gate g => if off = 0x10C then some (wd (s.inflightOld g)) else none
  | .pwr =>
    if off = 0x100 then some (wd s.onBits)
    else if off = 0x104 then some (wd (s.onBits / 2 ^ 32))
    else if off = 0x110 then some s.railsWord
    else if off = 0x118 then some (wd s.pwr.vio) else none
  | .sram => if off = 0x100 then some s.bankState else none
  | .flash =>
    if 0x1C0 ≤ off && off ≤ 0x1FC then some (s.flash.intWord ((off - 0x1C0) / 4))
    else if off = 0x204 then
      (let sec := (s.rg pFLASH 0x200).toNat
       some (wd (s.flash.sectState sec + at' (s.flash.governing sec).erases 8)))
    else if off = 0x218 then some (wd s.rdpLevel)
    else if off = 0x11C then some (s.rg pFLASH 0x11C ||| wd (s.flash.chans.getD 0 {}).resultBits)
    else if off = 0x15C then some (s.rg pFLASH 0x15C ||| wd (s.flash.chans.getD 1 {}).resultBits)
    else if off = 0x120 then some (wd (min 0xFFFFFFFF ((s.flash.chans.getD 0 {}).age / 1000)))
    else if off = 0x160 then some (wd (min 0xFFFFFFFF ((s.flash.chans.getD 1 {}).age / 1000)))
    else none
  | .tamp =>
    if 0x100 ≤ off && off ≤ 0x17C then
      some (s.rg pTAMP off ||| wd (at' (tampFloor ((off - 0x100) / 4)) 8))
    else if off = 0x1B0 then some (wd s.tamp.fuseCfg) else none
  | .bkp =>
    if off = 0x108 then some (wd s.resets)
    else if off = 0x10C then some (wd s.tamp.btime)
    else if off = 0x110 then some (wd (nfld s.tamp.btime 32 16))
    else if 0x11C ≤ off && off ≤ 0x128 then some (s.logWord ((off - 0x11C) / 4))
    else none
  | .lc =>
    if off = 0x100 then
      some (wd (s.lc.state + flagAt s.lc.partialGrp 8 + flagAt s.lc.invalid 9 + flagAt s.lc.dualFail 10))
    else if off = 0x110 then some (wd (s.lc.groups.getD 0 0 + at' (s.lc.groups.getD 1 0) 16))
    else if off = 0x114 then some (wd (s.lc.groups.getD 2 0 + at' (s.lc.groups.getD 3 0) 16))
    else if off = 0x118 then some (wd s.lc.pkRevoke) else none
  | .dbg =>
    if off = 0x208 then some (wd s.lc.grant)
    else if off = 0x314 then some (s.cdataView)
    else if 0x320 ≤ off && off ≤ 0x32C then
      some ((s.core (fld (s.rg pDBG 0x310) 0 4)).bps.getD ((off - 0x320) / 4) 0)
    else if off = 0x304 then
      some (wd ((List.range 10).foldl (fun n t => n + flagAt (s.core t).dbgHalt t) 0))
    else none
  | .wdog => if off = 0x108 then some (wd s.rst.wdogCount) else none
  | .rng =>
    if off = 0x110 then some (wd s.rng.seeds.length)
    else if off = 0x114 then some (wd s.srcStat) else none
  | .key =>
    let q := s.slot (fld (s.rg pKEY 0x128) 0 10)
    if off = 0x12C then some (wd (match q with | some k => k.attr | none => at' 0x7F 17))
    else if off = 0x130 then some (wd (match q with | some k => k.owner | none => 0))
    else if off = 0x134 then
      some (wd (match q with
        | some k => k.len + at' (slotGranules (fld (s.rg pKEY 0x128) 0 10) k) 16
        | none => 0))
    else if off = 0x138 then some (wd s.keyFree)
    else none
  | .press n =>
    if off = 0x10C then some (wd (s.unit n).queue.length)
    else if off = 0x110 then some (wd (s.unit n).ctxStat) else none
  | .digest n =>
    if off = 0x10C then some (wd (s.unit (4 + n)).queue.length)
    else if off = 0x110 then some (wd (s.unit (4 + n)).ctxStat) else none
  | .stave n => ((s.stave n).view off).map wd
  | .stavel => ((s.stave 4).view off).map wd
  | .bin =>
    if off = 0x12C then
      (let b := s.binRec (fld (s.rg pBIN 0x128) 0 16)
       some (if b.st == .free then 0 else wd (b.st.code + at' b.inst 8 + at' b.pins 16)))
    else if off = 0x130 then some (wd s.binHot)
    else if off = 0x148 then some (wd s.bin.spillSeq)
    else if off = 0x14C then some (wd (s.bin.spillSeq / 2 ^ 32))
    else if 0x300 ≤ off && off ≤ 0x3FC then some (wd (tget 0 s.bin.used ((off - 0x300) / 4)))
    else none
  | .rdr n => (s.rdrView n off).map wd
  | .tag => (s.tagView off).map wd
  | .card n =>
    if off = 0x118 then some ((s.card n).resultWord (s.rg pg off))
    else if (off = 0x114 || 0x800 ≤ off) && (s.card n).run.isSome then some 0
    else none
  | .sdc => if off = 0x11C then some (s.sdc.resultWord (s.rg pg off)) else none
  | .jrnl => (s.jrnlView off).map wd
  | .legal =>
    if off = 0x134 then some (s.legal.mbWord (s.rg pg off)) else (s.legal.view off).map wd
  | .afe =>
    if 0x200 ≤ off && off ≤ 0x22C then some (wd (s.legal.energyWord ((off - 0x200) / 4))) else none
  | .lrtc =>
    if off = 0x100 then some (wd s.legal.time)
    else if off = 0x104 then some (wd (s.legal.time / 2 ^ 32))
    else if off = 0x11C then some (wd (flagAt s.legal.timeUnset 0 + (s.rg pg off &&& 2).toNat))
    else none
  | .strm => (s.strm.view off).map wd
  | .host => if off = 0x828 && s.host.med.isSome
      then some (wd (at' ((s.host.med.map (·.cmd)).getD 0) 8 + 0x40000000))
      else (s.hostView off).map wd
  | .inst n => if off = 0x110 then some (wd (s.inflight n)) else none
  | .vine => (s.vineView off).map wd
  | .vport n => (s.vportView n off).map wd
  | .time => if off = 0x100 then some (wd s.now)
      else if off = 0x104 then some (s.arg a pTIME 0x104) else none
  | .twin => (s.twinView off).map wd
  | _ => none

/-- A block-specific register as an agent reads it, without effect (R3, R4, R7). -/
def State.blockView (s : State) (a : Nat) (kd : PageKind) (pg off : Nat) : Word :=
  match findRow kd off with
  | none => 0
  | some r =>
    match s.derived a kd pg off with
    | some v => v
    | none =>
      match r.acc with
      | .wo => 0
      | .rwpN => ~~~ (s.rg pg (off - 4))
      | _ => if r.perAgent then s.arg a pg off else s.rg pg off

/-- A register of a page as an agent reads it, without effect. -/
def State.regView (s : State) (a pg off : Nat) : Word :=
  match pageKind pg with
  | none => 0
  | some kd =>
    if off = 0x00 then pageId kd
    else if off = 0x04 then 0x01000000
    else if off = 0x08 then caps0 kd
    else if off = 0x0C then caps1 kd
    else if off = 0x10 then
      (match kd with
       | .inst n => wd (b01 ((s.inst n).st == 2))
       | _ => s.rg pg 0x10)
    else if off = 0x14 then (if ctrlPaired kd then ~~~ (s.rg pg 0x10) else 0)
    else if off = 0x18 then s.statusWord a kd pg
    else if off = 0x1C then s.rg pg 0x1C
    else if off = 0x20 then s.rg pg 0x20
    else if off = 0x24 then s.rg pg 0x24
    else if off = 0x28 then s.rg pg 0x20 &&& s.rg pg 0x24
    else if off = 0x30 then s.rg pg 0x30
    else if off = 0x34 then s.rg pg 0x34
    else if off < 0x100 then 0
    else if off < 0xE00 then s.blockView a kd pg off
    else if off < 0xF00 then tget 0 s.snaps (rkey pg off)
    else 0

end Sys2Proof.Machine
end

