-- ==== Sys2Proof/Machine/Ops.lean ====
section
/-!
DEFINITION. The operations every block shares: snapshot triggers and the latch (R37–R40), the alarm
dispatch with its responses (R436–R449), zeroization (R444), and the error reports of a register page.
-/
namespace Sys2Proof.Machine

/-- A trigger of SNAP.CAUSE bit `i` is seen (R39): alarm and escalation always, the others while enabled
and armed; one that falls while disarmed is counted. -/
def State.snapTrigger (s : State) (i : Nat) : State :=
  if i = 2 || i = 3 then { s with snapPend := s.snapPend ||| 2 ^ i }
  else if !(s.rbit pSNAP 0x104 i) then s
  else if s.snapArmed then { s with snapPend := s.snapPend ||| 2 ^ i }
  else s.cnt pSNAP 0x118

/-- The copies a latch makes of one page (R37): STATUS, ERR, IRQ_RAW, the listed registers, SNAP_SEQ. Of a register
that each agent has its own copy of, such as TAG.RESULT, MCORE's copy is taken, and STATUS as MCORE reads it (DESIGN
CHOICE: no rule says whose; notes/assumptions/75.md). -/
def State.snapCopies (s : State) (pg : Nat) (seq : Word) : List (Nat × Word) :=
  match pageKind pg with
  | none => []
  | some kd =>
    [(0xE00, s.regView aMCORE pg 0x18), (0xE04, s.regView aMCORE pg 0x1C),
      (0xE08, s.regView aMCORE pg 0x20)] ++
    ((snapRegs kd).mapIdx fun i off => (0xE0C + 4 * i, s.regView aMCORE pg off)) ++
    [(0xEFC, seq)]

/-- What a block master does, held while HALT is in force (R443; notes/assumptions/17.md). -/
def State.unlessHalted (s : State) (f : State → State) : State := if s.tamp.halted then s else f s

/-- SNAP.PAGE_EN names a page (R38). -/
def State.snapEnabled (s : State) (pg : Nat) : Bool :=
  s.rbit pSNAP (0x140 + 4 * (pg / 32)) (pg % 32) && !(0x81 ≤ pg && pg ≤ 0x84)

/-- A page that is powered (R25). -/
def State.pagePowered (s : State) (pg : Nat) : Bool :=
  match pageKind pg with
  | some kd => s.pageOn kd
  | none => false

/-- A page whose domain has its supply (R38, R488). -/
def State.pageSupplied (s : State) (pg : Nat) : Bool :=
  match pageKind pg with
  | some kd => s.pageUp kd
  | none => false

/-- The latch edge (R38, R39): every enabled and powered page copies its registers as they stood, the
enabled pages that are off are marked skipped, and SNAP's own registers follow. -/
def State.latch (s : State) : State :=
  if s.snapPend = 0 then s
  else
    let seq := s.rg pSNAP 0x108 + 1
    let on := allPages.filter fun p => s.snapEnabled p
    let copies := (on.filter fun p => s.pageSupplied p).flatMap fun p =>
      (s.snapCopies p seq).map fun c => (rkey p c.1, c.2)
    let skipped := on.filter fun p => !s.pageSupplied p
    let s1 := { s with snaps := copies.foldl (fun t c => tset t c.1 c.2) s.snaps,
                       snapPend := 0,
                       snapArmed := s.snapArmed && !(s.rbit pSNAP 0x104 8) }
    let s2 := (List.range 10).foldl (fun (t : State) w =>
      t.setRg pSNAP (0x180 + 4 * w)
        (wd ((skipped.filter (· / 32 == w)).foldl (fun n p => n + 2 ^ (p % 32)) 0))) s1
    let s3 := (((s2.setRg pSNAP 0x108 seq).setRg pSNAP 0x10C (wd s.snapPend)).setRg pSNAP 0x110
      (wd s.now)).setRg pSNAP 0x114 (wd (s.now / 2 ^ 32))
    s3.irq pSNAP 0

/-- The effective response of an alarm source: RESPs, never below the floor (R436). -/
def State.respOf (s : State) (src : Nat) : Nat :=
  max (fld (s.rg pTAMP (0x100 + 4 * src)) 0 3) (tampFloor src)

/-- The response that governs on VBAT (R446): the copies in BKP.VSHADOW. -/
def State.vbatResp (s : State) (src : Nat) : Nat :=
  let v := s.rg pBKP 0x12C
  if src = 0 then fld v 0 3 else if src = 1 then fld v 4 3
  else if 9 ≤ src && src ≤ 13 then fld v (8 + 4 * (src - 9)) 3 else 0

/-- The sources of a mask. -/
def srcsOf (m : Nat) : List Nat := (List.range 32).filter fun i => m.testBit i

/-- One entry of the alarm log (R449). -/
def State.logAlarm (s : State) (src resp : Nat) (defer vbat : Bool) (snapSeq : Word) : State :=
  let head := fld (s.rg pBKP 0x118) 0 5
  let w0 := wd (src + at' resp 8 + flagAt defer 12 + flagAt vbat 13 + at' (s.tamp.logSeq % 0x10000) 16)
  let e := [w0, wd s.tamp.btime, wd (nfld s.tamp.btime 32 16), snapSeq]
  let s1 := { s with tamp := { s.tamp with log := tset s.tamp.log head e,
                                           logSeq := (s.tamp.logSeq + 1) % 0x10000 } }
  s1.setRg pBKP 0x118 (wd ((head + 1) % 32 + flagAt (s.rbit pBKP 0x118 8 || head == 31) 8))

/-- The ALARM exception becomes pending at a running core (R76, R442). -/
def State.alarmCore (s : State) (n : Nat) : State :=
  let c := s.core n
  if c.run = .run || c.run = .wait then s.setCore n { c with pendAlarm := true } else s

/-- IRQ: the cores named in TAMP.ALARM_CORES (R442). -/
def State.alarmCores (s : State) : State :=
  (List.range 10).foldl (fun (t : State) n => if s.rbit pTAMP 0x180 n then t.alarmCore n else t) s

def State.setStave (s : State) (n : Nat) (t : StaveSt) : State := { s with staves := tset s.staves n t }

def State.modStave (s : State) (n : Nat) (f : StaveSt → StaveSt) : State := s.setStave n (f (s.stave n))

/-- A Stave's command completes: DONE_SEQ, MARK and CMD_CNT (R237). -/
def State.staveDone (s : State) (n : Nat) (ran : Bool) : State :=
  let pg := pSTAVE n
  let s1 := s.modRg pg 0x120 fun v => v + 1
  let s2 := if s1.rg pg 0x120 = s1.rg pg 0x124 then s1.irq pg 0 else s1
  if ran then s2.cnt pg 0x138 else s2

/-- Clearing of a claim starts (R245): queued commands are discarded, and complete as such (R237), an active list stops.
`running` that the command at the front of the queue runs: it runs to its end, and so does a RAND at its wire. -/
def State.staveStartClear (s : State) (n : Nat) (ending running : Bool) : State :=
  let t := s.stave n
  if t.claim.isNone then s
  else
    let keep := b01 (running || t.randing)
    (t.queue.drop keep).foldl (fun (u : State) _ => u.staveDone n false)
      (s.setStave n { t with clearing := true, ending := t.ending || ending, queue := t.queue.take keep, list := none })

/-- The Stave claims of an agent end as its core returns to RESET or HALTED (R235). -/
def State.endClaims (s : State) (a : Nat) : State :=
  (List.range 5).foldl (fun (t : State) n =>
    if (t.stave n).claim = some a then t.staveStartClear n true false else t) s

/-- A core halts (R90, R443). -/
def State.haltCore (s : State) (n : Nat) : State :=
  let c := s.core n
  let s1 := s.setCore n { c with run := .halted }
  match c.agent with
  | some a => s1.endClaims a
  | none => s1

/-- HALT (R443): CORE0–7 and KCORE halt, and the block masters stop issuing. -/
def State.tampHalt (s : State) : State :=
  let s1 := (List.range 9).foldl (fun (t : State) n =>
    if (t.core n).run = .run || (t.core n).run = .wait then t.haltCore n else t) s
  { s1 with tamp := { s1.tamp with halted := true } }

/-- The battery key RAM and the backup mask are cleared (R448): the battery slots are empty. -/
def State.clearBattery (s : State) : State :=
  { s with tamp := { s.tamp with batRam := [], batMask := List.replicate 32 0 },
           key := { s.key with slots := s.key.slots.filter fun e => decide (32 ≤ e.1) } }

/-- One alarm notice to the legal island (R334). -/
def State.alarmNotice (s : State) (n : Nat) : State := { s with notices := s.notices ++ [n % 16] }

/-- What zeroization overwrites (R422, R444): the battery key RAM, every key slot, the hot-bin frames, the
operand RAMs and accumulators of STAVE0–3, every Press and digest context on chip, the pair key. The class slots
are no longer filled, so CLASS_READY falls (R175) and the next start is promoted (R475). -/
def State.zeroizeAll (s : State) : State :=
  let s1 := s.clearBattery
  let mem1 := memClear s1.mem 0x23000000 0x40000
  let staves1 := tmap s1.staves fun n t =>
    if n = 4 then t
    else { t with acc := 0, accTaint := false, hidden := [], taint := [], written := [], bind := none }
  let units1 := tmap s1.units fun _ u =>
    { u with ctxs := [], running := none, wants := [], segs := u.segs.filter fun g => g.own.isNone }
  let bins1 := tmap s1.bin.bins fun _ r =>
    if r.st == .hot then { r with vis := List.replicate 160 0, press := none, digest := none } else r
  { s1 with mem := mem1, staves := staves1, units := units1,
            key := { s1.key with slots := [], run := none, scrub := 0, classReady := false },
            bin := { s1.bin with bins := bins1 },
            twin := { s1.twin with key := [], pairing := none } }

/-- Zeroization (R444): ZEROIZING stands until ZEROIZATION_DONE. -/
def State.zeroize (s : State) : State :=
  let s1 := s.zeroizeAll
  { s1 with tamp := { s1.tamp with zeroizing := true } }

/-- A response is carried out, if it is more severe than the one under way (R441, R442): each includes
the less severe ones; a response is never lowered. -/
def State.respond (s : State) (r : Nat) : State :=
  if r = 0 then s
  else if r = 1 then (if s.tamp.resp = 0 then s.alarmCores else s)
  else if r ≤ s.tamp.resp then s
  else
    let s0 := s.alarmCore 9
    let s1 := { s0 with tamp := { s0.tamp with resp := r } }
    let s2 := if s.tamp.resp < 2 then s1.tampHalt else s1
    let s3 := if r ≥ 3 then { s2 with rst := { s2.rst with asked := s2.rst.asked ||| 2 ^ 9 } } else s2
    let s4 := if r ≥ 4 && s.tamp.resp < 4 then s3.zeroize else s3
    if r ≥ 5 then { s4 with tamp := { s4.tamp with lockdown := true } } else s4

/-- TWIN.STATE is ACTIVE (R423). -/
def State.twinActive (s : State) : Bool := s.twin.state == 2

/-- A response is carried out, or waits for the RELINQUISH heartbeat of an ACTIVE twin (R429, R442). -/
def State.respondOrWait (s : State) (r : Nat) : State :=
  if s.twinActive && r ≥ 2 then { s with tamp := { s.tamp with twinWait := max s.tamp.twinWait r } }
  else s.respond r

/-- A dispatch on VBAT (R446): flags and entries are written; ZEROIZE and LOCKDOWN clear the battery
key RAM; what is not carried out is recorded as deferred. -/
def State.dispatchVbat (s : State) (srcs r : Nat) : State :=
  let s1 := s.modRg pBKP 0x100 fun v => v ||| wd srcs
  let s2 := { s1 with tamp := { s1.tamp with flagSeen := s1.tamp.flagSeen &&& (0xFFFFFFFF ^^^ srcs) } }
  let s3 := (srcsOf srcs).foldl (fun (t : State) i => t.logAlarm i r (1 ≤ r && r ≤ 4) true 0) s2
  let s4 := if r ≥ 4 then s3.clearBattery else s3
  let s5 := if r ≥ 5 then { s4 with tamp := { s4.tamp with lockdown := true } } else s4
  if r ≥ 1 && r ≤ 4 then
    s5.modRg pBKP 0x104 fun v => wd (0x80000000 + max (fld v 0 3) r)
  else s5

/-- A dispatch over sources raised on one edge with the largest of their responses (R441, R442). -/
def State.dispatch (s : State) (srcs r : Nat) : State :=
  let s1 := s.modRg pBKP 0x100 fun v => v ||| wd srcs
  let s2 := { s1 with tamp := { s1.tamp with
    flagSeen := s1.tamp.flagSeen &&& (0xFFFFFFFF ^^^ srcs), first := some (srcs, r) } }
  let s3 := s2.snapTrigger 2
  let final := max r s.tamp.resp
  let s4 := (srcsOf srcs).foldl (fun (t : State) i =>
    t.logAlarm i final false false (s.rg pSNAP 0x108 + 1)) s3
  let s5 := ((s4.setRg pTAMP 0x188 (wd srcs)).setRg pTAMP 0x18C (wd r)).irq pTAMP 0
  (s5.alarmNotice (r + flagAt (srcs % 0x10000 != 0) 3)).respondOrWait r

/-- Alarm sources are raised on one edge (R437, R441). `least` is the least response that the event
carries (R90: RESET for a halt of MCORE). -/
def State.alarm (s : State) (srcs : Nat) (least : Nat := 0) : State :=
  if srcs = 0 then s
  else
    let r := (srcsOf srcs).foldl (fun m i => max m (if s.tamp.vin then s.respOf i else s.vbatResp i)) least
    if s.tamp.vin then s.dispatch srcs r else s.dispatchVbat srcs r

/-- The PROTOCOL alarm: the LOG alarms of R6, R14 and R138 (R436). -/
def State.logProtocol (s : State) : State := s.alarm (2 ^ 28)

/-- A disagreement of a dual decision (R440): DUAL_INFO records WHICH and DUAL is raised. -/
def State.dualAlarm (s : State) (which : Nat) : State :=
  (s.modRg pTAMP 0x1AC fun v => if bitAt v 31 then setBitW v 30 else wd (which + 0x80000000)).alarm (2 ^ 26)

/-- A paired write that fails on a page (R6): ERR.PAIR and the LOG alarm. -/
def State.pairFail (s : State) (pg : Nat) : State := (s.err pg 0).logProtocol

/-- A reset is requested with a CAUSE bit (R469); bit 16 is an escalation reset. -/
def State.askReset (s : State) (bit : Nat) : State :=
  { s with rst := { s.rst with asked := s.rst.asked ||| 2 ^ bit } }

end Sys2Proof.Machine
end

