-- ==== Sys2Proof/Machine/Gate.lean ====
section
/-!
DEFINITION. The range check of R22 and R25, the gate's judgement (R93–R99) with the protections of R97,
and the record of a refusal (R98).
-/
namespace Sys2Proof.Machine

/-- The SRAM bank of an address (R111). -/
def sramBankOf (a : Nat) : Option Nat :=
  match regionOf a with
  | some (.coreSram n) => some (n / 2)
  | some .shared => some (4 + (a - 0x22000000) / 0x80000)
  | some .keySram | some .monSram => some 6
  | _ => none

/-- A bank is powered and written throughout under a key (R112). -/
def State.bankUsable (s : State) (b : Nat) : Bool := s.pdOn (bankDomain b) && 2 ≤ s.sram.banks.getD b 0

/-- First address of DRAM and the installed size in bytes (R122). -/
def dramBase : Nat := 0x100000000

def State.dramBytes (s : State) : Nat := (s.rg pDDR 0x108).toNat % 0x4000 * 0x100000

/-- The window's size in bytes by WIN_SIZE, and the metadata reserve in MiB (R126). -/
def winBytes (code : Nat) : Nat := [0, 64, 128, 256, 512, 1024].getD code 0 * 0x100000

def reserveMiB (code : Nat) : Nat := [0, 10, 19, 37, 74, 147].getD code 0

/-- First address of the protected window. -/
def State.winBase (s : State) : Nat := dramBase + (s.rg pMSEAL 0x100).toNat % 128 * 0x4000000

def State.winSize (s : State) : Nat := winBytes (fld (s.rg pMSEAL 0x104) 0 3)

/-- Whether some byte of an access lies in a range of addresses. -/
def touches (addr size lo n : Nat) : Bool := addr < lo + n && lo < addr + size

/-- An access touches the protected window (R126). -/
def State.inWindow (s : State) (addr size : Nat) : Bool := touches addr size s.winBase s.winSize

/-- The metadata reserve at the top of installed DRAM (R126, R127). -/
def State.reserveLo (s : State) : Nat :=
  dramBase + s.dramBytes - reserveMiB (fld (s.rg pMSEAL 0x104) 0 3) * 0x100000

def State.inReserve (s : State) (addr size : Nat) : Bool :=
  (s.mseal.winReady || s.mseal.initBusy || s.mseal.broken) &&
    touches addr size s.reserveLo (dramBase + s.dramBytes - s.reserveLo)

/-- DRAM serves an access (R122, R123, R129, R133). -/
def State.dramReachable (s : State) (addr size : Nat) : Bool :=
  s.ddr.keyed && s.ddr.mode == 2 && decide (addr + size ≤ dramBase + s.dramBytes) &&
    (!s.inWindow addr size || (s.mseal.winReady && !s.mseal.broken))

/-- A device ID that the Vine window takes: the device is a member and the ID is not its own (R23, R412).
An ID the tree does not hold is found by its packet (NO_ROUTE). -/
def State.vinePresent (s : State) (d : Nat) : Bool :=
  s.rbit pVINE 0x100 16 && d != fld (s.rg pVINE 0x100) 0 10

/-- Whether two regions are one range of R22: pages share theirs by table. -/
def sameRange : Region → Region → Bool
  | .page p, .page q => (p < 0x100) == (q < 0x100)
  | .vine _, .vine _ => true
  | r, q => r == q

/-- The range check of R22 and R25, made before the gate. -/
def State.rangeOk (s : State) (addr size : Nat) (k : AccKind) : Bool :=
  match regionOf addr, regionOf (addr + size - 1) with
  | some r, some q =>
    sameRange r q &&
    (match r with
     | .rom | .flash _ | .info => k != .write
     | .coreSram _ | .shared | .keySram | .monSram =>
       (match sramBankOf addr, sramBankOf (addr + size - 1) with
        | some b, some c => s.bankUsable b && s.bankUsable c
        | _, _ => false)
     | .stave n => s.pdOn (17 + n)
     | .page pg => s.pagePowered pg
     | .vine d => s.vinePresent d
     | .dram => s.dramReachable addr size)
  | _, _ => false

/-- A gate's verdict: admitted with attributes, by a rule or by the default map, or refused with a
reason of FAULT_INFO (R95, R98). -/
inductive Verdict where
  | letPass (cache order : Nat) (byDefault : Bool)
  | refuse (reason : Nat)
  deriving DecidableEq, Repr

/-- What GRANT covers at a gate (R459, R460). -/
def State.grantCovers (s : State) (addr : Nat) : Bool :=
  let g := s.lc.grant
  let sec := g.testBit 3
  let keyCore (n : Nat) : Bool := s.rbit pSYS 0x100 31 && s.rbit pSYS 0x100 n
  match gateOf addr with
  | none => false
  | some n =>
    if n ≤ 3 then g.testBit 2
    else if n = 22 then false
    else if !g.testBit 1 then (n == 20 && pageOfAddr addr == some pTRACE && g.testBit 4)
    else if n ≤ 11 then !keyCore (n - 4) || sec
    else if n = 14 || n = 15 then sec
    else
      match pageOfAddr addr with
      | some pg =>
        if pg = 0x18 || pg = 0x19 || pg = 0x49 || (0x90 ≤ pg && pg ≤ 0x92) then sec
        else if 0x10 ≤ pg && pg ≤ 0x17 then !keyCore (pg - 0x10) || sec
        else true
      | none => true

/-- Granules of a unit that an access touches. -/
def ramGranules (addr size : Nat) : List Nat :=
  let o := addr % 0x10000
  (List.range ((o + size - 1) / 64 - o / 64 + 1)).map fun i => o / 64 + i

/-- Refused with HARD (R239). -/
def State.staveRefuses (s : State) (a n addr size : Nat) : Bool :=
  let t := s.stave n
  (t.claim.isSome && t.claim != some a) ||
    (ramGranules addr size).any fun g => t.hidden.contains g || t.taint.contains g

/-- The debug agent reads the banks and the information rows under the read-out protection (R148). -/
def State.readsOut (s : State) (a : Nat) (k : AccKind) : Bool :=
  a == aDEBUG && k != .write && (s.rdpLevel == 2 || (s.rdpLevel == 1 && !s.lc.grant.testBit 2))

/-- The protections ahead of all rules that refuse an access (R97, R26, R127, R135, R148, R368); under
lockdown the debug port reaches its authorisation exchange alone (R445). -/
def State.hardRefused (s : State) (a addr size : Nat) (k : AccKind) : Bool :=
  (a == aDEBUG && s.tamp.lockdown &&
    !(pageOfAddr addr == some pDBG && 0x100 ≤ addr % 0x1000 && addr % 0x1000 < 0x300)) ||
  match regionOf addr with
  | some (.page pg) =>
    (0x81 ≤ pg && pg ≤ 0x84 && a != aLCORE) ||
    (match instOf a with
     | some nn => 0x100 ≤ pg && (pg != 0x100 + nn || (s.inst nn).st < 2)
     | none => false) ||
    (pg == pDBG && a == aDEBUG && 0x300 ≤ addr % 0x1000 && !(s.lc.grant.testBit 0 || s.lc.grant.testBit 3))
  | some (.flash _) =>
    touches addr size 0x10380000 0x80000 ||
    (touches addr size 0x107C0000 0x40000 && a != aJRNL && a != aMCORE) || s.readsOut a k
  | some .info => s.readsOut a k
  | some .dram => s.inReserve addr size && a != aMSEAL
  | some (.stave n) => s.staveRefuses a n addr size
  | some .keySram => touches addr size 0x24020000 0x20000
  | _ => false

/-- The accesses admitted ahead of all rules (R97, R461). -/
def hardAdmitted (a addr : Nat) (k : AccKind) : Bool :=
  match regionOf addr with
  | some (.page pg) =>
    (a == aMCORE && 0x20 ≤ pg && pg ≤ 0x38 && k != .fetch) ||
    (a == aDEBUG && pg == pDBG && 0x100 ≤ addr % 0x1000 && k != .fetch)
  | some .monSram => a == aMCORE && k != .fetch
  | some .rom => a == aMCORE && k != .write
  | _ => false

/-- The default map (R99): the attributes with which it admits an access, if it does. -/
def defaultMap (a g addr : Nat) (k : AccKind) : Option (Nat × Nat) :=
  let c := classOf a
  let sysKeyd := c == .sys || c == .keyd
  let rx := k != .write
  let rw := k != .fetch
  if g = 0 || g = 1 || g = 2 then (if sysKeyd && rx then some (0, 0) else none)
  else if g = 3 then (if c == .sys && k == .read then some (2, 1) else none)
  else if g ≤ 12 then (if sysKeyd then some (0, 0) else none)
  else if g = 13 then (if sysKeyd && rw then some (2, 1) else none)
  else if g = 14 then (if a = aKCORE then some (2, 1) else none)
  else if g = 15 then (if a = aMCORE then some (2, 1) else none)
  else if g = 16 || g = 17 then
    (if (c == .sys && rw) || (c == .keyd && k == .read) then some (2, 2) else none)
  else if g = 18 || g = 19 || g = 21 then (if sysKeyd && rw then some (2, 2) else none)
  else if g = 20 then
    (let pg := (addr - 0x30000000) / 0x1000
     if (c == .sys && rw) || (c == .keyd && k == .read) ||
        (c == .legal && rw && 0x80 ≤ pg && pg ≤ 0x84) then some (2, 2) else none)
  else if g = 22 then (if c == .sys && rw then some (2, 2) else none)
  else if g = 23 then (if sysKeyd then some (0, 0) else none)
  else none

/-- An active rule of a gate (R94). -/
structure Rule where
  base : Nat
  limit : Nat
  w2 : Word
  deriving DecidableEq, Repr

/-- Rule `k` of a gate's staging (0x200) or active (0x400) set. -/
def State.rule (s : State) (g set k : Nat) : Rule :=
  { base := (s.rg (pGATE g) (set + 16 * k)).toNat * 0x100,
    limit := (s.rg (pGATE g) (set + 16 * k + 4)).toNat * 0x100 + 0xFF,
    w2 := s.rg (pGATE g) (set + 16 * k + 8) }

/-- A rule applies to an access of an agent that starts at an address (R95 step 2). -/
def Rule.applies (r : Rule) (a addr : Nat) : Bool :=
  bitAt r.w2 31 && r.base ≤ addr && addr ≤ r.limit && bitAt r.w2 (classBit (classOf a)) &&
    classOf a != .none && (!bitAt r.w2 24 || fld r.w2 16 8 == a)

/-- The lowest-numbered active rule that applies (R95 step 2); none while the gate's EN is 0. -/
def State.decidingRule (s : State) (g a addr : Nat) : Option Rule :=
  if s.en (pGATE g) then
    ((List.range 32).map fun k => s.rule g 0x400 k).find? fun r => r.applies a addr
  else none

/-- The gate's judgement (R95), after the range check. -/
def State.judge (s : State) (g a addr size : Nat) (k : AccKind) : Verdict :=
  if s.hardRefused a addr size k then .refuse 5
  else if hardAdmitted a addr k then
    (match defaultMap aMCORE g addr k with
     | some (c, o) => .letPass c o false
     | none => .letPass 2 2 false)
  else
    match s.decidingRule g a addr with
    | some r =>
      if !bitAt r.w2 (match k with | .read => 9 | .write => 10 | .fetch => 11) then .refuse 2
      else if addr + size - 1 > r.limit then .refuse 3
      else .letPass (fld r.w2 12 2) (fld r.w2 14 2) false
    | none =>
      if a = aDEBUG && s.grantCovers addr && k != .fetch then .letPass 2 2 false
      else
        match defaultMap a g addr k with
        | some (c, o) => .letPass c o true
        | none => .refuse 1

/-- A gate records a refusal (R98), judged under an epoch. -/
def State.gateRefuseAt (s : State) (g a reason addr : Nat) (k : AccKind) (epoch : Nat) : State :=
  let pg := pGATE g
  let s1 := s.cnt pg 0x11C
  let s2 :=
    if s.rbit pg 0x118 15 then s1.modRg pg 0x118 fun v => setBitW v 14
    else
      ((s1.setRg pg 0x110 (wd addr)).setRg pg 0x114 (wd (addr / 2 ^ 32))).setRg pg 0x118
        (wd (a % 256 + at' reason 8 + flagAt (k == .write) 12 + flagAt (k == .fetch) 13 + 0x8000 +
          at' epoch 16))
  s2.irq pg 0

/-- A gate records a refusal judged now. -/
def State.gateRefuse (s : State) (g a reason addr : Nat) (k : AccKind) : State :=
  s.gateRefuseAt g a reason addr k (fld (s.rg (pGATE g) 0x100) 0 16)

/-- An access in flight ends at its gate; SETTLED rises with the last older one (R104). -/
def State.dropFlight (s : State) (f : Flight) : State :=
  let s1 := { s with flights := s.flights.filter fun x => x.id != f.id }
  if s.inflightOld f.gate ≠ 0 && s1.inflightOld f.gate = 0 then s1.irq (pGATE f.gate) 1 else s1

/-- A detection of bad parity on the fabric (R107). -/
def State.parityMet (s : State) : State := (s.cnt pFAB 0x110).alarm (2 ^ 17)

/-- A request found with bad parity at its gate (R107). -/
def State.badRequest (s : State) (addr : Nat) (k : AccKind) : State :=
  (s.gateRefuse ((gateOf addr).getD 0) 0xFF 4 addr k).parityMet

/-- What an agent's access meets within a command: nothing where none is set for it. -/
def State.fateOf (s : State) (a addr size : Nat) : Fate :=
  (s.fates.find? fun f => f.agent == a && touches f.addr 1 addr size).getD { agent := a, addr := addr }

/-- An access in flight is answered: its agent's port, and the core whose instruction waits for it, take
the response. -/
def State.answer (s : State) (f : Flight) (r : Resp) : State :=
  let s1 := s.setPort f.agent r
  { s1 with cores := tmap s1.cores fun _ c =>
      if c.await == some f.id then { c with await := none, got := some r } else c }

/-- Flights that must be performed before an access of an agent (R106): its accesses to the same target that are ordered
or device, as issued or as delivered, and those to the same bytes. One that has timed out holds nothing back. -/
def State.behind (s : State) (a g addr size order before : Nat) : Bool :=
  s.flights.any fun e =>
    e.id < before && e.agent == a && !e.timedOut &&
      ((e.gate == g && max e.asked e.order != 0 && order != 0) || touches e.addr e.size addr size)

/-- A flight that waits for an earlier one of its agent. -/
def State.heldBack (s : State) (f : Flight) : Bool :=
  s.behind f.agent f.gate f.addr f.size (max f.asked f.order) f.id

/-- A block master whose write to a target was delivered as device and is not answered issues nothing more to it
(R100). -/
def State.blkWaits (s : State) (a g : Nat) : Bool :=
  classOf a == .blk && s.flights.any fun e =>
    e.agent == a && e.gate == g && e.write && e.order == 2 && !e.timedOut

/-- The ordering with which an agent issues its own accesses: block masters, and engines in the name of an agent, issue
them ordered (R100). -/
def issuedOrder (a : Nat) : Nat := if classOf a == .blk then 1 else 0

/-- A page of the island that LCORE reaches (R340). -/
def islandPage (addr : Nat) : Bool := 0x30080000 ≤ addr && addr ≤ 0x30084FFF

/-- Whether an access is judged twice (R105), and the WHICH of its dual decision (R440). -/
def judgedTwice (addr : Nat) : Option Nat :=
  match pageOfAddr addr with
  | some pg => if pg = 0x49 then some 3 else if 0x80 ≤ pg && pg ≤ 0x84 then some 4 else none
  | none => none

/-- The two verdicts disagree (R105): refused with TWICE under the epoch of the first, with the dual-decision alarm. -/
def State.refuseTwice (s : State) (g a addr : Nat) (k : AccKind) (epoch : Nat) : State :=
  ((s.gateRefuseAt g a 6 addr k epoch).irq (pGATE g) 2).dualAlarm ((judgedTwice addr).getD 0)

/-- An epoch's default-map admission is counted (DEFAULT_CNT). -/
def State.countDefault (s : State) (g : Nat) (byDefault : Bool) : State :=
  if byDefault then s.cnt (pGATE g) 0x120 else s

end Sys2Proof.Machine
end

