-- ==== Sys2Proof/Machine/StaveCmd.lean ====
section
/-!
DEFINITION. The words of a Stave command (R232) with its parameter set and constants (R229, R230), the granules of
operand RAM it names, and the accesses that wait for it (R239).
-/
namespace Sys2Proof.Machine

/-- First address and words of a unit's operand RAM (R228, R251, R340). -/
def staveBase (n : Nat) : Nat := if n = 4 then 0x26020000 else 0x23000000 + n * 0x10000

def staveWords (n : Nat) : Nat := if n = 4 then 1024 else 8192

/-- A command of R232, its fields taken apart. -/
structure StaveCmd where
  a : Nat
  ca : Bool
  b : Nat
  cb : Bool
  d : Nat
  op : Nat
  pset : Nat
  half : Bool
  sub : Bool
  clr : Bool
  x : Nat
  resv : Bool
  deriving DecidableEq, Repr

def staveCmd (lo hi : Word) : StaveCmd :=
  { a := fld lo 0 13, ca := bitAt lo 13, b := fld lo 16 13, cb := bitAt lo 29, d := fld hi 0 13,
    op := fld hi 16 4, pset := fld hi 20 4, half := bitAt hi 24, sub := bitAt hi 25, clr := bitAt hi 26,
    x := fld hi 27 5, resv := fld lo 14 2 != 0 || fld lo 30 2 != 0 || fld hi 13 3 != 0 }

/-- The full operand width of a parameter set (R229). -/
def psetWidth (p : Nat) : Option Nat :=
  match p with
  | 0x1 => some 256 | 0x2 => some 384 | 0x3 => some 576 | 0x4 => some 256 | 0x5 => some 256
  | 0x8 => some 2048 | 0x9 => some 3072 | 0xA => some 4096
  | _ => none

/-- Key types a parameter set pairs with (R229). -/
def psetTypes (p : Nat) : List Nat :=
  match p with
  | 0x1 => [0x10] | 0x2 => [0x11] | 0x3 => [0x12] | 0x4 => [0x13, 0x14] | 0x5 => [0x15]
  | 0x8 => [0x20] | 0x9 => [0x21] | 0xA => [0x22]
  | _ => []

/-- The operand width of a command; of an unlisted set there is none, and it is taken as 0. -/
def StaveCmd.w (c : StaveCmd) : Nat := let f := (psetWidth c.pset).getD 0; if c.half then f / 2 else f

def StaveCmd.words (c : StaveCmd) : Nat := c.w / 64

/-- Bits that LDACC and STACC move (R233). -/
def StaveCmd.lenBits (c : StaveCmd) : Nat :=
  if c.x % 4 = 0 then c.w else if c.x % 4 = 1 then c.w + 64 else 2 * c.w + 64

/-- Words of the release region (R242). -/
def StaveCmd.regionWords (c : StaveCmd) : Nat := if c.x % 4 = 1 then c.words else 2 * c.words

/-- BITSEL (R233). -/
def StaveCmd.bitsel (c : StaveCmd) : Bool := (c.op == 1 || c.op == 2) && c.d.testBit 12

def curveOf (pset : Nat) : Option Curve :=
  match pset with
  | 0x1 => some p256 | 0x2 => some p384 | 0x3 => some p521 | 0x5 => some bp256
  | _ => none

/-- A constant entry (R230); an unlisted set has none. -/
def staveConst (pset w k : Nat) : Option Nat :=
  let r := 2 ^ w
  let neg (m : Nat) : Nat := (r - invPow2 w m 10) % r
  let common (p n : Nat) : Option Nat :=
    match k with
    | 0 => some 1 | 1 => some p | 2 => some n | 7 => some (neg p) | 8 => some (neg n)
    | 9 => some (r * r % p) | 10 => some (r * r % n) | 11 => some (p - 2) | 12 => some (n - 2)
    | _ => none
  if (psetWidth pset).isNone then none
  else if 8 ≤ pset then (if k = 0 then some 1 else none)
  else if pset = 4 then
    match k with
    | 3 => some (121665 * r % p25519) | 4 => some (d25519 * r % p25519)
    | 5 => some (bx25519 * r % p25519) | 6 => some (by25519 * r % p25519)
    | 13 => some 9
    | _ => common p25519 l25519
  else
    match curveOf pset with
    | none => none
    | some c =>
      match k with
      | 3 => some (c.a * r % c.p) | 4 => some (c.b * r % c.p)
      | 5 => some (c.gx * r % c.p) | 6 => some (c.gy * r % c.p)
      | _ => common c.p c.n

/-- Granules that words `k` to `k + m - 1` lie in. -/
def granulesOf (k m : Nat) : List Nat :=
  if m = 0 then [] else (List.range ((k + m - 1) / 8 - k / 8 + 1)).map fun i => k / 8 + i

/-- Word ranges a command reads and writes: first word and number (R239, R241). A point of the constant ROM (R242, CB)
is none of them. -/
def StaveCmd.reads (c : StaveCmd) : List (Nat × Nat) :=
  match c.op with
  | 1 | 2 =>
    (if c.ca then [] else [(c.a, c.words)]) ++
    (if c.bitsel then [(c.b, 1)] else if c.cb then [] else [(c.b, c.words)])
  | 4 => [(c.d, c.lenBits / 64)]
  | 7 =>
    [(c.d, c.regionWords)] ++
    (if c.x % 4 = 1 || c.x % 4 = 2 then (if c.ca then [] else [(c.a, c.words)]) else []) ++
    (if c.x % 4 = 2 then (if c.cb then [] else [(c.b, c.words)])
     else if c.x % 4 = 3 && c.x.testBit 2 && !c.cb then [(c.b, 2 * c.words)] else [])
  | _ => []

def StaveCmd.writes (c : StaveCmd) : List (Nat × Nat) :=
  match c.op with
  | 5 => [(c.d, c.lenBits / 64)]
  | 6 => [(c.d, c.words)]
  | _ => []

def rangesGranules (rs : List (Nat × Nat)) : List Nat := rs.flatMap fun r => granulesOf r.1 r.2

/-- Every granule a command names. -/
def StaveCmd.granules (c : StaveCmd) : List Nat := rangesGranules (c.reads ++ c.writes)

/-- An admitted access waits while a queued or running command names one of its granules (R239). -/
def State.staveBlocks (s : State) (n addr size : Nat) : Bool :=
  let t := s.stave n
  (ramGranules addr size).any fun g => t.queue.any fun q => (staveCmd q.1 q.2).granules.contains g

end Sys2Proof.Machine
end

