-- ==== Sys2Proof/Machine/Mem.lean ====
section
/-!
DEFINITION. What the memory targets do with an admitted access: SRAM with its check bits (R116, R117),
flash words with their states (R136, R137, R144, R145), LPDDR4X (R122), and the protected window with
its counters and metadata cache (R128–R133); and the bus the engines use for memory.
-/
namespace Sys2Proof.Machine

/-- `n` bytes of memory as stored. -/
def State.peek (s : State) (addr n : Nat) : List Byte :=
  (List.range n).map fun i => memByte s.ddr s.mem (addr + i)

/-- Bytes stored in memory. -/
def State.poke (s : State) (addr : Nat) (bs : List Byte) : State := { s with mem := memPuts s.ddr s.mem addr bs }

/-- The word index of an SRAM address in its bank (ERR_INFO.WORD). -/
def sramWord (a : Nat) : Nat :=
  match regionOf a with
  | some (.coreSram n) => (n % 2 * 0x40000 + (a - 0x20000000) % 0x40000) / 8
  | some .shared => (a - 0x22000000) % 0x80000 / 8
  | some .keySram => (a - 0x24000000) / 8
  | some .monSram => 32768 + (a - 0x25000000) / 8
  | _ => 0

/-- SRAM words that an access covers only in part (R117). -/
def partWords (addr n : Nat) : List Nat :=
  (if addr % 8 = 0 then [] else [addr / 8 * 8]) ++ (if (addr + n) % 8 = 0 then [] else [(addr + n) / 8 * 8])

/-- The first SRAM word with an uncorrectable error that an access touches (R116). -/
def State.badWord (s : State) (addr n : Nat) : Option Nat := s.sram.bad.find? fun w => touches addr n w 8

/-- DEDUCED (13): an uncorrectable error stays in its word until a write replaces the word (R117). -/
def State.markBad (s : State) (addr : Nat) : State :=
  if s.sram.bad.contains (addr / 8 * 8) then s
  else { s with sram := { s.sram with bad := addr / 8 * 8 :: s.sram.bad } }

/-- Whole words written lose their errors (R117). -/
def State.clearBad (s : State) (addr n : Nat) : State :=
  if s.sram.bad.any fun w => addr ≤ w && w + 8 ≤ addr + n then
    { s with sram := { s.sram with bad := s.sram.bad.filter fun w => !(addr ≤ w && w + 8 ≤ addr + n) } }
  else s

/-- An SRAM error is counted and logged (R116, R118). -/
def State.sramError (s : State) (bank word : Nat) (ue scrub : Bool) : State :=
  let s1 := s.cnt pSRAM (if ue then 0x10C else 0x108)
  let s2 := s1.modRg pSRAM 0x110 fun v =>
    if bitAt v 31 then setBitW v 30
    else wd (word % 0x10000 + at' bank 16 + flagAt ue 24 + flagAt scrub 25 + 0x80000000)
  if ue then s2.alarm (2 ^ 18) else s2

/-- What an access answers: the state after, the bytes read, the fault, and the gate it passed. -/
structure MemAns where
  st : State
  data : List Byte := []
  fault : BusFault := .none
  gate : Nat := 0

/-- A data-error answer: zero with a fault (R116). -/
def dataError (s : State) (n : Nat) : MemAns := { st := s, data := List.replicate n 0, fault := .data }

/-! ### Flash -/

/-- The code words an access touches, by address / 16. -/
def codeWords (addr size : Nat) : List Nat :=
  (List.range ((addr + size - 1) / 16 - addr / 16 + 1)).map fun i => addr / 16 + i

/-- The index of a code word of the array (R136). -/
def arrayWord (w : Nat) : Nat := w - 0x1000000

/-- A code word lies in the information rows. -/
def infoWord (w : Nat) : Bool := 0x1080000 ≤ w

/-- A code word of the read-out protection row, which every read finds zero (R148). -/
def rdpWord (w : Nat) : Bool := 0x1080100 ≤ w && w < 0x1080104

/-- A flash read event is logged in ERR_INFO (R137). -/
def State.flashLog (s : State) (w : Nat) (ue : Bool) : State :=
  s.modRg pFLASH 0x210 fun v =>
    if bitAt v 31 then setBitW v 30
    else wd ((if infoWord w then w - 0x1080000 else arrayWord w) + flagAt (infoWord w) 20 + flagAt ue 24 + 0x80000000)

/-- A code word's read is flagged unreliable (R137). -/
def State.wordFlagged (s : State) (w : Nat) : Bool :=
  let ws := tget 3 s.flash.ws w
  let st := s.flash.sectState (w / 1024)
  ws == 1 || ws == 2 || st == 1 || st == 2

/-- A read that the flash array makes wait (R143, R145): the scan has not ended, a program runs in the
bank, or an erase is under its pulse there. -/
def State.flashWaits (s : State) (addr : Nat) : Bool :=
  match regionOf addr with
  | some (.flash _) =>
    let c := s.flash.chans.getD (if addr < 0x10400000 then 0 else 1) {}
    !s.flash.scanned || c.prog.isSome || (c.erase.isSome && !c.suspended)
  | some .info => !s.flash.scanned
  | _ => false

/-- A DRAM access waits while DPLL, once locked, is out of lock (R492). -/
def State.dramWaits (s : State) (addr : Nat) : Bool := regionOf addr == some .dram && s.pwr.pllLost.testBit 2

/-- A target that makes an access wait (R143, R145, R239, R492). -/
def State.targetWaits (s : State) (addr size : Nat) : Bool :=
  s.flashWaits addr || s.dramWaits addr ||
    (match regionOf addr with
     | some (.stave n) => s.staveBlocks n addr size
     | _ => false)

def FlashSt.chan (f : FlashSt) (c : Nat) : FlashChan := f.chans.getD c {}

def State.modFlash (s : State) (f : FlashSt → FlashSt) : State := { s with flash := f s.flash }

def State.modChan (s : State) (c : Nat) (f : FlashChan → FlashChan) : State :=
  s.modFlash fun x => { x with chans := x.chans.set c (f (x.chan c)) }

/-- A read that waits on an erase asks for an automatic suspend (R145). -/
def State.flashWant (s : State) (addr : Nat) : State :=
  match regionOf addr with
  | some (.flash _) =>
    let c := if addr < 0x10400000 then 0 else 1
    let ch := s.flash.chan c
    if ch.erase.isSome && !ch.suspended then s.modChan c fun x => { x with want := true } else s
  | _ => s

/-- DEDUCED (49): a code word that read with three or more errors keeps them until its sector is erased (R137). -/
def State.markFlash (s : State) (w : Nat) : State :=
  if s.flash.bad.contains w then s else { s with flash := { s.flash with bad := w :: s.flash.bad } }

/-- A code word whose check bits a read applies (R136, R148): one of the information rows but for the protection row,
or one of the array that is not ERASED. -/
def State.wordChecked (s : State) (w : Nat) : Bool :=
  if infoWord w then !rdpWord w else tget 3 s.flash.ws (arrayWord w) != 3

/-- The code word of an access in which an upset falls, if its check bits are applied. -/
def State.upsetWord (s : State) (addr n i : Nat) : Option Nat :=
  if i < (codeWords addr n).length && s.wordChecked (addr / 16 + i) then some (addr / 16 + i) else none

/-- A read of an uncorrectable code word (R137). -/
def State.flashUncorrectable (s : State) (w n : Nat) : MemAns :=
  dataError (((((s.cnt pFLASH 0x20C).flashLog w true).err pFLASH 18).irq pFLASH 2).alarm (2 ^ 19)) n

/-- The bytes of a flash access: those of a flagged word are free (notes/assumptions/31.md), those of the protection
row zero (R148). -/
def State.flashBytesAt (s : State) (addr n : Nat) : List Byte :=
  (List.range n).map fun i =>
    let w := (addr + i) / 16
    if rdpWord w then 0
    else if !infoWord w && s.wordFlagged (arrayWord w) then Config.freeByte s.free i
    else memByte s.ddr s.mem (addr + i)

/-- A read or fetch of the flash array or the information rows (R136, R137, R148). -/
def State.flashRead (s : State) (addr n : Nat) (fetch : Bool) (u : Upset) : MemAns :=
  let s0 := match u with
    | .uncorrectable i => (match s.upsetWord addr n i with | some w => s.markFlash w | none => s)
    | _ => s
  match s0.flash.bad.find? fun w => touches addr n (16 * w) 16 with
  | some w => s0.flashUncorrectable w n
  | none =>
    let s1 := match u with
      | .correctable i => if (s0.upsetWord addr n i).isSome then s0.cnt pFLASH 0x208 else s0
      | _ => s0
    match (codeWords addr n).find? fun w => !infoWord w && s1.wordFlagged (arrayWord w) with
    | none => { st := s1, data := s1.flashBytesAt addr n }
    | some w =>
      let s2 := (((s1.cnt pFLASH 0x214).err pFLASH 17).flashLog w false).irq pFLASH 3
      if fetch then dataError s2 n else { st := s2.draw, data := s2.flashBytesAt addr n }

/-! ### The memory seal -/

/-- Pages of the window, and the tree levels in DRAM (R126). -/
def State.sealPages (s : State) : Nat := s.winSize / 0x1000

def treeLevels (code : Nat) : Nat := if code ≤ 2 then 4 else 5

/-- Nodes of a tree level, level 1 lowest, for a number of pages. -/
def levelNodes (pages level : Nat) : Nat :=
  match level with
  | 0 => pages
  | k + 1 => (levelNodes pages k + 7) / 8

/-- First metadata address of a level: 0 the counter blocks, then the tree levels (R127). -/
def State.levelBase (s : State) (level : Nat) : Nat :=
  s.reserveLo + s.winSize / 8 +
    ((List.range level).foldl (fun n l => n + 64 * levelNodes s.sealPages l) 0)

/-- The metadata line of the MAC of a data line (R127). -/
def State.macLine (s : State) (line : Nat) : Nat := s.reserveLo + line / 8 * 64

/-- The metadata line of a counter block (level 0) or tree node. -/
def State.nodeLine (s : State) (level idx : Nat) : Nat := s.levelBase level + 64 * idx

/-- The levels of the tree in DRAM for the window's size. -/
def State.sealLevels (s : State) : Nat := treeLevels (fld (s.rg pMSEAL 0x104) 0 3)

/-- Which counter block or node a metadata line is, if it is one. -/
def State.lineNode (s : State) (m : Nat) : Option (Nat × Nat) :=
  if m < s.levelBase 0 then none
  else
    (List.range (s.sealLevels + 1)).findSome? fun l =>
      if s.levelBase l ≤ m && m < s.levelBase (l + 1) then some (l, (m - s.levelBase l) / 64) else none

/-- The key of the counter that a parent holds for a child node. -/
def nodeKey (level idx : Nat) : Nat := level * 0x100000 + idx

/-- A 56-bit counter in a parent is incremented (R128, R131). -/
def MsealSt.countNode (m : MsealSt) (level idx : Nat) : MsealSt :=
  { m with nodes := tset m.nodes (nodeKey level idx) ((tget 0 m.nodes (nodeKey level idx) + 1) % 2 ^ 56) }

/-- A metadata line held in the cache is marked dirty. -/
def MsealSt.dirty (m : MsealSt) (line : Nat) : MsealSt :=
  { m with cache := m.cache.map fun c => if c.1 == line then (line, true) else c }

/-- What a metadata line fetched from DRAM fails with (R133): kind and level. -/
def SealBad.fails (bad : Option SealBad) (node : Option (Nat × Nat)) : Option (Nat × Nat) :=
  match bad, node with
  | some .block, some (0, _) => some (2, 0)
  | some (.node l), some (k + 1, _) => if l.val = k + 1 then some (3, k + 1) else none
  | _, _ => none

/-- A metadata line is used (R130, R131). One held moves to the front: it has been verified. One that is not is
fetched, and a block or node is verified through its parents up to the first one held or the root. The least recently
used line past 2,048 leaves; a dirty block or node has its counter in its parent incremented as it is written back,
which uses the parent. The answer is the mismatch met, if any, by kind and level. -/
def State.useMeta (s : State) (m : Nat) (bad : Option SealBad) (fuel : Nat) : State × Option (Nat × Nat) :=
  match fuel with
  | 0 => (s, none)
  | k + 1 =>
    match s.mseal.cache.find? (fun c => c.1 == m) with
    | some c =>
      ({ s.cnt pMSEAL 0x11C with mseal := { s.mseal with
          cache := c :: s.mseal.cache.filter fun e => e.1 != m } }, none)
    | none =>
      let s1 := s.cnt pMSEAL 0x120
      let full := (m, false) :: s1.mseal.cache
      let s2 : State := { s1 with mseal := { s1.mseal with cache := full.take 2048 } }
      let s3 :=
        match full.drop 2048 with
        | (e, true) :: _ =>
          (match s2.lineNode e with
           | some (l, i) =>
             let t : State := { s2 with mseal := s2.mseal.countNode l i }
             if l = s2.sealLevels then t
             else
               let r := (t.useMeta (t.nodeLine (l + 1) (i / 8)) none k).1
               { r with mseal := r.mseal.dirty (r.nodeLine (l + 1) (i / 8)) }
           | none => s2)
        | _ => s2
      match s3.lineNode m with
      | some (l, i) =>
        let r := if l = s3.sealLevels then (s3, none) else s3.useMeta (s3.nodeLine (l + 1) (i / 8)) bad k
        (r.1, if r.2.isSome then r.2 else SealBad.fails bad (some (l, i)))
      | none => (s3, none)

/-- Enough uses of metadata lines for any chain of parents and write-backs. -/
abbrev metaFuel : Nat := 24

/-- An integrity failure (R133). -/
def State.sealFail (s : State) (agent line kind level : Nat) : State :=
  let addr := s.winBase + 64 * line
  let s1 :=
    if s.rbit pMSEAL 0x114 31 then s.modRg pMSEAL 0x114 fun v => setBitW v 30
    else
      ((s.setRg pMSEAL 0x10C (wd addr)).setRg pMSEAL 0x110 (wd (addr / 2 ^ 32))).setRg pMSEAL 0x114
        (wd (agent % 256 + at' kind 8 + at' level 12 + 0x80000000))
  ({ s1 with mseal := { s1.mseal with broken := true, cache := [] } }).alarm (2 ^ 20)

/-- The counter value of a line: major × 64 + minor (R128). -/
def MsealSt.lineCounter (m : MsealSt) (line : Nat) : Nat :=
  let b := tget {} m.blocks (line / 64)
  b.major * 64 + tget 0 b.minors (line % 64)

/-- The metadata of a window line are fetched and verified, then the line itself where its data are read (R130):
the state, and the mismatch met. `hit` says that the line's own data do not match. -/
def State.sealVerify (s : State) (line : Nat) (bad : Option SealBad) (hit : Bool) : State × Option (Nat × Nat) :=
  let s1 := (s.useMeta (s.macLine line) none metaFuel).1
  let r := s1.useMeta (s1.nodeLine 0 (line / 64)) bad metaFuel
  (r.1, if r.2.isSome then r.2 else if hit then some (1, 0) else none)

/-- Window lines read one after another; the first mismatch ends it (R130, R133). -/
def State.sealReads (s : State) (agent : Nat) (lines : List Nat) (bad : Option SealBad) (i : Nat) : State × Bool :=
  match lines with
  | [] => (s, true)
  | l :: r =>
    match s.sealVerify l bad (match bad with | some (.line j) => j.val == i | _ => false) with
    | (t, none) => t.sealReads agent r bad (i + 1)
    | (t, some (k, lv)) => (t.sealFail agent l k lv, false)

/-- The eight metadata lines with the MACs of a page, used and marked dirty as a reseal gives every line a new MAC. -/
def State.resealMacs (s : State) (page : Nat) : State :=
  (List.range 8).foldl (fun (t : State) i =>
    let m := t.macLine (64 * page + 8 * i)
    let r := (t.useMeta m none metaFuel).1
    { r with mseal := r.mseal.dirty m }) s

/-- The counter block of a page replaced and dirty. -/
def State.setBlock (s : State) (page : Nat) (b : CtrBlock) : State :=
  { s with mseal := { s.mseal with blocks := tset s.mseal.blocks page b }.dirty (s.nodeLine 0 page) }

/-- A window line, once its metadata are verified, takes a new counter and MAC: its minor counter is incremented
(R131), and a carry past 63 reseals the page, reading each of its lines (R132). The mismatch met, or kind MAJOR, with
the line it concerns. -/
def State.sealCount (s : State) (line : Nat) (bad : Option SealBad) : State × Option (Nat × Nat × Nat) :=
  let p := line / 64
  let b := tget {} s.mseal.blocks p
  let m := tget 0 b.minors (line % 64)
  if m < 63 then
    let t := s.setBlock p { b with minors := tset b.minors (line % 64) (m + 1) }
    ({ t with mseal := t.mseal.dirty (t.macLine line) }, none)
  else if b.major + 1 < 2 ^ 56 then
    let t := (s.setBlock p { major := b.major + 1, minors := [(line % 64, 1)] }).cnt pMSEAL 0x118
    let u := t.resealMacs p
    (match bad with
     | some (.page j) => (u, some (64 * p + j.val, 1, 0))
     | _ => (u, none))
  else (s, some (line, 4, 0))

/-- Window lines written one after another (R131–R133): `whole` that the access covers each line, else each is read
and verified first. False when one failed. -/
def State.sealWrites (s : State) (agent : Nat) (lines : List Nat) (whole : Nat → Bool) (bad : Option SealBad) (i : Nat) :
    State × Bool :=
  match lines with
  | [] => (s, true)
  | l :: r =>
    match s.sealVerify l bad (!whole l && (match bad with | some (.line j) => j.val == i | _ => false)) with
    | (t, some (k, lv)) => (t.sealFail agent l k lv, false)
    | (t, none) =>
      match t.sealCount l bad with
      | (u, some (x, k, lv)) => (u.sealFail agent x k lv, false)
      | (u, none) => u.sealWrites agent r whole bad (i + 1)

/-- The window lines an access covers. -/
def State.windowLines (s : State) (addr size : Nat) : List Nat :=
  let lo := max addr s.winBase
  let hi := min (addr + size) (s.winBase + s.winSize)
  if hi ≤ lo then [] else
    (List.range ((hi - 1 - s.winBase) / 64 - (lo - s.winBase) / 64 + 1)).map fun i =>
      (lo - s.winBase) / 64 + i

/-- The key and tweak key of DRAM's XTS mode (R122, R124). -/
def DdrSt.dataKey (d : DdrSt) : List Byte := d.keys.take 32
def DdrSt.tweakKey (d : DdrSt) : List Byte := (d.keys.drop 32).take 32

/-- A line of DRAM as it stands in the package, by address / 64 (R124). -/
def State.dramStored (s : State) (line : Nat) : List Byte :=
  xtsEnc s.ddr.dataKey s.ddr.tweakKey line (s.peek (64 * line) 64)

/-- DRAM altered or replayed from outside the device (R125): the first line of an access outside the window decrypts
to other bytes, which stay. -/
def State.dramAlter (s : State) (addr : Nat) (u : Upset) : State :=
  match u with
  | .altered c =>
    if s.inWindow (addr / 64 * 64) 64 then s
    else s.poke (addr / 64 * 64) (xtsDec s.ddr.dataKey s.ddr.tweakKey (addr / 64) (fitTo 64 c))
  | _ => s

/-- The mismatch that an upset makes in the window (R130): a line altered or replayed no longer matches its MAC. -/
def State.sealUpset (s : State) (line : Nat) (u : Upset) : Option SealBad :=
  match u with
  | .seal b => some b
  | .altered c => if s.dramStored line = fitTo 64 c then none else some (.line 0)
  | _ => none

/-! ### Targets -/

/-- The SRAM word of an access in which an upset falls. -/
def upsetSram (addr n i : Nat) : Option Nat :=
  if i < (addr + n - 1) / 8 - addr / 8 + 1 then some ((addr / 8 + i) * 8) else none

/-- An uncorrectable upset stays in its word. -/
def State.sramUpset (s : State) (addr n : Nat) (u : Upset) : State :=
  match u with
  | .uncorrectable i => (match upsetSram addr n i with | some w => s.markBad w | none => s)
  | _ => s

/-- A corrected error of a word read is counted and logged (R116). -/
def State.sramCorrected (s : State) (bank addr n : Nat) (u : Upset) : State :=
  match u with
  | .correctable i =>
    (match upsetSram addr n i with | some w => s.sramError bank (sramWord w) false false | none => s)
  | _ => s

/-- A read or fetch at a memory target (R116, R122, R125, R130, R136). -/
def State.memRead (s : State) (agent addr n : Nat) (fetch : Bool) (u : Upset) : MemAns :=
  match regionOf addr with
  | some (.flash _) | some .info => s.flashRead addr n fetch u
  | some .dram =>
    let s1 := s.dramAlter addr u
    let r := s1.sealReads agent (s1.windowLines addr n) (s1.sealUpset (addr / 64) u) 0
    if r.2 then { st := r.1, data := r.1.peek addr n } else dataError r.1 n
  | some .rom => { st := s, data := s.peek addr n }
  | _ =>
    match sramBankOf addr with
    | none => { st := s, data := s.peek addr n }
    | some b =>
      let s0 := s.sramUpset addr n u
      match s0.badWord addr n with
      | some w => dataError (s0.sramError b (sramWord w) true false) n
      | none =>
        let s1 := s0.sramCorrected b addr n u
        { st := s1, data := s1.peek addr n }

/-- A list of granules with more added. -/
def addAll (l gs : List Nat) : List Nat := gs.foldl (fun l g => if l.contains g then l else g :: l) l

/-- A fabric write is a write during the claim (R245). -/
def State.staveTouched (s : State) (n addr size : Nat) : State :=
  if (s.stave n).claim.isSome then
    s.modStave n fun t => { t with written := addAll t.written (ramGranules addr size) }
  else s

/-- A store at a memory target (R117, R125, R131). A store that covers only part of a 64-bit SRAM word meets
the word's errors. -/
def State.memWrite (s : State) (agent addr : Nat) (bs : List Byte) (u : Upset) : MemAns :=
  match regionOf addr with
  | some .dram =>
    let s1 := s.dramAlter addr u
    let whole (l : Nat) : Bool := decide (addr ≤ s1.winBase + 64 * l) && decide (s1.winBase + 64 * l + 64 ≤ addr + bs.length)
    let r := s1.sealWrites agent (s1.windowLines addr bs.length) whole (s1.sealUpset (addr / 64) u) 0
    if r.2 then { st := r.1.poke addr bs } else { st := r.1, fault := .data }
  | some (.stave n) => { st := (s.staveTouched n addr bs.length).poke addr bs }
  | _ =>
    match sramBankOf addr with
    | none => { st := s.poke addr bs }
    | some b =>
      let part := partWords addr bs.length
      let s0 := s.sramUpset addr bs.length u
      match part.find? fun w => s0.sram.bad.contains w with
      | some w => { st := s0.sramError b (sramWord w) true false, fault := .data }
      | none =>
        let s1 := if part = [] then s0 else s0.sramCorrected b addr bs.length u
        { st := (s1.clearBad addr bs.length).poke addr bs }

/-- Whether an address is memory, not a register page or the Vine window. -/
def isMemory (addr : Nat) : Bool :=
  match regionOf addr with
  | some (.page _) | some (.vine _) | none => false
  | _ => true

/-- An access at its memory target, with the parity of the fabric (R107): a write with bad data parity is discarded; a
response with bad parity leaves what the access did. -/
def State.atMem (s : State) (a addr n : Nat) (k : AccKind) (bs : List Byte) (u : Upset) : MemAns :=
  if k = .write && u = .dataParity then { st := s.parityMet, fault := .parity }
  else
    let r := if k = .write then s.memWrite a addr bs u else s.memRead a addr n (k == .fetch) u
    if u = .rspParity then { st := r.st.parityMet, data := List.replicate n 0, fault := .parity } else r

/-! ### Admission (R22, R95, R105, R107) -/

/-- What becomes of an access at its gate: refused, or admitted in a state with the delivered attributes, what it will
meet, and whether it has to wait. -/
inductive Admit where
  | no (r : MemAns)
  | yes (st : State) (cache order : Nat) (byDefault wait late : Bool) (u : Upset)

/-- Judgement of an access made within a command (R22, R25, R95, R105, R107): the range check, the request's parity,
the gate's verdict, on the pages of R105 the second verdict. `asked` is the ordering it is issued with; `u` an upset
of the command itself. LCORE's accesses to the island's pages pass the island section, which holds no rules (R336,
R340); its attributes are those of the LEGAL row of R99. -/
def State.busAdmits (s : State) (a addr n : Nat) (k : AccKind) (asked : Nat) (u : Upset) : Admit :=
  let g := (gateOf addr).getD 0
  let ft := s.fateOf a addr n
  let v := if u = .none then ft.upset else u
  let no (t : State) (f : BusFault) : Admit := .no { st := t, data := List.replicate n 0, fault := f, gate := g }
  if !s.rangeOk addr n k || (a == aLCORE && (!islandPage addr || k == .fetch)) then
    .no { st := s, data := List.replicate n 0, fault := .range }
  else if v = .reqParity then no (s.badRequest addr k) .parity
  else
    let verdict := if a = aLCORE then .letPass 2 2 false else s.judge g a addr n k
    if ft.twice && (judgedTwice addr).isSome then
      no (s.refuseTwice g a addr k (fld (s.rg (pGATE g) 0x100) 0 16)) .gate
    else
      match verdict with
      | .refuse r => no (s.gateRefuse g a r addr k) .gate
      | .letPass c o d =>
        .yes (s.countDefault g d) c o d
          (s.targetWaits addr n || s.blkWaits a g || s.behind a g addr n (max asked o) s.flightNo) ft.late v

/-- An access in flight, issued now. -/
def State.newFlight (s : State) (a addr size : Nat) (k : AccKind) (data : List Byte) (cache order asked : Nat) : Flight :=
  let g := (gateOf addr).getD 0
  { id := s.flightNo, agent := a, gate := g, epoch := (s.rg (pGATE g) 0x100).toNat, addr := addr, size := size,
    write := k == .write, fetch := k == .fetch, data := data, cache := cache, order := order, issued := s.cycle,
    second := false, timedOut := false, asked := asked }

/-- A flight is under way. -/
def State.addFlight (s : State) (f : Flight) : State :=
  { s with flights := s.flights ++ [f], flightNo := s.flightNo + 1 }

/-- A time-out is counted, and the first recorded (R109). -/
def State.countTimeout (s : State) (a g : Nat) : State :=
  let s1 := s.cnt pFAB 0x104
  if s1.rbit pFAB 0x108 31 then s1 else s1.setRg pFAB 0x108 (wd (a % 256 + at' g 8 + 0x80000000))

/-- An access whose answer does not come in time (R109): it is left in flight, and what it did is told with its late
response. -/
def State.lateFlight (s : State) (f : Flight) : State :=
  (s.addFlight { f with timedOut := true }).countTimeout f.agent f.gate

/-- An access of a command has to wait at its target: the command is left to be given again. -/
def State.hold (s : State) (addr : Nat) : State := { s with held := some addr }

/-- A command's outcome: unchanged but for the suspend that its waiting access asks for, where one had to wait
(R145; notes/assumptions/77.md). -/
def State.orHeld (s t : State) : State :=
  match s.held, t.held with
  | none, some addr => s.flashWant addr
  | _, _ => t

/-- A reset waits for nothing: what its accesses would wait for is left undone (notes/assumptions/77.md). -/
def State.orLost (s t : State) : State := { t with held := s.held }

/-- An access of an engine to memory, judged whole (R95, R96), in order (R100, R106), and performed. A target that is no
memory is refused under R3 (notes/assumptions/12.md). -/
def State.engAccess (s : State) (a addr n : Nat) (k : AccKind) (bs : List Byte) : MemAns :=
  match s.busAdmits a addr n k 1 .none with
  | .no r => r
  | .yes t c o _ wait late u =>
    if !isMemory addr then { st := t, data := List.replicate n 0, fault := .access }
    else if wait then { st := s.hold addr, data := List.replicate n 0, fault := .timeout }
    else if late then
      { st := t.lateFlight (s.newFlight a addr n k bs c o 1), data := List.replicate n 0, fault := .timeout }
    else t.atMem a addr n k bs u

def State.engRead1 (s : State) (a addr n : Nat) : MemAns := s.engAccess a addr n .read []

def State.engWrite1 (s : State) (a addr : Nat) (bs : List Byte) : MemAns := s.engAccess a addr bs.length .write bs

/-- Bursts of at most 256 bytes (R96), each within one aligned 256-byte block: lengths from an address. -/
def burstLens (addr n fuel : Nat) : List Nat :=
  match fuel with
  | 0 => []
  | k + 1 =>
    if n = 0 then []
    else
      let b := min n (256 - addr % 256)
      b :: burstLens (addr + b) (n - b) k

/-- Bytes an engine reads, burst by burst; the first refused burst ends it (R96). -/
def State.engReadBursts (s : State) (a addr : Nat) (lens : List Nat) (acc : List Byte) : MemAns :=
  match lens with
  | [] => { st := s, data := acc }
  | l :: r =>
    let x := s.engRead1 a addr l
    if x.fault = .none then x.st.engReadBursts a (addr + l) r (acc ++ x.data)
    else { st := x.st, data := acc, fault := x.fault }

def State.engRead (s : State) (a addr n : Nat) : MemAns :=
  s.engReadBursts a addr (burstLens addr n (n + 1)) []

/-- Bytes an engine writes, burst by burst; bytes of earlier bursts stay written (R96). The answer's data
are the bytes not written. -/
def State.engWriteBursts (s : State) (a addr : Nat) (lens : List Nat) (bs : List Byte) : MemAns :=
  match lens with
  | [] => { st := s }
  | l :: r =>
    let x := s.engWrite1 a addr (bs.take l)
    if x.fault = .none then x.st.engWriteBursts a (addr + l) r (bs.drop l)
    else { st := x.st, data := bs, fault := x.fault }

def State.engWrite (s : State) (a addr : Nat) (bs : List Byte) : MemAns :=
  s.engWriteBursts a addr (burstLens addr bs.length (bs.length + 1)) bs

end Sys2Proof.Machine
end

