-- ==== Sys2Proof/Machine/CoreMem.lean ====
section
/-!
DEFINITION. How a core reaches memory: its private path (R92), the island map of LCORE (R340), the
gates (R95), and the descriptor, vector and frame accesses made with the core's agent ID (R54, R78).
Accesses to register pages and the Vine window are added in `Access.lean`.
-/
namespace Sys2Proof.Machine

/-- What a core's access answers: the state after, data, a cause code of R76 (0 none), the refusing
gate and the delivered attributes. -/
structure CoreAns where
  st : State
  data : List Byte := []
  code : Nat := 0
  gate : Nat := 0
  cache : Nat := 0
  order : Nat := 0

/-- The cause code of a bus fault (R76); a refusal under R3 is taken as RANGE
(notes/assumptions/11.md). -/
def causeOf : BusFault → Nat
  | .none => 0
  | .gate => 0x28
  | .range | .access => 0x29
  | .parity | .data => 0x2A
  | .timeout => 0x2B

/-- The agent ID of a core (R17, R18). -/
def State.coreAgent (s : State) (n : Nat) : Nat := ((s.core n).agent).getD (if n = 10 then 0x12 else n)

/-- An address on a core's private path (R92). -/
def privatePath (n addr size : Nat) : Bool :=
  match regionOf addr, regionOf (addr + size - 1) with
  | some (.coreSram k), some (.coreSram j) => n < 8 && k == n && j == n
  | some .keySram, some .keySram => n == 8
  | some .monSram, some .monSram => n == 9
  | _, _ => false

/-- The memories of LCORE's map and its rights there (R340): read, write, fetch. -/
def islandRights (addr size : Nat) : Option (Bool × Bool × Bool) :=
  let e := addr + size - 1
  if 0x10380000 ≤ addr && e ≤ 0x103FFFFF then some (true, false, false)
  else if 0x26000000 ≤ addr && e ≤ 0x26001FFF then some (true, false, true)
  else if 0x26010000 ≤ addr && e ≤ 0x2601FFFF then some (true, true, true)
  else if 0x26020000 ≤ addr && e ≤ 0x26021FFF then some (true, true, false)
  else none

/-- Bytes of the island's memories and of the legal partition as LCORE reads them (R340). -/
def State.islandPeek (s : State) (addr n : Nat) : List Byte :=
  (List.range n).map fun i =>
    let a := addr + i
    if 0x26000000 ≤ a && a ≤ 0x26001FFF then Config.romByte a else memByte s.ddr s.mem a

/-- An access of a core that passes no gate: on its private path (R92), or of LCORE to the island's memories (R340),
where the legal partition waits as flash does (R143, R147). None of these is on the fabric. -/
def State.corePrivate (s : State) (n addr size : Nat) (k : AccKind) (bs : List Byte) (u : Upset) : Option CoreAns :=
  let a := s.coreAgent n
  let no (code : Nat) (t : State) : Option CoreAns := some { st := t, data := List.replicate size 0, code := code }
  if n = 10 then
    match islandRights addr size with
    | some (r, w, x) =>
      let ok := match k with | .read => r | .write => w | .fetch => x
      if !ok then no 0x29 s
      else if s.flashWaits addr then no 0x2B (s.hold addr)
      else if k = .write then some { st := s.poke addr bs, cache := 2 }
      else some { st := s, data := s.islandPeek addr size, cache := 2 }
    | none => none
  else if privatePath n addr size then
    if !s.rangeOk addr size k || (n == 8 && touches addr size 0x24020000 0x20000) then no 0x29 s
    else
      let v := if u = .none then (s.fateOf a addr size).upset else u
      let r := if k = .write then s.memWrite a addr bs v else s.memRead a addr size (k == .fetch) v
      some { st := r.st, data := r.data, code := causeOf r.fault, cache := 2 }
  else none

/-- A descriptor, vector or frame access made with the core's agent ID (R54, R78). A page and the Vine window serve
aligned 32-bit accesses alone (R3, R412): one of another size is refused behind the gate. -/
def State.coreTable (s : State) (n addr size : Nat) (k : AccKind) (bs : List Byte) : CoreAns :=
  match s.corePrivate n addr size k bs .none with
  | some r => r
  | none =>
    let a := s.coreAgent n
    let zero := List.replicate size 0
    match s.busAdmits a addr size k 0 .none with
    | .no r => { st := r.st, data := zero, code := causeOf r.fault, gate := r.gate }
    | .yes t c o _ wait late u =>
      if !isMemory addr then
        { st := (match pageOfAddr addr with | some pg => t.err pg 4 | none => t), data := zero, code := 0x29 }
      else if wait then { st := s.hold addr, data := zero, code := 0x2B }
      else if late then { st := t.lateFlight (s.newFlight a addr size k bs c o 0), data := zero, code := 0x2B }
      else
        let r := t.atMem a addr size k bs u
        { st := r.st, data := r.data, code := causeOf r.fault, gate := (gateOf addr).getD 0, cache := c, order := o }

/-- The table base and length of a core page (R54). -/
def State.dtBase (s : State) (n : Nat) : Nat :=
  (s.rg (pCORE n) 0x100).toNat + fld (s.rg (pCORE n) 0x104) 0 8 * 2 ^ 32

/-- A descriptor loaded through the core's table under every check of R54: SEG_SELECTOR is 0x23. -/
def State.loadDesc (s : State) (n sel : Nat) : State × DescAns × Nat :=
  if sel ≥ (s.rg (pCORE n) 0x108).toNat then (s, .fail 0x23, 0)
  else
    let r := s.coreTable n (s.dtBase n + 16 * sel) 16 .read []
    if r.code ≠ 0 then (r.st, .fail r.code, r.gate) else (r.st, decodeDesc n sel r.data, r.gate)

/-- A segment register of a core; unlisted is null (R53). -/
def CoreSt.seg (c : CoreSt) (i : Nat) : Seg := tget {} c.segs i

/-- A general register of a core (R42). -/
def CoreSt.gr (c : CoreSt) (i : Nat) : Word := if i % 32 = 0 then 0 else tget 0 c.g (i % 32)

/-- A general register written; g0 discards the write (R42). -/
def CoreSt.setGr (c : CoreSt) (i : Nat) (v : Word) : CoreSt :=
  if i % 32 = 0 then c else { c with g := tset c.g (i % 32) v }

/-- The check of R55: the physical address, or the cause code SEG_NULL, SEG_RIGHTS or SEG_LIMIT. `right`
is what the access needs. -/
def CoreSt.check (c : CoreSt) (i : Nat) (off : Word) (size : Nat) (right : Seg → Bool) : Sum Nat Nat :=
  let g := c.seg i
  if g.null then .inr 0x20
  else if !right g then .inr 0x21
  else if off.toNat + size - 1 > g.limit then .inr 0x22
  else .inl (g.base + off.toNat)

/-- Segments s0–s7 loaded from descriptors 0–7 at release (R75): a failing descriptor leaves null. -/
def State.loadSegs (s : State) (n : Nat) : State × Tbl Seg :=
  (List.range 8).foldl (fun (p : State × Tbl Seg) i =>
    match p.1.loadDesc n i with
    | (t, .ok g, _) => (t, tset p.2 i g)
    | (t, .fail _, _) => (t, tset p.2 i { sel := i })) (s, [])

/-- A core returned to RESET (R75): dirty lines are discarded and buffered stores dropped; its agent ID
is kept until the next cold reset (R17). -/
def State.coreToReset (s : State) (n : Nat) : State :=
  let s0 := (s.flights.filter fun f => match f.buf with | some (m, _) => m == n | none => false).foldl
    (fun (t : State) f => t.dropFlight f) s
  let s1 := match (s.core n).agent with
    | some a => s0.endClaims a
    | none => s0
  s1.setCore n { agent := (s.core n).agent, bps := (s.core n).bps }

/-- An application core, KCORE or LCORE released (R75): its registers take their C values, its segments
are loaded, and it starts at ENTRY; without an executable s0 it stays in RESET with ERR.RELEASE. g1–g31 start at zero
(DESIGN CHOICE: no table gives them a value at a release or a cold reset; notes/assumptions/1.md). -/
def State.coreRelease (s : State) (n : Nat) : State :=
  let agent := ((s.core n).agent).getD
    (if n = 8 then 0x10 else if n = 9 then 0x11 else if n = 10 then 0x12
     else if s.rbit pSYS 0x100 n then 8 + n else n)
  let s1 := s.setCore n { agent := some agent, bps := (s.core n).bps }
  let r := s1.loadSegs n
  let g0 := tget {} r.2 0
  if g0.null || !g0.x then
    ((r.1.setCore n { agent := (s.core n).agent, bps := (s.core n).bps }).err (pCORE n) 18)
  else r.1.setCore n { run := .run, agent := some agent, pc := s.rg (pCORE n) 0x10C, segs := r.2,
                       bps := (s.core n).bps }

/-- A paired write of EN = 1 on a core page (R17, R75). On a core that runs or waits it changes nothing (DESIGN
CHOICE: R75 gives it no effect; notes/assumptions/75.md). -/
def State.coreEnable (s : State) (n : Nat) : State :=
  if (s.core n).run = .run || (s.core n).run = .wait then s
  else if n < 8 && !s.rbit pSYS 0x100 31 then s.err (pCORE n) 18
  else s.coreRelease n

end Sys2Proof.Machine
end

