-- ==== Sys2Proof/Machine/SysCtl.lean ====
section
/-!
DEFINITION. Paired writes (R6), the SYS registers (R13, R14), gate commits (R101–R104), SNAP.FIRE,
the watchdog's registers (R512), the TAMP and BKP registers (R436, R446, R447, R450), and the reset of
a page's registers (R9, R10, R490).
-/
namespace Sys2Proof.Machine

/-! ### Paired writes -/

/-- The pending write of a register, if its window runs. -/
def State.pairOf (s : State) (k : Nat) : Option PairW := s.pairs.find? fun p => p.key == k

/-- The pending write of a register discarded. -/
def State.pairDrop (s : State) (k : Nat) : State := { s with pairs := s.pairs.filter fun p => p.key != k }

/-- A write to a paired register is held pending; an earlier pending write is discarded with its
consequences (R6). -/
def State.pairOpen (s : State) (a pg off : Nat) (v : Word) : State :=
  let k := rkey pg off
  let s1 := if (s.pairOf k).isSome then (s.pairDrop k).pairFail pg else s
  { s1 with pairs := s1.pairs ++ [{ key := k, agent := a, value := v, deadline := s.cycle + 32 }] }

/-- A write to the complement partner: the value that takes effect, if it does (R6). -/
def State.pairClose (s : State) (a pg off : Nat) (v : Word) : State × Option Word :=
  let k := rkey pg off
  match s.pairOf k with
  | none => (s.pairFail pg, none)
  | some p =>
    if p.agent = a ∧ v = ~~~ p.value then (s.pairDrop k, some p.value)
    else ((s.pairDrop k).pairFail pg, none)

/-- A complement from an agent that the register does not allow: the pending write is discarded, and the pairing
fails (R6). -/
def State.pairForeign (s : State) (pg off : Nat) : State := (s.pairDrop (rkey pg off)).pairFail pg

/-- The windows that end at a cycle: every pending write whose deadline has come is discarded (R6). A complement
that arrives on the very edge on which its window ends finds it expired (DESIGN CHOICE: R6 is silent;
notes/assumptions/75.md). -/
def State.pairExpire (s : State) (now : Nat) : State :=
  (s.pairs.filter fun p => decide (p.deadline ≤ now)).foldl
    (fun (t : State) p => (t.pairDrop p.key).pairFail (p.key / 0x1000)) s

/-! ### Registers of a page under a reset -/

/-- The LOCK bits of a page hold until cold reset (R30). -/
def lockHolds (pg : Nat) : Bool :=
  match pageKind pg with
  | some kd => ctrlPaired kd
  | none => false

/-- A register keeps its value through a warm or block reset (R9, R10, R30). -/
def keepsWarm (k : Nat) : Bool :=
  let pg := k / 0x1000
  let off := k % 0x1000
  if off = 0x30 then lockHolds pg
  else if off = 0x34 then true
  else if off < 0x100 then false
  else
    match pageKind pg with
    | some kd => (match findRow kd off with | some r => r.keep | none => false)
    | none => false

/-- A register keeps its value through a cold reset (a dash in column C). -/
def keepsCold (k : Nat) : Bool :=
  match pageKind (k / 0x1000) with
  | some kd => (match findRow kd (k % 0x1000) with | some r => r.coldKeep | none => false)
  | none => false

/-- Every register of a page at its W value (R10). -/
def State.pageWarm (s : State) (pg : Nat) : State :=
  { s with regs := s.regs.filter fun e => e.1 / 0x1000 != pg || keepsWarm e.1,
           aregs := s.aregs.filter fun e => e.1 % 0x1000000 / 0x1000 != pg,
           pairs := s.pairs.filter fun p => p.key / 0x1000 != pg }

/-- A register that a switched-on domain keeps: LOCK held until cold reset, and the RWL fields its set
bits cover (R490). -/
def State.keepsPower (s : State) (k : Nat) : Bool :=
  let pg := k / 0x1000
  let off := k % 0x1000
  lockHolds pg &&
    (off == 0x30 ||
     (match pageKind pg with
      | some kd =>
        (match findRow kd off with
         | some r => r.acc == .rwl && (s.rg pg 0x30 &&& (1 ||| wd r.lock)) != 0
         | none => false)
      | none => false))

/-- Every register of a page at its C value after its domain was switched on (R490). -/
def State.pagePowerOn (s : State) (pg : Nat) : State :=
  { s with regs := s.regs.filter fun e => e.1 / 0x1000 != pg || s.keepsPower e.1,
           aregs := s.aregs.filter fun e => e.1 % 0x1000000 / 0x1000 != pg,
           pairs := s.pairs.filter fun p => p.key / 0x1000 != pg }

/-! ### SYS -/

/-- A write to SYS.CORE_DOMAIN, SYS.ROLE or a partner (R13, R14). -/
def State.sysWrite (s : State) (a off : Nat) (v : Word) : State :=
  let prim := if off = 0x100 || off = 0x104 then 0x100 else 0x108
  if a ≠ aMCORE then (s.err pSYS 3).logProtocol
  else if s.rbit pSYS prim 31 then s.err pSYS 1
  else if off = prim then s.pairOpen a pSYS prim v
  else
    match s.pairClose a pSYS prim v with
    | (t, none) => t
    | (t, some x) =>
      if prim = 0x108 then
        (if fld x 0 2 = 3 then t.pairFail pSYS
         else t.setRg pSYS 0x108 (wd (fld x 0 2 + 0x80000000)))
      else t.setRg pSYS 0x100 (wd (fld x 0 8 + 0x80000000))

/-! ### Gates -/

/-- A staging rule that a commit refuses (R102). -/
def badRule (g : Nat) (r : Rule) : Bool :=
  bitAt r.w2 31 &&
    (decide (r.base > r.limit) || fld r.w2 12 2 == 3 || fld r.w2 14 2 == 3 ||
      decide (r.base < (gateRange g).1) || decide (r.limit > (gateRange g).2))

/-- All 32 staging rules copied into the active set (R102). -/
def State.copyRules (s : State) (g : Nat) : State :=
  (List.range 128).foldl (fun (t : State) i =>
    if i % 4 = 3 then t else t.setRg (pGATE g) (0x400 + 4 * i) (s.rg (pGATE g) (0x200 + 4 * i))) s

/-- A paired write of GATEnn.COMMIT whose complement matched (R102). -/
def State.gateCommit (s : State) (g : Nat) (e : Word) : State :=
  let pg := pGATE g
  let bad := firstBelow 32 fun k => badRule g (s.rule g 0x200 k)
  let wrong := !(fld e 0 16 == (fld (s.rg pg 0x100) 0 16 + 1) % 0x10000 && fld e 16 16 == 0)
  let locked := s.rbit pg 0x30 1
  let s1 := if wrong then s.err pg 17 else s
  let s2 := match bad with
    | some k => (s1.err pg 16).setRg pg 0x124 (wd k)
    | none => s1
  let s3 := if locked then s2.err pg 1 else s2
  if wrong || bad.isSome || locked then s3
  else ((s3.copyRules g).setRg pg 0x100 (wd (fld e 0 16))).setRg pg 0x104 e

/-- A write to a staging word (R94, R101). -/
def State.stageWrite (s : State) (pg off : Nat) (v : Word) : State :=
  if off % 16 = 12 then s
  else s.setRg pg off (if off % 16 = 8 then v &&& 0x81FFFFFF else v)

/-! ### SNAP and WDOG -/

/-- A write of SNAP.FIRE: the re-arm takes effect first (R39). -/
def State.snapFire (s : State) (v : Word) : State :=
  let s1 := if bitAt v 1 then { s with snapArmed := true } else s
  if bitAt v 0 then s1.snapTrigger 0 else s1

/-- WDOG.LOAD in milliseconds; 0 is read as 1. -/
def State.wdogLoad (s : State) : Nat := max 1 (fld (s.rg pWDOG 0x100) 0 16)

/-- A write of WDOG.KICK (R512). -/
def State.wdogKick (s : State) (v : Word) : State :=
  if v = 0x4B49 then
    (if s.en pWDOG then { s with rst := { s.rst with wdogCount := s.wdogLoad } } else s)
  else s.err pWDOG 16

/-- A paired write of WDOG.CTRL (R512): EN = 1 starts the count and stays; EN = 0 is discarded. -/
def State.wdogCtrl (s : State) (v : Word) : State :=
  if bitAt v 0 && !s.en pWDOG then
    { s.setRg pWDOG 0x10 1 with rst := { s.rst with wdogCount := s.wdogLoad } }
  else s

/-! ### TAMP and BKP -/

/-- The VBAT copies follow RESP0, RESP1, RESP9–13 and LOOP_CFG (R446). -/
def State.shadowSync (s : State) : State :=
  let r (i : Nat) : Nat := s.respOf i
  let loop := s.rg pTAMP 0x198
  (s.setRg pBKP 0x12C (wd (r 0 + at' (r 1) 4 + at' (r 9) 8 + at' (r 10) 12 + at' (r 11) 16 +
    at' (r 12) 20 + at' (r 13) 24 + at' (fld loop 8 4) 28))).setRg pBKP 0x130 (wd (fld loop 0 8))

/-- A write of RESPs: never below the floor, and PROTOCOL is fixed at LOG; the shadow copies follow
(R436, R446). -/
def State.respWrite (s : State) (src : Nat) (v : Word) : State :=
  let r := if src = 28 then 0 else max (fld v 0 3) (tampFloor src)
  (s.setRg pTAMP (0x100 + 4 * src) (wd r)).shadowSync

/-- A write of LOOP_CFG (R439, R446). -/
def State.loopCfgWrite (s : State) (v : Word) : State := (s.setRg pTAMP 0x198 (v &&& 0xFFF)).shadowSync

/-- A write of FUSEPROG (R447): MCORE in MAKER or INTEGRATOR; a bit once set stays set. -/
def State.fuseProg (s : State) (a : Nat) (v : Word) : State :=
  if a = aMCORE && s.lcState ≤ 1 then
    { s with tamp := { s.tamp with fuseCfg := s.tamp.fuseCfg ||| fld v 0 3 } }
  else s.err pTAMP 3

/-- A write of BKP.FLAG (R450): MCORE alone; a bit clears only if MCORE has read it as 1 and its source
is low. -/
def State.flagClear (s : State) (a : Nat) (v : Word) : State :=
  if a ≠ aMCORE then s.err pBKP 3
  else
    let clr := v &&& wd s.tamp.flagSeen &&& ~~~ (s.rg pTAMP 0x184)
    s.modRg pBKP 0x100 fun f => f &&& ~~~ clr

/-- MCORE reads BKP.FLAG: the bits it saw as 1 may be cleared (R450). -/
def State.flagRead (s : State) (a : Nat) : State :=
  if a = aMCORE then
    { s with tamp := { s.tamp with flagSeen := s.tamp.flagSeen ||| (s.rg pBKP 0x100).toNat } }
  else s

/-- A paired write of TAMP.CTRL with RESUME = 1 by MCORE ends HALT (R443): the block masters continue;
halted cores stay halted under R90's exit rule. -/
def State.tampResume (s : State) (a : Nat) : State :=
  if a = aMCORE && s.tamp.halted then
    { s with tamp := { s.tamp with halted := false, resp := if s.tamp.resp = 2 then 0 else s.tamp.resp } }
  else s

end Sys2Proof.Machine
end

