-- ==== Sys2Proof/Machine/RngCtl.lean ====
section
/-!
DEFINITION. The random number generator (chapter "Random number generation", R150–R167): noise samples
and their health tests, the conditioner, seeds, the DRBG instances, private wires and the software port.
-/
namespace Sys2Proof.Machine

/-- The RNG changed. -/
def State.modRng (s : State) (f : RngSt → RngSt) : State := { s with rng := f s.rng }

/-- An instance stored. -/
def State.setInst (s : State) (n : Nat) (x : RngInst) : State :=
  s.modRng fun r => { r with insts := tset r.insts n x }

/-- One sample through the repetition count test and the adaptive proportion test (R151): the source
after, and whether each test failed. -/
def RngSrc.sample (x : RngSrc) (b : Bool) : RngSrc × Bool × Bool :=
  let rep := if x.last = some b then x.rep + 1 else 1
  let first := if x.winPos = 0 then b else x.winFirst
  let cnt := if x.winPos = 0 then 1 else if b = x.winFirst then x.winCnt + 1 else x.winCnt
  ({ x with last := some b, rep := rep, winFirst := first, winCnt := cnt,
            winPos := (x.winPos + 1) % 1024 },
    decide (81 ≤ rep), decide (827 ≤ cnt))

/-- Samples through both tests until one fails: the source after and the failing test, if any
(false the repetition count). -/
def RngSrc.samples (x : RngSrc) (bs : List Bool) : RngSrc × Option Bool :=
  match bs with
  | [] => (x, none)
  | b :: r =>
    match x.sample b with
    | (y, true, _) => (y, some false)
    | (y, false, true) => (y, some true)
    | (y, false, false) => y.samples r

/-- The Staves under a health failure (R247): a claim that holds hidden or tainted granules or has run a
RAND is marked. -/
def StaveSt.healthFail (t : StaveSt) : StaveSt :=
  { t with rngf := true,
           marked := t.marked || (t.claim.isSome && (t.hidden != [] || t.taint != [] || t.ranRand)) }

/-- A health failure of a source (R165, R166): FAIL_INFO, ERR, IRQ_RAW, no output, no seeds, and the
alarm. A block already delivered stays, unread (R164). OVERFLOW stands for a second source: a repeated failure of the
recorded one does not set it. -/
def State.rngFail (s : State) (src : Nat) (apt startup : Bool) : State :=
  let s1 := s.modRg pRNG 0x118 fun v =>
    if bitAt v 31 then (if fld v 0 3 = src then v else setBitW v 30)
    else wd (src + flagAt apt 4 + flagAt startup 5 + 0x80000000)
  let s2 := (s1.err pRNG 16).irq pRNG 1
  let s3 := if startup then s2.err pRNG 17 else s2
  let x := s3.rng.srcs.getD src {}
  let s4 := s3.modRng fun r =>
    { r with fault := true, seeds := [], outs := [],
             srcs := r.srcs.set src { x with rct := x.rct || !apt, apt := x.apt || apt } }
  let marked : Tbl StaveSt := (List.range 4).foldl
    (fun t n => tset t n ((tget ({} : StaveSt) t n).healthFail)) s4.staves
  State.alarm { s4 with staves := marked } (2 ^ 21)

/-- PD23 is on: the sources run (R150). -/
def State.rngOn (s : State) : Bool := s.pwr.on.testBit 23

/-- A source ends its start-up test over 1,024 samples (R152). -/
def State.rngStartupDone (s : State) (src : Nat) (bs : List Bool) : State :=
  let x := s.rng.srcs.getD src {}
  if !x.startup || !s.rngOn then s
  else
    let r := ({ x with last := none, rep := 0, winPos := 0, winCnt := 0 } : RngSrc).samples bs
    match r.2 with
    | some apt =>
      (s.modRng fun g => { g with srcs := g.srcs.set src { r.1 with startup := false } }).rngFail src apt true
    | none => s.modRng fun g => { g with srcs := g.srcs.set src { r.1 with startup := false, run := true } }

/-- One raw bit into the LFSR with feedback x^256 + x^254 + x^251 + x^246 + 1 (R153;
notes/assumptions/21.md). -/
def lfsrStep (x : Nat) (b : Bool) : Nat :=
  let fb := b != (x.testBit 255 != (x.testBit 253 != (x.testBit 250 != x.testBit 245)))
  x * 2 % 2 ^ 256 + b01 fb

/-- Raw bits entered in rounds over the running sources, source 0 first (R153): the RNG after and the
first failing source with its test. -/
def feedBits (srcs : List RngSrc) (lfsr : Nat) (order : List Nat) (bs : List Bool) :
    List RngSrc × Nat × Option (Nat × Bool) :=
  match bs with
  | [] => (srcs, lfsr, none)
  | b :: r =>
    match order with
    | [] => (srcs, lfsr, none)
    | k :: rest =>
      match (srcs.getD k {}).sample b with
      | (y, true, _) => (srcs.set k y, lfsr, some (k, false))
      | (y, false, true) => (srcs.set k y, lfsr, some (k, true))
      | (y, false, false) => feedBits (srcs.set k y) (lfsrStep lfsr b) (rest ++ [k]) r

/-- The entropy credit reaches 256 after 512 raw bits: one conditioner output (R153). It is discarded
while the seed buffer is full (R154). -/
def State.rngOutput (s : State) (bs : List Bool) : State :=
  let order := (List.range 8).filter fun i => (s.rng.srcs.getD i {}).run
  if s.rng.fault || !s.rngOn || order = [] then s
  else
    let r := feedBits s.rng.srcs s.rng.lfsr order bs
    let s1 := s.modRng fun g => { g with srcs := r.1, lfsr := r.2.1 }
    match r.2.2 with
    | some (k, apt) => s1.rngFail k apt false
    | none =>
      if 4 ≤ s.rng.seeds.length || 3 ≤ s.rng.outs.length then s1
      else s1.modRng fun g => { g with outs := g.outs ++ [leBytes 16 r.2.1] }

/-- A 384-bit seed enters the buffer; the first one raises READY (R153, R158). -/
def State.rngSeed (s : State) : State :=
  if s.rng.fault || !s.rngOn || s.rng.outs.length < 3 || 4 ≤ s.rng.seeds.length then s
  else
    let s1 := s.modRng fun g => { g with seeds := g.seeds ++ [g.outs.flatten], outs := [], ready := true }
    let s2 := s1.modRg pRNG 0x10C fun v => v + 1
    if s.rng.ready then s2 else s2.irq pRNG 0

/-- The personalisation string of a client (R156). -/
def State.rngPers (s : State) (client : Nat) : List Byte :=
  fitTo 48 (BitVec.ofNat 8 client :: leBytes 4 s.resets)

/-- The earliest entry of the seed queue that a test picks, ties going to the lower client (R157). -/
def earliest (t : Tbl RngInst) (f : Nat → RngInst → Option Nat) : Option Nat :=
  (t.foldl (fun (best : Option (Nat × Nat)) e =>
    match f e.1 e.2 with
    | none => best
    | some o =>
      match best with
      | some (bo, _) => if o < bo then some (o, e.1) else best
      | none => some (o, e.1)) none).map (·.2)

/-- An instance may take a seed now: in low-power mode the fall-back alone (R163). -/
def State.mayTake (s : State) (n : Nat) : Bool := !s.rng.lowpwr || n == 86

/-- The instance that has waited longest for instantiation (R157). -/
def State.rngWaiting (s : State) : Option Nat :=
  earliest s.rng.insts fun n x => if s.mayTake n && x.drbg.isNone then x.asked else none

/-- The instance that is next to be reseeded: a waiting fall-back, else the one due longest (R157, R162). -/
def State.rngDue (s : State) : Option Nat :=
  if (s.rngInst 86).stalled then some 86
  else earliest s.rng.insts fun n x => if s.mayTake n then x.due else none

/-- A seed instantiates the instance that has waited longest (R157). -/
def State.rngInstantiate (s : State) : State :=
  match s.rng.seeds, s.rngWaiting with
  | seed :: rest, some n =>
    let x := s.rngInst n
    (s.modRng fun r => { r with seeds := rest }).setInst n
      { x with drbg := some (Drbg.start seed (s.rngPers n)), asked := none, count := 0 }
  | _, _ => s

/-- A seed reseeds the instance that has been due longest, a waiting fall-back ahead of the rest
(R157, R160, R162). Waiting instantiations go first. -/
def State.rngReseed (s : State) : State :=
  match s.rng.seeds, s.rngWaiting, s.rngDue with
  | seed :: rest, none, some n =>
    let x := s.rngInst n
    (s.modRng fun r => { r with seeds := rest }).setInst n
      { x with drbg := x.drbg.map fun d => d.update seed, count := 0, due := none, stalled := false }
  | _, _, _ => s

/-- RESEED_CAP as it applies (R161); the fall-back's interval is fixed (R162). -/
def State.rngCap (s : State) (n : Nat) : Nat :=
  if n = 86 then 1024 else max 1024 (min 0x100000 (s.rg pRNG 0x108).toNat)

/-- A stall at the cap is recorded once (R160). -/
def State.rngStall (s : State) (n : Nat) : State :=
  let x := s.rngInst n
  if x.stalled then s
  else
    ((((s.setInst n { x with stalled := true, due := some (x.due.getD s.rng.order) }).modRng
      fun r => { r with order := r.order + 1 }).irq pRNG 2).cnt pRNG 0x120)

/-- The instance joins the seed queue at 1,024 requests, and stalls at its cap (R160, R162). -/
def State.rngCount (s : State) (n : Nat) : State :=
  let x := s.rngInst n
  let s1 := if n = 86 then s else s.modRg pRNG 0x11C fun v => wd (max v.toNat (min x.count (s.rngCap n)))
  let s2 :=
    if 1024 ≤ x.count && x.due.isNone then
      (s1.setInst n { x with due := some s.rng.order }).modRng fun r => { r with order := r.order + 1 }
    else s1
  if s.rngCap n ≤ x.count then s2.rngStall n else s2

/-- Waiting instantiations are served while seeds last. -/
def State.rngServe (s : State) (n : Nat) : State :=
  match n with
  | 0 => s
  | k + 1 => (s.rngInstantiate).rngServe k

/-- The client's request is placed in the seed queue if its instance is uninstantiated (R157). -/
def State.rngAsk (s : State) (n : Nat) : State :=
  let x := s.rngInst n
  if x.drbg.isSome then s
  else
    let s1 :=
      if x.asked.isSome then s
      else (s.setInst n { x with asked := some s.rng.order }).modRng fun r => { r with order := r.order + 1 }
    s1.rngServe 4

/-- The instance that serves a client's requests: the fall-back alone in low-power mode (R163). -/
def State.rngServing (s : State) (client : Nat) : Nat := if s.rng.lowpwr then 86 else client

/-- One request of a client (R156, R160–R163): 512 bits into its output block. The code is that of
DRESULT: 0 OK, 1 NOT_READY, 2 WAIT, 3 RNG_FAULT. -/
def State.rngRequest (s : State) (client : Nat) : State × Nat :=
  if s.rng.fault then (s, 3)
  else if !s.rng.ready then (s, 1)
  else
    let n := s.rngServing client
    let s1 := s.rngAsk n
    let x := s1.rngInst n
    match x.drbg with
    | none => (s1, 1)
    | some d =>
      if s1.rngCap n ≤ x.count then (s1.rngStall n, 2)
      else
        let g := d.generate
        let s2 := s1.setInst n { x with drbg := some g.2, count := x.count + 1 }
        let s3 := s2.rngCount n
        let s4 := if n = 86 then s3.cnt pRNG 0x124 else s3
        let y := s4.rngInst client
        (s4.setInst client { y with block := y.block ++ g.1, fromFallback := n == 86 }, 0)

/-- Requests until the client's block holds `n` bytes. -/
def State.rngGather (s : State) (client n fuel : Nat) : State × Nat :=
  match fuel with
  | 0 => (s, 1)
  | k + 1 =>
    if n ≤ (s.rngInst client).block.length then (s, 0)
    else
      match s.rngRequest client with
      | (t, 0) => t.rngGather client n k
      | r => r

/-- A draw of `n` bytes on a private wire: the code of `rngRequest` and the bytes
(notes/assumptions/22.md). -/
def State.wireDraw (s : State) (client n : Nat) : State × Nat × List Byte :=
  if s.rng.fault then (s, 3, [])
  else
    match s.rngGather client n (n / 64 + 2) with
    | (t, 0) =>
      let x := t.rngInst client
      (t.setInst client { x with block := x.block.drop n }, 0, x.block.take n)
    | (t, c) => (t, c, [])

/-- A read of RNG.DATA (R158, R160, R162, R164): the word, with DRESULT set. -/
def State.rngDataRead (s : State) (a : Nat) : State × Word :=
  let n := rngPort a
  let r := if s.rng.fault then (s, 3)
    else if (s.rngInst n).block = [] then s.rngRequest n else (s, 0)
  let x := r.1.rngInst n
  if r.2 = 0 then
    ((r.1.setInst n { x with block := x.block.drop 4 }).setArg a pRNG 0x104
      (wd (flagAt x.fromFallback 8)), wordOf x.block)
  else (r.1.setArg a pRNG 0x104 (wd r.2), 0)

/-- A read of RNG.DATA finds its block empty and its instance uninstantiated, with no seed for it yet (R164). -/
def State.rngDataWaits (s : State) (a : Nat) : Bool :=
  let n := s.rngServing (rngPort a)
  s.rng.ready && !s.rng.fault && (s.rngInst (rngPort a)).block == [] && ((s.rngAsk n).rngInst n).drbg.isNone

/-- A paired write of RNG.CTRL (R163, R167): EN is stored only; LOWPWR enters or leaves low-power mode. -/
def State.rngCtrl (s : State) (v : Word) : State :=
  let s1 := s.setRg pRNG 0x10 (v &&& 0x101)
  let low := bitAt v 8
  if low = s.rng.lowpwr then s1
  else s1.modRng fun r =>
    { r with lowpwr := low,
             srcs := r.srcs.mapIdx fun i x =>
               if i < 2 then x
               else if low then { x with run := false, startup := false }
               else { ({} : RngSrc) with rct := x.rct, apt := x.apt } }

/-- The value RESEED_CAP takes (R161). -/
def clampCap (v : Word) : Word := wd (max 1024 (min 0x100000 (fld v 0 21)))

/-- An instance of a reset instance page returns to uninstantiated (R157). -/
def State.rngDrop (s : State) (nn : Nat) : State :=
  s.modRng fun r => { r with insts := tdel r.insts (20 + nn) }

end Sys2Proof.Machine
end

