-- ==== Sys2Proof/Machine/StaveCtl.lean ====
section
/-!
DEFINITION. The Staves (chapter "Stave public-key multipliers", R228–R251): operand RAM, parameter sets,
commands with their checks, hidden words and taint, RELEASE and clearing. Unit 4 is STAVE-L.
-/
namespace Sys2Proof.Machine

/-- FORMAT (R232, R233; notes/assumptions/23.md for the fields each operation uses). -/
def StaveCmd.badFormat (c : StaveCmd) (island : Bool) : Bool :=
  let noAB := c.a != 0 || c.ca || c.b != 0 || c.cb
  let noSC := c.sub || c.clr
  c.resv ||
  (match c.op with
   | 1 | 2 => c.x != 0 || (if c.bitsel then c.cb || c.d / 64 % 64 != 0 else c.d != 0)
   | 3 => noAB || noSC || c.x != 0 || c.pset != 0 || c.half || c.d / 256 != 0 || c.d % 256 = 0 ||
       128 < c.d % 256
   | 4 | 5 => noAB || noSC || c.x / 4 != 0 || c.x % 4 == 3
   | 6 => noAB || noSC || c.x / 2 != 0 || island
   | 7 => noSC || c.x / 8 != 0
   | _ => true)

/-- RANGE: past the last word, or a constant entry not listed (R228, R230, R251). A point of INPUT that CB takes from the
constant ROM is entry B with entry B + 1, as the base point's coordinates stand (DESIGN CHOICE;
notes/assumptions/81.md). -/
def StaveCmd.badRange (c : StaveCmd) (last : Nat) : Bool :=
  (c.reads ++ c.writes).any (fun r => last < r.1 + r.2) ||
  ((c.op == 1 || c.op == 2 || c.op == 7) &&
    ((c.ca && (staveConst c.pset c.w c.a).isNone) || (c.cb && (staveConst c.pset c.w c.b).isNone) ||
      (c.op == 7 && c.x % 4 == 3 && c.cb && (staveConst c.pset c.w (c.b + 1)).isNone)))

/-- PSET: not listed, HALF on an EC set, STAVE-L's single set, or a hidden operand of another key type
(R229, R238, R251), the hidden p, q and e of an RSA check among them (R243). -/
def StaveCmd.badPset (c : StaveCmd) (t : StaveSt) (island : Bool) : Bool :=
  c.op != 3 &&
  ((psetWidth c.pset).isNone || (c.half && c.pset < 8) || (island && c.pset != 1) ||
   (match t.bind with
    | some (_, _, typ) =>
      ((rangesGranules c.reads).any (fun g => t.hidden.contains g) || (c.op == 7 && c.x % 4 == 1 && 0x20 ≤ typ)) &&
        !(psetTypes c.pset).contains typ
    | none => false))

/-- The kind of RELEASE that the claim's binding allows (R242): an AES or HMAC key allows none. -/
def StaveSt.kindAllowed (t : StaveSt) (kind : Nat) : Bool :=
  match t.bind with
  | none => kind == 0
  | some (_, p, typ) =>
    if 0x20 ≤ typ then kind == 1 && (p == 1 || p == 2)
    else if typ < 0x10 then false
    else if p = 1 then kind == 2 else if p = 3 then kind == 3 else false

/-- The checks a command meets as it starts, in the order of the codes (R238). -/
def StaveCmd.check (c : StaveCmd) (t : StaveSt) (n : Nat) : Option Nat :=
  if c.badFormat (n == 4) then some 1
  else if c.badRange (staveWords n) then some 2
  else if c.badPset t (n == 4) then some 3
  else if (c.op == 5 || c.op == 6) && (rangesGranules c.writes).any (fun g => t.hidden.contains g) then some 4
  else if c.op = 7 && !t.kindAllowed (c.x % 4) then some 6
  else none

/-! ### Operand RAM -/

/-- The value of `w` bits at a word. -/
def State.staveVal (s : State) (n k w : Nat) : Nat := leNat (s.peek (staveBase n + 8 * k) (w / 8))

/-- A value of `w` bits written at a word. -/
def State.staveStore (s : State) (n k w v : Nat) : State :=
  (s.poke (staveBase n + 8 * k) (leBytes (w / 8) v)).modStave n fun t =>
    { t with written := addAll t.written (granulesOf k (w / 64)) }

/-- The width of the accumulator (R231). -/
def accBits : Nat := 8256

/-- ACC as a signed number. -/
def accInt (v : Nat) : Int := sext v accBits

/-- A signed number as ACC. -/
def accOf (i : Int) : Nat := (i % (2 ^ accBits : Nat)).toNat

/-- The first failure of a claim sets RESULT; the claim is then in error (R238). -/
def State.staveFail (s : State) (n code seq : Nat) : State :=
  let pg := pSTAVE n
  let s1 := if (s.stave n).error then s else s.setRg pg 0x128 (wd (code + at' (seq % 0x10000) 16))
  s1.modStave n fun t => { t with error := true }

/-- Operands A and B of a command. -/
def State.staveA (s : State) (n : Nat) (c : StaveCmd) : Nat :=
  if c.ca then (staveConst c.pset c.w c.a).getD 0 else s.staveVal n c.a c.w

def State.staveB (s : State) (n : Nat) (c : StaveCmd) : Nat :=
  if c.bitsel then b01 ((s.staveVal n c.b 64).testBit (c.d % 64))
  else if c.cb then (staveConst c.pset c.w c.b).getD 0 else s.staveVal n c.b c.w

/-- Some granule a command reads is hidden or tainted (R241). -/
def StaveSt.dirtyRead (t : StaveSt) (c : StaveCmd) : Bool :=
  (rangesGranules c.reads).any fun g => t.hidden.contains g || t.taint.contains g

/-- MUL and MULLO (R233, R241). -/
def State.staveMul (s : State) (n : Nat) (c : StaveCmd) (low : Bool) : State :=
  let p := s.staveA n c * s.staveB n c
  let q : Int := ((if low then p % 2 ^ c.w else p : Nat) : Int)
  let t := s.stave n
  let base : Int := if c.clr then 0 else accInt t.acc
  s.setStave n { t with acc := accOf (if c.sub then base - q else base + q),
                        accTaint := t.dirtyRead c || (!c.clr && t.accTaint) }

/-- SHIFT (R233). -/
def State.staveShift (s : State) (n : Nat) (c : StaveCmd) : State :=
  s.modStave n fun t => { t with acc := accOf (accInt t.acc / (2 ^ (64 * (c.d % 256)) : Nat)) }

/-- LDACC (R233, R241). -/
def State.staveLdacc (s : State) (n : Nat) (c : StaveCmd) : State :=
  let t := s.stave n
  s.setStave n { t with acc := accOf (sext (s.staveVal n c.d c.lenBits) c.lenBits),
                        accTaint := t.dirtyRead c }

/-- STACC (R233, R241). -/
def State.staveStacc (s : State) (n : Nat) (c : StaveCmd) : State :=
  let t := s.stave n
  (s.staveStore n c.d c.lenBits (t.acc % 2 ^ c.lenBits)).modStave n fun u =>
    if t.accTaint then { u with taint := addAll u.taint (rangesGranules c.writes) } else u

/-- RAND (R233, R241, R247): false while the wire presents NOT_READY or WAIT; it then runs and waits. -/
def State.staveRand (s : State) (n : Nat) (c : StaveCmd) : State × Bool :=
  let t := s.stave n
  let seq := (s.rg (pSTAVE n) 0x120).toNat
  let mark (s1 : State) (taint : Bool) : State :=
    s1.modStave n fun u =>
      { u with ranRand := true, randing := false,
               taint := if taint then addAll u.taint (rangesGranules c.writes) else u.taint }
  let fail (s1 : State) : State :=
    (if t.clearing then s1 else s1.staveFail n 9 seq).modStave n fun u => { u with randing := false }
  if t.marked then (mark (s.staveStore n c.d c.w 0) true, true)
  else if s.rng.fault then (fail s, true)
  else
    match s.wireDraw (5 + n) (c.w / 8) with
    | (s1, 0, bs) => (mark (s1.staveStore n c.d c.w (leNat bs)) (c.x % 2 == 1), true)
    | (s1, 3, _) => (fail s1, true)
    | (s1, _, _) => (s1.modStave n fun u => { u with randing := true }, false)

/-- The exact checks of R243. The RSA components lie where the injection placed them (R240). -/
def State.staveHolds (s : State) (n : Nat) (c : StaveCmd) : Bool :=
  let t := s.stave n
  let w := c.w
  match c.x % 4 with
  | 0 => true
  | 1 =>
    let full := (psetWidth c.pset).getD 0
    let k := 8 * (t.hidden.foldl min 1024)
    let hw := full / 128
    let p := s.staveVal n k (full / 2)
    let q := s.staveVal n (k + hw) (full / 2)
    let e := s.staveVal n (k + 5 * hw) 64 % 2 ^ 32
    e % 2 == 1 && 3 ≤ e && p * q != 0 &&
      powMod (p * q) 32 (s.staveVal n c.d w) e == s.staveA n c
  | 2 => s.staveA n c == s.staveB n c
  | _ =>
    let point (x y : Nat) : Bool :=
      match curveOf c.pset with
      | some cv =>
        let r := 2 ^ w % cv.p
        x < cv.p && y < cv.p &&
          y * y * r % cv.p == (x * x * x + cv.a * x * r * r + cv.b * r * r * r) % cv.p
      | none =>
        x != 0 && y * y % p25519 == (x * x * x + 486662 * x * x + x) % p25519
    let entry (k : Nat) : Nat := (staveConst c.pset w k).getD 0
    let at_ (k : Nat) : Bool := point (s.staveVal n k w) (s.staveVal n (k + c.words) w)
    at_ c.d && (!c.x.testBit 2 || (if c.cb then point (entry c.b) (entry (c.b + 1)) else at_ c.b))

/-- RELEASE (R242–R244, R247). -/
def State.staveRelease (s : State) (n : Nat) (c : StaveCmd) : State :=
  let t := s.stave n
  let pg := pSTAVE n
  let seq := (s.rg pg 0x120).toNat
  if t.marked then (s.staveFail n 8 seq).staveStartClear n false true
  else if s.staveHolds n c then
    s.modStave n fun u =>
      { u with taint := u.taint.filter fun g => !(granulesOf c.d c.regionWords).contains g }
  else
    let s1 := (s.staveFail n 7 seq).staveStartClear n false true
    (((s1.err pg 18).irq pg 1).cnt pg 0x134).alarm (2 ^ 25)

/-- The command at the front of the queue runs if it is the named operation (R233, R234, R238). A claim in
error discards it; a clearing lets none start, but a RAND that runs end (R245). -/
def State.staveRun (s : State) (n op : Nat) : State :=
  let t := s.stave n
  match t.claim, t.queue with
  | some _, (lo, hi) :: rest =>
    let c := staveCmd lo hi
    if (t.clearing && !t.randing) || c.op ≠ op || (n < 4 && s.tamp.halted) then s
    else
      let pop (s1 : State) : State := s1.modStave n fun u => { u with queue := u.queue.drop 1 }
      if t.error && !t.randing then (s.setStave n { t with queue := rest }).staveDone n false
      else
        match if t.randing then none else c.check t n with
        | some code => (pop (s.staveFail n code (s.rg (pSTAVE n) 0x120).toNat)).staveDone n false
        | none =>
          match op with
          | 1 => (pop (s.staveMul n c false)).staveDone n true
          | 2 => (pop (s.staveMul n c true)).staveDone n true
          | 3 => (pop (s.staveShift n c)).staveDone n true
          | 4 => (pop (s.staveLdacc n c)).staveDone n true
          | 5 => (pop (s.staveStacc n c)).staveDone n true
          | 6 => (match s.staveRand n c with | (s1, true) => (pop s1).staveDone n true | (s1, false) => s1)
          | 7 => (pop (s.staveRelease n c)).staveDone n true
          | _ => s
  | _, _ => s

/-- A command whose OP is none of R233 at the front of the queue completes with FORMAT. -/
def State.staveSkipBad (s : State) (n : Nat) : State :=
  match (s.stave n).queue with
  | (_, hi) :: _ =>
    if 1 ≤ fld hi 16 4 && fld hi 16 4 ≤ 7 then s else s.staveRun n (fld hi 16 4)
  | [] => s

/-- Commands of unlisted operations complete one after another as they reach the front. -/
def State.staveSkipAll (s : State) (n : Nat) : Nat → State
  | 0 => s
  | k + 1 => (s.staveSkipBad n).staveSkipAll n k

/-! ### The page -/

/-- The writer is the claimant; otherwise ERR.CLAIM (R235). -/
def State.staveOwned (s : State) (a n : Nat) : Bool := (s.stave n).claim == some a

/-- A command enters the queue (R237); one whose operation R233 does not list completes at once when it
reaches the front. -/
def State.staveEnter (s : State) (n : Nat) (lo hi : Word) : State :=
  ((s.modRg (pSTAVE n) 0x11C fun v => v + 1).modStave n fun t => { t with queue := t.queue ++ [(lo, hi)] }).staveSkipBad n

/-- A command has left the queue, or a clearing has ended: what reaches the front. -/
def State.staveUnhold (s : State) (n : Nat) : State := s.staveSkipAll n (s.stave n).queue.length

/-- The claimant's store to CMD_HI waits for a place in the queue (R236). -/
def State.staveFull (s : State) (a n : Nat) : Bool :=
  (s.stave n).claim == some a && 16 ≤ (s.stave n).queue.length && (s.stave n).list.isNone

/-- A write of CMD_HI, for which the queue has a place (R236, R237). -/
def State.staveCmdHi (s : State) (n : Nat) (v : Word) : State :=
  if (s.stave n).list.isSome then s.err (pSTAVE n) 17 else s.staveEnter n (s.rg (pSTAVE n) 0x104) v

/-- A write of CLAIM (R235). -/
def State.staveClaim (s : State) (a n : Nat) (v : Word) : State :=
  let pg := pSTAVE n
  let t := s.stave n
  let cls := classOf a
  if bitAt v 0 then
    (if cls != .sys && cls != .keyd && n ≠ 4 then s.err pg 3
     else match t.claim with
       | some b => if b = a then s else s.err pg 16
       | none =>
         (((s.setRg pg 0x11C 0).setRg pg 0x120 0).setRg pg 0x128 0).setStave n
           { ({} : StaveSt) with ready := t.ready, claim := some a, rngf := t.rngf })
  else if t.claim = some a then s.staveStartClear n true false
  else if t.claim.isSome then s.err pg 16
  else s

/-- A write of LIST_LEN (R236): the length is bits [12:0]. -/
def State.staveListLen (s : State) (n : Nat) (v : Word) : State :=
  let pg := pSTAVE n
  let t := s.stave n
  let addr := (s.rg pg 0x10C).toNat + fld (s.rg pg 0x110) 0 8 * 2 ^ 32
  let len := fld v 0 13
  if t.list.isSome then s.err pg 17
  else if len = 0 || 4096 < len || addr % 8 ≠ 0 then s.staveFail n 1 (s.rg pg 0x11C).toNat
  else s.setStave n { t with list := some (addr, len) }

/-- Commands of a list enter the queue. -/
def State.staveEnterAll (s : State) (n : Nat) (ws : List (List Byte)) : State :=
  ws.foldl (fun (u : State) w => u.staveEnter n (wordOf w) (wordOf (w.drop 4))) s

/-- A burst of list commands is fetched as the claimant, as queue places free (R236). -/
def State.staveListFetch (s : State) (n : Nat) : State :=
  let t := s.stave n
  match t.claim, t.list with
  | some a, some (addr, left) =>
    let k := min (16 - t.queue.length) left
    if k = 0 || t.clearing || (n < 4 && s.tamp.halted) then s
    else
      let r := s.engRead a addr (8 * k)
      if r.fault ≠ .none then
        (r.st.staveFail n 5 (r.st.rg (pSTAVE n) 0x11C).toNat).modStave n fun u => { u with list := none }
      else
        let s1 := r.st.modStave n fun u =>
          { u with list := if left = k then none else some (addr + 8 * k, left - k) }
        s1.staveEnterAll n (chunks 8 r.data)
  | _, _ => s

/-- A write of ABORT (R245): RESULT reads OK and the claim continues once cleared. -/
def State.staveAbort (s : State) (n : Nat) (v : Word) : State :=
  if bitAt v 0 then
    ((s.setRg (pSTAVE n) 0x128 0).staveStartClear n false false).modStave n fun t => { t with error := false, gone := false }
  else s

/-- The clearing ends (R245): every granule written in the claim is overwritten with output of the unit's
wire and then with zeros; it waits for the wire while that presents NOT_READY or WAIT, and for a command that runs
(notes/assumptions/24.md). A claim whose slot was zeroized then reads ABORTED and is in error (R246); one that goes on
keeps its mark (R247). What entered the queue of a claim that ends is discarded. -/
def State.staveCleared (s : State) (n : Nat) : State :=
  let t := s.stave n
  if !t.clearing || t.randing then s
  else
    let r := if n = 4 || s.rng.fault then (s, 0, ([] : List Byte)) else s.wireDraw (5 + n) 64
    if r.2.1 = 1 || r.2.1 = 2 then r.1
    else
      let s1 := t.written.foldl (fun (u : State) g => u.poke (staveBase n + 64 * g) (zeros 64)) r.1
      let left := if t.ending then t.queue else []
      let s2 := left.foldl (fun (u : State) _ => u.staveDone n false) s1
      let s3 := if t.gone && !t.ending then
          s2.setRg (pSTAVE n) 0x128 (wd (10 + at' (fld (s2.rg (pSTAVE n) 0x120) 0 16) 16))
        else s2
      (s3.setStave n
        { t with acc := 0, accTaint := false, hidden := [], taint := [], written := [], bind := none,
                 clearing := false, ending := false, gone := false, srst := false,
                 ranRand := t.ranRand && !t.ending, marked := t.marked && !t.ending,
                 claim := if t.ending then none else t.claim,
                 queue := if t.ending then [] else t.queue,
                 error := (t.error || t.gone) && !t.ending }).irq (pSTAVE n) 2

/-- The bound slot was zeroized (R246): the claim is cleared. -/
def State.staveSlotGone (s : State) (slot : Nat) : State :=
  (List.range 4).foldl (fun (u : State) n =>
    match (u.stave n).bind with
    | some (sl, _, _) =>
      if sl = slot then (u.staveStartClear n false false).modStave n fun t => { t with gone := true } else u
    | none => u) s

/-- A zeroization waits for a Stave that still holds a slot's material (R187, R246). -/
def State.staveHoldsSlot (s : State) (slot : Nat) : Bool :=
  (List.range 4).any fun n =>
    match (s.stave n).bind with | some (sl, _, _) => sl == slot | none => false

/-- Block reset (R248): a claim is cleared and then the unit is free; until then READY reads 0 (R511). -/
def State.staveBlockReset (s : State) (n : Nat) : State :=
  (s.staveStartClear n true false).modStave n fun t => { t with srst := t.claim.isSome }

/-- Warm or cold reset, or power switched on (R228, R248): operand RAM and ACC are zero, the unit free. -/
def State.staveFresh (s : State) (n : Nat) : State :=
  ({ s with mem := memClear s.mem (staveBase n) (8 * staveWords n) }).setStave n {}

/-- A write to a register of a Stave page (R235–R237, R245). -/
def State.staveWrite (s : State) (a n off : Nat) (v : Word) : State :=
  let pg := pSTAVE n
  let held := (s.stave n).claim.isSome && !s.staveOwned a n
  if off = 0x100 then s.staveClaim a n v
  else if held && (off == 0x104 || off == 0x108 || off == 0x10C || off == 0x110 || off == 0x114 ||
      off == 0x124 || off == 0x12C) then s.err pg 16
  else if off = 0x108 then (if (s.stave n).claim.isSome then s.staveCmdHi n v else s)
  else if off = 0x114 then (if (s.stave n).claim.isSome then s.staveListLen n v else s)
  else if off = 0x12C then s.staveAbort n v
  else if off = 0x110 then s.setRg pg off (v &&& 0xFF)
  else s.setRg pg off v

end Sys2Proof.Machine
end

