-- ==== Sys2Proof/Machine/UnitWork.lean ====
section
/-!
DEFINITION. The contexts and segments of Press and digest units and their order of service (R201, R202, R222), and the
device's own work, which runs on a unit as an ordinary context (R183, R190, R226). Units 0–3 are PRESS0–3, units 4–9
DIGEST0–5.
-/
namespace Sys2Proof.Machine

def State.setUnit (s : State) (u : Nat) (t : UnitSt) : State := { s with units := tset s.units u t }

def State.modUnit (s : State) (u : Nat) (f : UnitSt → UnitSt) : State := s.setUnit u (f (s.unit u))

/-- The page of a unit. -/
def unitPage (u : Nat) : Nat := if u < 4 then pPRESS u else pDIGEST (u - 4)

/-- The RNG client a unit's clearing draws on (R155, R208, R224). -/
def unitClient (u : Nat) : Nat := if u < 4 then u else 4

/-- A descriptor of R193 or R215, the fields both share taken apart. -/
structure Desc where
  op : Nat
  alg : Nat
  first : Bool
  final : Bool
  binv : Bool
  irq : Bool
  bin : Nat
  inst : Nat
  seglen : Nat
  tot : Nat
  src : Nat
  dst : Nat
  key : Nat
  deriving DecidableEq, Repr

def descOf (press : Bool) (d : List Byte) : Desc :=
  let f := byteAt d 2
  if press then
    { op := leAt d 0 1, alg := leAt d 1 1, first := f.getLsbD 1, final := f.getLsbD 2, binv := f.getLsbD 5,
      irq := f.getLsbD 6, bin := leAt d 8 2, inst := leAt d 10 1, seglen := leAt d 12 4,
      tot := leAt d 16 8, src := leAt d 32 5, dst := leAt d 40 5, key := leAt d 4 2 }
  else
    { op := leAt d 0 1, alg := leAt d 1 1, first := f.getLsbD 1, final := f.getLsbD 2, binv := f.getLsbD 5,
      irq := f.getLsbD 6, bin := leAt d 8 2, inst := leAt d 10 1, seglen := leAt d 12 4,
      tot := leAt d 16 8, src := leAt d 24 5, dst := leAt d 32 5, key := leAt d 4 2 }

def unitDesc (u : Nat) (d : List Byte) : Desc := descOf (u < 4) d

/-- Bytes of a descriptor, and where RESULT, OUTLEN and CONSUMED stand. -/
def descLen (u : Nat) : Nat := if u < 4 then 96 else 64

def resultOff (u : Nat) : Nat := if u < 4 then 80 else 40

/-! ### Places -/

/-- The place of a bin's context on a unit. -/
def UnitSt.placeOf (t : UnitSt) (b : Nat) : Option Nat :=
  (t.ctxs.find? fun e => e.2.bin == some b).map (·.1)

/-- A free place of the 16. -/
def UnitSt.freePlace (t : UnitSt) : Option Nat := firstBelow 16 fun k => (tfind t.ctxs k).isNone

def UnitSt.ctx (t : UnitSt) (k : Nat) : Ctx := tget {} t.ctxs k

def State.setCtx (s : State) (u k : Nat) (c : Ctx) : State :=
  s.modUnit u fun t => { t with ctxs := tset t.ctxs k c }

/-! ### Segments -/

/-- A prepared segment replaced, found by its stamp. -/
def State.setSeg (s : State) (u : Nat) (old : Nat) (g : Segment) : State :=
  s.modUnit u fun t => { t with segs := t.segs.map fun h => if h.stamp == old then g else h }

/-- A prepared segment joins the unit. -/
def State.addSeg (s : State) (u : Nat) (g : Segment) : State :=
  s.modUnit u fun t => { t with segs := t.segs ++ [{ g with stamp := t.stamp }], stamp := t.stamp + 1 }

/-- A segment leaves the unit. -/
def State.dropSeg (s : State) (u : Nat) (g : Segment) : State :=
  s.modUnit u fun t => { t with segs := t.segs.filter fun h => !(h.addr == g.addr && h.stamp == g.stamp) }

/-- Two segments belong to one job: they share its place on chip, or name its bin. -/
def Segment.sameJob (g h : Segment) : Bool :=
  (g.ctx.isSome && g.ctx == h.ctx) || ((descBin g.desc).isSome && descBin g.desc == descBin h.desc)

/-- No earlier segment of its job is left (R200). -/
def UnitSt.isHead (t : UnitSt) (g : Segment) : Bool := t.segs.find? (fun h => h == g || h.sameJob g) == some g

/-- The first segment in order that has ended, with no earlier one of its job left. -/
def UnitSt.ended (t : UnitSt) : Option Segment :=
  t.segs.find? fun g => g.own.isNone && g.code.isSome && t.isHead g

/-- The first segment in order that is due to complete: it has an outcome, or its input is all taken. -/
def UnitSt.due (t : UnitSt) : Option Segment :=
  t.segs.find? fun g => g.own.isNone && (g.code.isSome || g.ran) && t.isHead g

/-! ### Scheduling (R202) -/

/-- The first prepared segment of a context that has not ended. -/
def UnitSt.nextSeg (t : UnitSt) (k : Nat) : Option Segment :=
  match t.segs.find? fun g => g.ctx == some k with
  | some g => if g.code.isNone && !g.waitIv && !g.ran && (descOf true g.desc).op < 0x10 then some g else none
  | none => none

/-- The ready context whose segment has waited longest (notes/assumptions/29.md). -/
def UnitSt.pick (t : UnitSt) : Option (Nat × Segment) :=
  t.ctxs.foldl (fun (best : Option (Nat × Segment)) e =>
    match t.nextSeg e.1 with
    | none => best
    | some g =>
      match best with
      | some (_, h) => if g.stamp < h.stamp then some (e.1, g) else best
      | none => some (e.1, g)) none

/-- A quantum in bytes for an instance tag (R202, R203). -/
def State.quantum (s : State) (u inst : Nat) : Nat :=
  let pg := unitPage u
  let v := if inst < 64 then s.rg pg (0x200 + 4 * inst) else s.rg pg 0x134
  256 * max 1 (fld v 0 9)

/-- Input bytes of a quantum of `q` bytes that ends on a block boundary, with `have_` bytes of the block taken: at
least to the next boundary (R202, R222). -/
def quantumBytes (q have_ block : Nat) : Nat :=
  let whole := (q + have_) / block * block
  if whole ≤ have_ then block - have_ % block else whole - have_

/-- The clearing of R208 and R224: the overwriting pattern is drawn first; false while the wire presents NOT_READY or
WAIT (notes/assumptions/28.md). -/
def State.clearDraw (s : State) (u : Nat) : State × Bool :=
  if s.rng.fault then (s, true)
  else
    match s.wireDraw (unitClient u) 64 with
    | (t, 0, _) => (t, true)
    | (t, 3, _) => (t, true)
    | (t, _, _) => (t, false)

/-! ### The device's own work -/

/-- A mismatch of a unit's duplicated or inverse computation is recorded (R207, R223). -/
def State.faultRecord (s : State) (u : Nat) (c : Ctx) : State :=
  let pg := unitPage u
  let info := c.bin.getD 0xFFFF + at' (if u < 4 then c.mode else c.alg) 16 +
    (if u < 4 then flagAt c.inv 24 + flagAt (c.alg == 2) 25 else 0) + 0x80000000
  let s1 := s.modRg pg 0x128 fun v => if bitAt v 31 then setBitW v 30 else wd info
  ((s1.err pg 16).irq pg 1).alarm (2 ^ (if u < 4 then 23 else 24))

/-- The segment of own work on a unit. -/
def UnitSt.ownSeg (t : UnitSt) (w : OwnWork) : Option Segment := t.segs.find? fun g => g.own == some w

/-- Where own work stands: its unit and segment. -/
def State.ownAt (s : State) (w : OwnWork) : Option (Nat × Segment) :=
  (List.range 10).findSome? fun u => ((s.unit u).ownSeg w).map fun g => (u, g)

/-- Own work takes a free place of the first of its units that has one (R183, R226), with its key material; else it
waits for a place. `len` is its input in bytes. -/
def State.ownStart (s : State) (w : OwnWork) (us : List Nat) (c : Ctx) (len : Nat) : State :=
  if (s.ownAt w).isSome then s
  else
    match us.find? fun u => (s.unit u).freePlace.isSome && !(s.unit u).resetting with
    | none =>
      us.foldl (fun (t : State) u => t.modUnit u fun x =>
        { x with wants := if x.wants.contains w then x.wants else x.wants ++ [w] }) s
    | some u =>
      let s1 := us.foldl (fun (t : State) v =>
        if (t.unit v).wants = [] then t else t.modUnit v fun x => { x with wants := x.wants.filter (· != w) }) s
      match (s1.unit u).freePlace with
      | none => s1
      | some k =>
        let s2 := s1.setCtx u k { c with used := (s1.unit u).stamp, totlen := len }
        s2.addSeg u { addr := 0, agent := c.agent, desc := [], ctx := some k, own := some w }

/-- The bin of a flow's frame that is on its unit. -/
def StrmSt.binOf (t : StrmSt) (n : Nat) : Option Nat :=
  t.frames.findSome? fun y => if y.stage == 3 && leAt y.bytes 2 2 == n then y.flow.map (·.bin) else none

/-- One quantum of own work (R202): it touches no memory. A frame of a stream flow runs to its end (R190). -/
def State.ownQuantum (s : State) (u k : Nat) (g : Segment) (fault : Bool) : State :=
  let c := (s.unit u).ctx k
  if fault then
    let b := match g.own with | some (.flow n) => s.strm.binOf n | _ => none
    (s.faultRecord u { c with bin := b }).setSeg u g.stamp { g with code := some 16 }
  else
    let left := c.totlen - g.taken
    let n := match g.own with | some (.flow _) => left | _ => min (s.quantum u 0x7F) left
    let s1 := s.modUnit u fun t =>
      { t with ctxs := tset t.ctxs k { c with used := t.stamp, consumed := c.consumed + n }, stamp := t.stamp + 1,
               running := if n = left then none else some (k, n) }
    let g1 := { g with taken := g.taken + n, ran := n == left, stamp := (s1.unit u).stamp }
    (s1.setSeg u g.stamp g1).modUnit u fun t => { t with stamp := t.stamp + 1 }

/-- A quantum of own work where its unit's turn is its, with a mismatch or without (R207). -/
def State.ownTurn (s : State) (w : OwnWork) (fault : Bool) : State :=
  match s.ownAt w with
  | some (u, _) =>
    match (s.unit u).pick with
    | some (k, g) => if g.own = some w then s.ownQuantum u k g fault else s
    | none => s
  | none => s

/-- Own work leaves its place. -/
def State.ownDrop (s : State) (w : OwnWork) : State :=
  match s.ownAt w with
  | some (u, g) =>
    s.modUnit u fun t =>
      { t with segs := t.segs.filter fun h => h.own != some w,
               ctxs := match g.ctx with | some k => tdel t.ctxs k | none => t.ctxs,
               running := if t.running.any (fun r => some r.1 == g.ctx) then none else t.running }
  | none => s

/-- How far own work has got. -/
inductive OwnAns where
  /-- It has no place yet, or its unit runs other contexts. -/
  | waits
  /-- It has run: its key material, none where the slot has changed since (R204). -/
  | ran (mats : Option (List Byte))
  /-- A mismatch ended it (R207, R223). -/
  | fault
  deriving DecidableEq, Repr

/-- Own work that has ended gives its place back: after a mismatch once its context has been overwritten (R208). -/
def State.ownTake (s : State) (w : OwnWork) : State × OwnAns :=
  match s.ownAt w with
  | none => (s, .waits)
  | some (u, g) =>
    if g.code = some 16 then
      (let r := s.clearDraw u
       if r.2 then (r.1.ownDrop w, .fault) else (r.1, .waits))
    else if g.ran then
      (s.ownDrop w, .ran (match g.ctx with | some k => ((s.unit u).ctx k).mats.map (·.1) | none => none))
    else (s, .waits)

/-- Own work asks for a place, runs where it is its turn, and ends. -/
def State.ownRun (s : State) (w : OwnWork) (us : List Nat) (c : Ctx) (len : Nat) (fault : Bool := false) :
    State × OwnAns :=
  ((s.ownStart w us c len).ownTurn w fault).ownTake w

/-- Own work is under way on a unit, or waits for it. -/
def UnitSt.ownBusy (t : UnitSt) : Bool := t.wants != [] || t.segs.any fun g => g.own.isSome

end Sys2Proof.Machine
end

