-- ==== Sys2Proof/Machine/KeyCtl.lean ====
section
/-!
DEFINITION. The key store (chapter "Key store and key hierarchy", R168–R189): slots, the judgement of a
use, the management commands, class keys, and injection into Stave operand RAM.
-/
namespace Sys2Proof.Machine

def State.modKey (s : State) (f : KeySt → KeySt) : State := { s with key := f s.key }

/-- The device serial number of the device information row (R175; notes/assumptions/25.md). -/
def serialBytes : List Byte := (List.range 8).map fun i => Config.infoByte (0x10800000 + i)

/-- The records of a change from a SEQ on: material over 992 bytes travels in two (R431). -/
def recordsOf (seq kind target flags : Nat) (body : List Byte) : List TwinChange :=
  if kind = 1 && 1004 < body.length then
    [{ seq := seq, kind := kind, target := target, body := body.take 1004, flags := flags + 2 },
      { seq := seq + 1, kind := kind, target := target, body := body.drop 1004, flags := flags % 8 + 4 }]
  else [{ seq := seq, kind := kind, target := target, body := body, flags := flags }]

/-- A record is queued for the journal with the next SEQ. -/
def State.putRecord (s : State) (kind target flags : Nat) (body : List Byte) : State :=
  let rs := recordsOf (s.twinSeq + 1) kind target flags body
  { s with twinSeq := s.twinSeq + rs.length, changes := s.changes ++ rs }

/-- A change is journalled while the twin replicates (R189, R430): it takes the next SEQ. -/
def State.noteChange (s : State) (kind target : Nat) (body : List Byte) : State :=
  if s.twinRepl then s.putRecord kind target 0 body else s

/-! ### Slots -/

/-- The backup mask repeated over a row (R448). -/
def maskRow (mask : List Byte) (n : Nat) : List Byte :=
  (List.range n).map fun i => byteAt mask (i % 32)

/-- The material of a slot: battery rows are stored XORed with the backup mask (R448). -/
def State.slotMat (s : State) (n : Nat) : List Byte :=
  match s.slot n with
  | none => []
  | some k =>
    if n < 32 then xorBytes (fitTo k.len (tget [] s.tamp.batRam n)) (maskRow s.tamp.batMask k.len)
    else k.mat

/-- A slot filled. -/
def State.putSlot (s : State) (n : Nat) (k : KeySlot) : State :=
  if n < 32 then
    { s with key := { s.key with slots := tset s.key.slots n { k with mat := [] } },
             tamp := { s.tamp with
               batRam := tset s.tamp.batRam n (xorBytes k.mat (maskRow s.tamp.batMask k.mat.length)) } }
  else s.modKey fun g => { g with slots := tset g.slots n k }

/-- A slot's body in a replication record: attributes, owner, length, material (R431). -/
def State.slotBody (s : State) (n : Nat) : List Byte :=
  match s.slot n with
  | some k => leBytes 4 k.attr ++ leBytes 4 k.owner ++ leBytes 4 k.len ++ s.slotMat n
  | none => leBytes 4 (at' 0x7F 17) ++ zeros 8

/-- A change of a slot is replicated (R189). -/
def State.noteSlot (s : State) (n : Nat) : State := s.noteChange 1 n (s.slotBody n)

/-- Every on-chip context that holds a slot's material drops it (R204). -/
def State.dropMaterial (s : State) (n : Nat) : State :=
  { s with units := tmap s.units fun _ u =>
      { u with ctxs := tmap u.ctxs fun _ c =>
          if c.mode != 0 && (c.key == n || (c.key2 == n && c.mode == 7)) then { c with mats := none }
          else c } }

/-- The granules of zeroized slots are overwritten from the wire and then with zeros, or with zeros alone after an RNG
fault (R187); the store waits while the wire presents NOT_READY or WAIT (R158, R160). -/
def State.keyScrub (s : State) : State :=
  if s.key.scrub = 0 then s
  else
    let w := if s.rng.fault then (s, 0, ([] : List Byte)) else s.wireDraw 4 (64 * s.key.scrub)
    if w.2.1 = 1 || w.2.1 = 2 then w.1 else w.1.modKey fun g => { g with scrub := 0 }

/-- A slot zeroized (R187): empty at once, its material dropped by the engines, the Stave bound to it cleared, its
granules to be overwritten. Its attributes read as those of an empty slot at once (DESIGN CHOICE: R187 clears them after
the granules, and gives no value until then; notes/assumptions/82.md). -/
def State.zeroizeSlot (s : State) (n : Nat) : State :=
  match s.slot n with
  | none => s
  | some k =>
    let s1 := s.modKey fun g =>
      { g with slots := tdel g.slots n, scrub := g.scrub + (if n < 32 then 0 else slotGranules n k) }
    let s2 := if n < 32 then { s1 with tamp := { s1.tamp with batRam := tdel s1.tamp.batRam n } } else s1
    (((s2.dropMaterial n).staveSlotGone n).noteSlot n).keyScrub

/-- The general and battery slots of an instance. -/
def State.instSlots (s : State) (i : Nat) : List Nat :=
  (s.key.slots.filter fun e => e.1 ≤ 1015 && e.2.inst == i).map (·.1)

/-- Every general and battery slot of an instance zeroized (R187). -/
def State.zeroizeInst (s : State) (i : Nat) : State :=
  (s.instSlots i).foldl (fun (t : State) n => t.zeroizeSlot n) s

/-- What zeroized slots leave behind is gone: their granules are overwritten, and no Stave holds their material
(R187). -/
def State.slotsGone (s : State) (ns : List Nat) : Bool :=
  s.key.scrub == 0 && ns.all fun n => !s.staveHoldsSlot n

/-- Every slot cleared by an alarm or life-cycle zeroization (R188, R444). -/
def State.zeroizeAllSlots (s : State) : State :=
  let s1 := s.key.slots.foldl (fun (t : State) e => (t.dropMaterial e.1).staveSlotGone e.1) s
  { s1 with key := { s1.key with slots := [], run := none, scrub := 0 },
            tamp := { s1.tamp with batRam := [], batMask := zeros 32 } }

/-! ### Types and lengths (R170) -/

def keyTypeKnown (t : Nat) : Bool :=
  (1 ≤ t && t ≤ 5) || (0x10 ≤ t && t ≤ 0x15) || (0x20 ≤ t && t ≤ 0x22)

def keyLenOk (t len : Nat) : Bool :=
  match t with
  | 0x01 => len == 16 | 0x02 => len == 24 | 0x03 => len == 32 | 0x04 => len == 24
  | 0x05 => 16 ≤ len && len ≤ 128
  | 0x10 => len == 32 | 0x11 => len == 48 | 0x12 => len == 66 | 0x13 => len == 32 | 0x14 => len == 32
  | 0x15 => len == 32 | 0x20 => len == 644 | 0x21 => len == 964 | 0x22 => len == 1284
  | _ => false

/-- A length allowed for a type in a slot: a battery slot holds at most 1,024 bytes. -/
def slotLenOk (n t len : Nat) : Bool := keyLenOk t len && (32 ≤ n || len ≤ 1024)

/-! ### Uses (R171–R173, R176) -/

/-- The verdict on a use. -/
inductive UseVerdict where
  | ok | wait | empty | type | usage | owner
  deriving DecidableEq, Repr

/-- An agent may carry a tag (R172). -/
def mayCarry (agent tag : Nat) : Bool :=
  tag == 0x7F || classOf agent == .sys || classOf agent == .keyd || agent == 0x40 + tag

/-- The tag an agent carries: an instance always its own (R172). -/
def carriedTag (agent named : Nat) : Nat := match instOf agent with | some i => i | none => named

/-- OWNER admits an agent (R169, R172). -/
def ownerAdmits (k : KeySlot) (agent : Nat) : Bool :=
  (k.inst != 0x7F && agent == 0x40 + k.inst) ||
    (if agent < 0x10 then k.owner.testBit agent
     else if agent = aKCORE then k.owner.testBit 16
     else if agent = aMCORE then k.owner.testBit 17 else false)

/-- The fixed users of the class slots (R176). -/
def State.classAdmits (s : State) (n agent tag : Nat) : Bool :=
  match n with
  | 1016 => agent == aMCORE && tag == 0x7F && !s.key.bootOff
  | 1017 => agent == aBIN
  | 1018 => (classOf agent == .sys || classOf agent == .keyd) && tag == 0x7F
  | 1019 | 1020 => agent == aKEY
  | _ => false

/-- A use of a slot judged on the edge its transfer starts (R171–R173): `typeOk` picks the types that fit,
`bit` is the usage bit needed. A class slot waits until the class keys are ready (R175); after that it is OWNER to
everyone but its users, whatever else is wrong (R176). -/
def State.judgeUse (s : State) (agent named n : Nat) (typeOk : Nat → Bool) (bit : Nat) : UseVerdict :=
  let tag := carriedTag agent named
  if 1016 ≤ n && !s.key.classReady then .wait
  else if 1016 ≤ n && !s.classAdmits n agent tag then .owner
  else
    match s.slot n with
    | none => .empty
    | some k =>
      if !typeOk k.typ then .type
      else if !k.usage.testBit bit then .usage
      else if 1016 ≤ n || (ownerAdmits k agent && tag == k.inst && mayCarry agent tag) then .ok
      else .owner

/-! ### Management commands -/

/-- Slot fields and attributes of the arguments. -/
def State.argSlot (s : State) : Nat := fld (s.rg pKEY 0x10C) 0 10
def State.argSlot2 (s : State) : Nat := fld (s.rg pKEY 0x10C) 16 10
def State.argInst (s : State) : Nat := fld (s.rg pKEY 0x110) 17 7
def State.argLen (s : State) : Nat := fld (s.rg pKEY 0x118) 0 16

/-- The slot that ARG1–ARG3 describe. -/
def State.argKey (s : State) (mat : List Byte) : KeySlot :=
  { typ := fld (s.rg pKEY 0x110) 0 8, len := s.argLen, usage := fld (s.rg pKEY 0x110) 8 9,
    owner := fld (s.rg pKEY 0x114) 0 18, inst := s.argInst, mat := mat }

/-- FORMAT of ARG1 (R178). -/
def State.argBad (s : State) : Bool :=
  (64 ≤ s.argInst && s.argInst ≤ 126) || fld (s.rg pKEY 0x110) 24 8 != 0

/-- The bytes of LOAD0–LOAD15. -/
def State.loadBytes (s : State) : List Byte :=
  (List.range 16).flatMap fun i => leBytes 4 (s.rg pKEY (0x180 + 4 * i)).toNat

/-- KEY.CFG.LOAD_MODE. -/
def State.loadMode (s : State) : Nat := fld (s.rg pKEY 0x100) 0 2

/-- Granules fit (NO_SPACE). -/
def State.spaceFor (s : State) (n len : Nat) : Bool :=
  n < 32 || s.granulesUsed + (len + 63) / 64 ≤ 1792

/-- What a command's work came to: its code, the slot it stored into and those it zeroized; or that it waits, with the
scalar draws rejected so far (R184); or that it goes on on PRESS0 with the blob it has read or the IV it has drawn. -/
inductive KeyAns where
  | done (code : Nat) (target : Option Nat) (slots : List Nat := [])
  | wait (tried : Nat := 0)
  | press (data : List Byte)

/-- The checks common to the commands that fill ARG0.SLOT from arguments: the first failing code. -/
def State.fillCheck (s : State) (mode : Nat) : Option Nat :=
  if s.loadMode < mode then some 2
  else if 1015 < s.argSlot then some 3
  else if s.argBad then some 11
  else if (s.slot s.argSlot).isSome then some 4
  else if !keyTypeKnown (fld (s.rg pKEY 0x110) 0 8) then some 7
  else none

/-- LOAD (R177, R178). -/
def State.keyLoad (s : State) : State × KeyAns :=
  match s.fillCheck 2 with
  | some c => (s, .done c none)
  | none =>
    let k := s.argKey (s.loadBytes.take s.argLen)
    if !slotLenOk s.argSlot k.typ k.len || 64 < k.len then (s, .done 8 none)
    else if !s.spaceFor s.argSlot k.len then (s, .done 6 none)
    else ((s.putSlot s.argSlot k).noteSlot s.argSlot, .done 0 (some s.argSlot))

/-- The order of a scalar type and its bytes (R184). -/
def scalarOrder (t : Nat) : Option Nat :=
  match t with
  | 0x10 => some p256.n | 0x11 => some p384.n | 0x12 => some p521.n | 0x15 => some bp256.n
  | _ => none

/-- X25519 clamping (RFC 7748). -/
def clamp25519 (bs : List Byte) : List Byte :=
  bs.mapIdx fun i b => if i = 0 then b &&& 248 else if i = 31 then (b &&& 127) ||| 64 else b

/-- What a draw of key material came to: the bytes, a code, or that the wire makes it wait with `left` draws left. -/
inductive DrawAns where
  | got (bs : List Byte)
  | fail (code : Nat)
  | wait (left : Nat)

/-- Scalars drawn until one lies between 1 and n − 1 (R184): at most `fuel` draws. -/
def State.drawScalar (s : State) (n len fuel : Nat) : State × DrawAns :=
  match fuel with
  | 0 => (s, .fail 16)
  | f + 1 =>
    match s.wireDraw 4 len with
    | (t, 0, bs) =>
      let v := leNat bs % 2 ^ (Nat.log2 n + 1)
      if 1 ≤ v && v < n then (t, .got (leBytes len v)) else t.drawScalar n len f
    | (t, 3, _) => (t, .fail 14)
    | (t, _, _) => (t, .wait (f + 1))

/-- The material of a key type drawn (R184). -/
def State.drawKey (s : State) (typ len fuel : Nat) : State × DrawAns :=
  match scalarOrder typ with
  | some n => s.drawScalar n len fuel
  | none =>
    match s.wireDraw 4 len with
    | (t, 0, bs) => (t, .got (if typ = 0x14 then clamp25519 bs else bs))
    | (t, 3, _) => (t, .fail 14)
    | (t, _, _) => (t, .wait fuel)

/-- GENERATE (R184), after `tried` rejected draws. -/
def State.keyGenerate (s : State) (tried : Nat) : State × KeyAns :=
  match s.fillCheck 1 with
  | some c => (s, .done c none)
  | none =>
    let k := s.argKey []
    if 0x20 ≤ k.typ then (s, .done 18 none)
    else if !slotLenOk s.argSlot k.typ k.len then (s, .done 8 none)
    else if !s.spaceFor s.argSlot k.len then (s, .done 6 none)
    else
      match s.drawKey k.typ k.len (64 - tried) with
      | (t, .got m) => ((t.putSlot s.argSlot { k with mat := m }).noteSlot s.argSlot, .done 0 (some s.argSlot))
      | (t, .fail c) => (t, .done c none)
      | (t, .wait left) => (t, .wait (64 - left))

/-- The checks of DERIVE ahead of its hashing (R178, R185). -/
def State.deriveCheck (s : State) : Option Nat :=
  match s.fillCheck 1 with
  | some c => some c
  | none =>
    if 1015 < s.argSlot2 then some 3
    else
      match s.slot s.argSlot2 with
      | none => some 5
      | some src =>
        let k := s.argKey []
        if !(src.typ == 5 || (1 ≤ src.typ && src.typ ≤ 3)) then some 7
        else if !slotLenOk s.argSlot k.typ k.len || 64 < k.len || 64 < fld (s.rg pKEY 0x118) 16 8 then some 8
        else if !src.usage.testBit 7 then some 9
        else if k.inst ≠ src.inst then some 10
        else if !s.spaceFor s.argSlot k.len then some 6
        else none

/-- The hashing of DERIVE and its store (R185, R226). -/
def State.keyDeriveHash (s : State) : State :=
  let k := s.argKey (kdfBytes (s.slotMat s.argSlot2) (s.loadBytes.take (fld (s.rg pKEY 0x118) 16 8)) s.argLen)
  (s.putSlot s.argSlot k).noteSlot s.argSlot

/-- A domain that the key store's own work needs is switched on (R183). -/
def State.keyDomain (s : State) (d pg : Nat) : State :=
  if s.pdOn d then s
  else ({ s with pwr := { s.pwr with on := s.pwr.on ||| 2 ^ d } }).pagePowerOn pg

/-- The blob address. -/
def State.keyAddr (s : State) : Nat := (s.rg pKEY 0x11C).toNat + fld (s.rg pKEY 0x120) 0 8 * 2 ^ 32

/-- A KEK of EXPORT or UNWRAP: its slot, or a code. `bit` is the usage it needs. -/
def State.kekCheck (s : State) (kek bit inst method : Nat) : Option Nat :=
  match s.slot kek with
  | none => some 5
  | some k =>
    if kek = 1019 then (if method = 2 || method = 1 then none else some 11)
    else if !(1 ≤ k.typ && k.typ ≤ 3) || (method == 2 && k.typ != 3) then some 7
    else if !k.usage.testBit bit then some 9
    else if k.inst ≠ inst then some 10
    else none

/-- The header of a blob (R180). -/
def blobHeader (k : KeySlot) (method kekSel kekSlot : Nat) : List Byte :=
  [0x4B, 0x42, 0x01, BitVec.ofNat 8 method, BitVec.ofNat 8 k.typ, 0] ++ leBytes 2 k.len ++
    leBytes 2 k.usage ++ [0, 0] ++ leBytes 4 k.owner ++ [BitVec.ofNat 8 k.inst, BitVec.ofNat 8 kekSel] ++
    leBytes 2 kekSlot ++ zeros 4

/-- FORMAT of a blob header (R181 step 1). -/
def blobBad (h : List Byte) : Bool :=
  let b (i : Nat) : Nat := (byteAt h i).toNat
  b 0 != 0x4B || b 1 != 0x42 || b 2 != 1 || !(b 3 == 1 || b 3 == 2) || b 5 != 0 || b 9 / 2 != 0 ||
    b 10 != 0 || b 11 != 0 || leAt h 12 4 / 2 ^ 18 != 0 || 1 < b 17 ||
    (64 ≤ b 16 && b 16 != 0x7F) || leAt h 20 4 != 0

/-- The slot a blob header describes. -/
def blobKey (h mat : List Byte) : KeySlot :=
  { typ := leAt h 4 1, len := leAt h 6 2, usage := leAt h 8 2, owner := leAt h 12 4, inst := leAt h 16 1,
    mat := mat }

def pad8 (bs : List Byte) : List Byte := fitTo ((bs.length + 7) / 8 * 8) bs

/-- UNWRAP up to its decryption (R181). -/
def State.keyUnwrap (s : State) : State × KeyAns :=
  if s.loadMode < 1 then (s, .done 2 none)
  else if 1015 < s.argSlot then (s, .done 3 none)
  else if (s.slot s.argSlot).isSome then (s, .done 4 none)
  else
    let r := s.engRead aKCORE s.keyAddr 24
    if r.fault ≠ .none then (r.st, .done 13 none)
    else
      let h := r.data
      let k := blobKey h []
      let method := leAt h 3 1
      let body := if method = 1 then 8 + (24 + k.len + 7) / 8 * 8 else 12 + k.len + 16
      let q := r.st.engRead aKCORE (s.keyAddr + 24) body
      if q.fault ≠ .none then (q.st, .done 13 none)
      else
        let t := q.st
        let kek := if leAt h 17 1 = 0 then 1019 else leAt h 18 2
        if blobBad h then (t, .done 11 none)
        else if !keyTypeKnown k.typ then (t, .done 7 none)
        else if !slotLenOk s.argSlot k.typ k.len then (t, .done 8 none)
        else if leAt h 17 1 = 1 && 1015 < leAt h 18 2 then (t, .done 3 none)
        else
          match t.kekCheck kek 5 k.inst method with
          | some c => (t, .done c none)
          | none =>
            if !t.spaceFor s.argSlot k.len then (t, .done 6 none) else (t, .press (h ++ q.data))

/-- A context of the key store's own work under a key (R183). -/
def ownCtx (key : Nat) (mat : List Byte) : Ctx :=
  { mode := 5, alg := 1, agent := aKEY, key := key, mats := some (mat, []) }

/-- The KEK slot of a blob header (R180). -/
def blobKek (h : List Byte) : Nat := if leAt h 17 1 = 0 then 1019 else leAt h 18 2

/-- The material of a blob under a KEK (R180, R181 step 4). -/
def blobOpen (km h body : List Byte) (len : Nat) : Option (List Byte) :=
  if leAt h 3 1 = 2 then gcmOpen km (body.take 12) h ((body.drop 12).take len) (body.drop (12 + len))
  else
    match Machine.keyUnwrap km body with
    | some x => if x.take 24 = h then some ((x.drop 24).take len) else none
    | none => none

/-- The end of UNWRAP (R181 step 4): the blob is decrypted under the KEK's material on PRESS0; a KEK changed since is judged
anew (R204). -/
def State.keyUnwrapEnd (s : State) (blob : List Byte) : State × KeyAns :=
  let h := blob.take 24
  let k := blobKey h []
  let kek := blobKek h
  match s.kekCheck kek 5 k.inst (leAt h 3 1) with
  | some c => (s, .done c none)
  | none =>
    let r := (s.keyDomain 13 (pPRESS 0)).ownRun .key [0] (ownCtx kek (s.slotMat kek)) (blob.drop 24).length
    match r.2 with
    | .ran m =>
      if (r.1.slot s.argSlot).isSome then (r.1, .done 4 none)
      else
        match blobOpen (m.getD (r.1.slotMat kek)) h (blob.drop 24) k.len with
        | none => (r.1, .done 12 none)
        | some m => ((r.1.putSlot s.argSlot { k with mat := m }).noteSlot s.argSlot, .done 0 (some s.argSlot))
    | _ => (r.1, .press blob)

/-- EXPORT up to its encryption (R182). -/
def State.keyExport (s : State) : State × KeyAns :=
  let method := fld (s.rg pKEY 0x118) 24 2
  if 1015 < s.argSlot || (1015 < s.argSlot2 && s.argSlot2 ≠ 0x3FF) then (s, .done 3 none)
  else if method = 0 || method = 3 then (s, .done 11 none)
  else
    match s.slot s.argSlot with
    | none => (s, .done 5 none)
    | some k =>
      let kek := if s.argSlot2 = 0x3FF then 1019 else s.argSlot2
      if !k.usage.testBit 8 then (s, .done 9 none)
      else
        match s.kekCheck kek 4 k.inst method with
        | some c => (s, .done c none)
        | none =>
          let w := if method = 2 then s.wireDraw 4 12 else (s, 0, zeros 12)
          if w.2.1 = 3 then (w.1, .done 14 none)
          else if w.2.1 ≠ 0 then (w.1, .wait)
          else (w.1, .press w.2.2)

/-- The blob of a key (R180). -/
def blobOf (km : List Byte) (k : KeySlot) (m : List Byte) (method kek : Nat) (iv : List Byte) : List Byte :=
  let h := blobHeader k method (if kek = 1019 then 0 else 1) (if kek = 1019 then 0 else kek)
  if method = 2 then
    (let g := gcmSeal km iv h m
     h ++ iv ++ g.1 ++ g.2)
  else h ++ keyWrap km (pad8 (h ++ m))

/-- The end of EXPORT (R182): the source is encrypted under the KEK's material on PRESS0 and the blob written; a KEK
changed since is judged anew (R204). -/
def State.keyExportEnd (s : State) (iv : List Byte) : State × KeyAns :=
  let method := fld (s.rg pKEY 0x118) 24 2
  let kek := if s.argSlot2 = 0x3FF then 1019 else s.argSlot2
  match s.slot s.argSlot with
  | none => (s, .done 5 none)
  | some k =>
    match s.kekCheck kek 4 k.inst method with
    | some c => (s, .done c none)
    | none =>
      let r := (s.keyDomain 13 (pPRESS 0)).ownRun .key [0] (ownCtx kek (s.slotMat kek)) k.len
      match r.2 with
      | .ran m =>
        let b := blobOf (m.getD (r.1.slotMat kek)) k (r.1.slotMat s.argSlot) method kek iv
        let x := r.1.engWrite aKCORE s.keyAddr b
        (x.st, .done (if x.fault = .none then 0 else 13) none)
      | _ => (r.1, .press iv)

/-- RESTRICT (R178, R204). -/
def State.keyRestrict (s : State) : State × KeyAns :=
  if 1015 < s.argSlot then (s, .done 3 none)
  else if s.argBad then (s, .done 11 none)
  else
    match s.slot s.argSlot with
    | none => (s, .done 5 none)
    | some k =>
      let k1 := { k with usage := k.usage &&& fld (s.rg pKEY 0x110) 8 9,
                         owner := k.owner &&& fld (s.rg pKEY 0x114) 0 18 }
      let s1 := s.modKey fun g => { g with slots := tset g.slots s.argSlot k1 }
      ((s1.dropMaterial s.argSlot).noteSlot s.argSlot, .done 0 none)

/-- ZEROIZE and ZEROIZE_INST (R187). -/
def State.keyZeroize (s : State) : State × KeyAns :=
  if 1015 < s.argSlot then (s, .done 3 none) else (s.zeroizeSlot s.argSlot, .done 0 none [s.argSlot])

def State.keyZeroizeInst (s : State) : State × KeyAns :=
  if s.argBad || 64 ≤ s.argInst then (s, .done 11 none) else (s.zeroizeInst s.argInst, .done 0 none (s.instSlots s.argInst))

/-- ROOT_GEN (R174). -/
def State.keyRootGen (s : State) : State × KeyAns :=
  if s.lcState ≠ 0 || s.key.root.isSome then (s, .done 15 none)
  else
    match s.wireDraw 4 64 with
    | (t, 0, bs) =>
      let m := bs.take 32
      (t.modKey fun g => { g with root := some (m, xorBytes (bs.drop 32) m) }, .done 0 none)
    | (t, 3, _) => (t, .done 14 none)
    | (t, _, _) => (t, .wait)

/-- The work of a command (R175, R178), after `tried` rejected draws. DERIVE waits for its hashing on a digest unit. -/
def State.keyWork (s : State) (cmd tried : Nat) : State × KeyAns :=
  if cmd ≠ 9 && !s.key.classReady then (s, .done 1 none)
  else
    match cmd with
    | 1 => s.keyLoad
    | 2 => s.keyUnwrap
    | 3 => s.keyGenerate tried
    | 4 => (match s.deriveCheck with | some c => (s, .done c none) | none => (s, .wait))
    | 5 => s.keyExport
    | 6 => s.keyRestrict
    | 7 => s.keyZeroize
    | 8 => s.keyZeroizeInst
    | 9 => s.keyRootGen
    | _ => (s, .done 18 none)

/-- One attempt at a running command: what it came to is recorded. -/
def State.keyTry (s : State) (r : KeyRun) : State :=
  let put (x : State × KeyAns) : State :=
    match x with
    | (t, .done c tg sl) => t.modKey fun g => { g with run := some { cmd := r.cmd, code := some c, target := tg, slots := sl } }
    | (t, .wait n) => t.modKey fun g => { g with run := some { r with tried := n } }
    | (t, .press d) => t.modKey fun g => { g with run := some { r with data := d } }
  let onPress (t : State) (d : List Byte) : State :=
    put (if r.cmd = 2 then t.keyUnwrapEnd d else t.keyExportEnd d)
  if r.data ≠ [] then onPress s r.data
  else
    match s.keyWork r.cmd r.tried with
    | (t, .press d) => onPress t d
    | x => put x

/-- A write of KEY.CMD (R178). -/
def State.keyCommand (s : State) (v : Word) : State :=
  if s.key.run.isSome then s.err pKEY 16
  else
    let cmd := fld v 0 8
    (s.setRg pKEY 0x124 (wd (at' cmd 8 + 0x40000000))).keyTry { cmd := cmd, code := none, target := none }

/-- A waiting command tries again once the wire may deliver (R184) or PRESS0 has run its work (R183); DERIVE waits for its
digest unit. -/
def State.keyRetry (s : State) : State :=
  match s.key.run with
  | some r => if r.code.isSome || r.cmd = 4 then s else s.keyTry r
  | none => s

/-- A zeroization still waits for its granules to be overwritten, or for a Stave to clear the hidden words of its slots
(R187, R246). -/
def State.keyPending (s : State) (r : KeyRun) : Bool := (r.cmd == 7 || r.cmd == 8) && !s.slotsGone r.slots

/-- A management command completes (R178, R179): RESULT, the LOAD registers cleared, IRQ_RAW.DONE. With
CFG.KEYSYNC it waits until its record is acknowledged (R430). -/
def State.keyDone (s : State) : State :=
  let s0 := s.keyScrub.keyRetry
  match s0.key.run with
  | some r =>
    match r.code with
    | some c =>
      if s0.keyPending r ||
          (s0.twinRepl && s0.rbit pTWIN 0x100 2 && decide (s0.twin.ack < s0.twinSeq)) then s0
      else
        let s1 := s0.setRg pKEY 0x124 (wd (c + at' r.cmd 8 + 0x80000000))
        let s2 := { s1 with regs := tdrop s1.regs fun k _ => rkey pKEY 0x180 ≤ k && k ≤ rkey pKEY 0x1BC }
        (s2.modKey fun g => { g with run := none }).irq pKEY 0
    | none => s0
  | none => s0

/-! ### Class keys (R175, R176) -/

/-- Label, attributes and slot of a class key. -/
def classKeys : List (Nat × List Byte × Nat × Nat) :=
  let krm (a b c d : Byte) (n : Nat) : List Byte := [0x4B, 0x52, 0x4D, 0x2D] ++ ([a, b, c, d].take n)
  [ (1016, krm 0x42 0x4F 0x4F 0x54 4, 3, 2 ^ 1 + 2 ^ 6),
    (1017, krm 0x42 0x49 0x4E 0 3, 3, 2 ^ 0 + 2 ^ 1),
    (1018, krm 0x53 0x45 0x41 0x4C 4, 3, 2 ^ 0 + 2 ^ 1 + 2 ^ 6),
    (1019, krm 0x42 0x4C 0x4F 0x42 4, 3, 2 ^ 4 + 2 ^ 5),
    (1020, krm 0x54 0x57 0x49 0x4E 4, 3, 2 ^ 5),
    (1021, krm 0x44 0x45 0x42 0x55 4 ++ [0x47], 5, 2 ^ 6) ]

/-- The life-cycle group byte of the context; none in SCRAPPED. -/
def lcGroup (st : Nat) : Option Byte := if st ≤ 2 then some 1 else if st = 3 then some 2 else none

/-- Battery rows re-masked under a mask drawn at a cold reset, once the RNG is ready (R448). -/
def State.newBackupMask (s : State) : State :=
  if !s.tamp.maskDue || !s.rng.ready then s
  else
    match s.wireDraw 4 32 with
    | (t, 0, m) =>
      let rows := t.tamp.batRam.map fun e =>
        (e.1, xorBytes (xorBytes e.2 (maskRow t.tamp.batMask e.2.length)) (maskRow m e.2.length))
      { t with tamp := { t.tamp with batRam := rows, batMask := m, maskDue := false } }
    | (t, _, _) => t

/-- The key store's hashing on DIGEST0–3 (R226): it takes the first unit that has a free context. -/
def State.keyHash (s : State) (w : OwnWork) (key : Nat) (mat : List Byte) (len : Nat) : State × OwnAns :=
  (s.keyDomain 21 (pDIGEST 0)).ownRun w [4, 5, 6, 7] { ownCtx key mat with mode := 2, alg := 2 } len

/-- Message bytes that the derivation of the class keys hashes. -/
def classBytes : Nat := classKeys.foldl (fun n c => n + c.2.1.length + 18) 0

/-- The six class slots filled from the root (R175), in a life-cycle group. -/
def State.classFill (s : State) (root : List Byte) (g : Byte) : State :=
  let slots := classKeys.foldl (fun (sl : Tbl KeySlot) c =>
    tset sl c.1 { typ := c.2.2.1, len := 32, usage := c.2.2.2, owner := 0, inst := 0x7F,
                  mat := kdfBytes root (c.2.1 ++ [0] ++ serialBytes ++ [g]) 32 }) s.key.slots
  s.modKey fun k => { k with slots := slots, derived := true }

/-- The arena key is drawn (R175); false while the wire makes it wait, or fails it. -/
def State.drawArena (s : State) : State × Bool :=
  if s.key.arenaKey ≠ [] then (s, true)
  else
    match s.wireDraw 4 32 with
    | (t, 0, ak) => (t.modKey fun k => { k with arenaKey := ak }, true)
    | (t, _, _) => (t, false)

/-- The arena key is drawn and the six class keys are derived (R175). `parityOk` is whether the root
passes its share parity check. DEDUCED (52): under lockdown the hashing has no powered unit (R445) and waits. -/
def State.keyClassDerive (s : State) (parityOk : Bool) : State :=
  match s.key.root, lcGroup s.lcState with
  | some (m, x), some g =>
    if s.key.derived || !s.rng.ready || s.rng.fault || s.key.classFail || s.tamp.lockdown then s
    else if !parityOk then
      ((s.modKey fun k => { k with classFail := true }).err pKEY 18).alarm (2 ^ 22)
    else
      let t := s.drawArena
      if !t.2 then t.1
      else
        let r := t.1.keyHash .classes 1024 [] classBytes
        match r.2 with
        | .ran _ => r.1.classFill (xorBytes m x) g
        | _ => r.1
  | _, _ => s

/-- The six class slots are filled. -/
def State.classFilled (s : State) : Bool := classKeys.all fun c => (s.slot c.1).isSome

/-- All class slots are filled (R175). -/
def State.keyClassReady (s : State) : State :=
  if s.key.derived && s.classFilled then s.modKey fun k => { k with classReady := true } else s

/-! ### Configuration and injection -/

/-- The LOAD_MODE ceiling of a life-cycle state (R177). -/
def loadCeiling (st : Nat) : Nat := [2, 2, 1, 0, 0].getD st 0

/-- A paired write of KEY.CFG whose complement matched (R177): a mode above the ceiling, as 3 always is, stores the
ceiling. -/
def State.keyCfg (s : State) (v : Word) : State :=
  let c := loadCeiling s.lcState
  let m := fld v 0 2
  if m ≤ c then s.setRg pKEY 0x100 (wd m)
  else (s.setRg pKEY 0x100 (wd c)).err pKEY 17

/-- A paired write of KEY.CTRL: BOOT_OFF stays set once set (R176); EN as written. -/
def State.keyCtrl (s : State) (v : Word) : State :=
  (s.setRg pKEY 0x10 ((v &&& 1) ||| (v &&& 0x100) ||| (s.rg pKEY 0x10 &&& 0x100))).modKey fun g =>
    { g with bootOff := g.bootOff || bitAt v 8 }

/-- A running injection is recorded; INJ_RESULT reads BUSY until it completes. -/
def State.injectPut (s : State) (a : Nat) (x : Inject) : State :=
  (s.modKey fun g => { g with inject := tset g.inject a x }).setArg a pKEY 0x148 0x40000000

/-- The words of an injection: RSA components each on a whole number of words (R240). -/
def injectBytes (typ : Nat) (m : List Byte) : List Byte :=
  if 0x20 ≤ typ then
    let h := (m.length - 4) / 5
    let hw := (h + 7) / 8 * 8
    ((List.range 5).flatMap fun j => fitTo hw ((m.drop (h * j)).take h)) ++ m.drop (5 * h)
  else m

/-- The destination of an admitted injection (R186, R240): the claim is asked for first, then the range, then what the
granules hold. The code, none while a command of the Stave names one of them (R239). -/
def State.injectDest (s : State) (a n st off len : Nat) : Option Nat :=
  let t := s.stave st
  if t.claim ≠ some a || t.clearing then some 17
  else if 1024 < off + len / 64 then some 8
  else if (match t.bind with | some (sl, _, _) => sl != n | none => false) ||
      (granulesOf (8 * off) (len / 8)).any (fun g => t.hidden.contains g || t.taint.contains g) then some 17
  else if s.staveBlocks st (staveBase st + 64 * off) len then none
  else some 0

/-- One attempt at an agent's injection (R186, R240): the use is judged first, then the destination. A use of a class key
waits until the class keys are ready (R175). -/
def State.injectTry (s : State) (a : Nat) (x : Inject) : State :=
  let n := fld x.req 0 10
  let st := fld x.req 12 2
  let purpose := fld x.req 16 2
  let done (t : State) (c : Nat) : State := t.injectPut a { x with code := some c }
  if purpose = 0 then done s 9
  else
    match s.judgeUse a x.tag n (fun _ => true) (if purpose = 1 then 2 else if purpose = 2 then 1 else 7) with
    | .empty => done s 5
    | .type => done s 7
    | .usage => done s 9
    | .owner => done s 10
    | .wait => s.injectPut a x
    | .ok =>
      let typ := ((s.slot n).map (·.typ)).getD 0
      let bs := injectBytes typ (s.slotMat n)
      let full := fitTo ((bs.length + 63) / 64 * 64) bs
      match s.injectDest a n st x.dest full.length with
      | none => s.injectPut a x
      | some 0 =>
        let s1 := s.staveStore st (8 * x.dest) (8 * full.length) (leNat full)
        done (s1.modStave st fun u =>
          { u with hidden := addAll u.hidden (granulesOf (8 * x.dest) (full.length / 8)),
                   bind := some (n, purpose, typ) }) 0
      | some c => done s c

/-- A write of INJ_REQ (R186): an injection of the agent that still waits is given up for it (DESIGN CHOICE;
notes/assumptions/82.md). -/
def State.keyInject (s : State) (a : Nat) (v : Word) : State :=
  s.injectTry a { req := v, dest := fld (s.arg a pKEY 0x140) 0 10, tag := fld (s.arg a pKEY 0x144) 0 7 }

/-- An injection completes (R186); one that waits tries again first. -/
def State.keyInjectDone (s : State) (a : Nat) : State :=
  let s1 := match tfind s.key.inject a with
    | some x => if x.code.isNone then s.injectTry a x else s
    | none => s
  match (tfind s1.key.inject a).bind (·.code) with
  | some c =>
    ((s1.modKey fun g => { g with inject := tdel g.inject a }).setArg a pKEY 0x148
      (wd (c + 0x80000000))).irq pKEY 1
  | none => s1

/-! ### Draws for other blocks, resets -/

/-- General and class slots are zeroized by a cold or warm reset; battery slots stay (R188). -/
def State.keyReset (s : State) : State :=
  s.modKey fun g => { ({} : KeySt) with slots := g.slots.filter fun e => e.1 < 32, root := g.root }

/-- A tamper reset zeroizes every slot owned by an instance (R188). -/
def State.keyTamperReset (s : State) : State :=
  (s.key.slots.filter fun e => e.1 ≤ 1015 && e.2.inst != 0x7F).foldl
    (fun (t : State) e => t.zeroizeSlot e.1) (s.modKey fun g => { g with bootOff := false })

/-- A block reset of KEY (R188): a running command is discarded, a slot it had begun to store into is
zeroized, and its work on a unit ends. A zeroization that had begun runs to its end. -/
def State.keyBlockReset (s : State) : State :=
  let s0 := s.ownDrop .key
  match s0.key.run with
  | some r =>
    let s1 := match r.target with | some n => s0.zeroizeSlot n | none => s0
    s1.modKey fun g => { g with run := none, inject := [] }
  | none => s0.modKey fun g => { g with inject := [] }

end Sys2Proof.Machine
end

