-- ==== Sys2Proof/Machine/BinCtl.lean ====
section
/-!
DEFINITION. The bin store (chapter "Bin store and sessions", R252–R271): bins, frames, cold records,
the commands, waiting for frames, and replication of bin changes.
-/
namespace Sys2Proof.Machine

def State.modBin (s : State) (f : BinSt → BinSt) : State := { s with bin := f s.bin }

/-- A bin stored. -/
def State.setBin (s : State) (b : Nat) (r : BinRec) : State :=
  s.modBin fun g => { g with bins := tset g.bins b r }

/-- A bin moves to the most recent end of the LRU order (R263). -/
def State.touchBin (s : State) (b : Nat) : State :=
  s.modBin fun g => { g with lru := (g.lru.filter (· != b)) ++ [b] }

/-- The visible part with BIN's own fields (R253). -/
def binVisible (b : Nat) (r : BinRec) (twin : Nat) (vis : List Byte) : List Byte :=
  leBytes 2 b ++ [BitVec.ofNat 8 r.inst, BitVec.ofNat 8 r.flags] ++ leBytes 4 twin ++ vis.drop 8

/-- TWIN_SEQ of a visible part. -/
def binTwinSeq (vis : List Byte) : Nat := leAt vis 4 4

/-- A change of a bin's visible part or state is journalled (R271): the bin takes the new TWIN_SEQ. -/
def State.noteBin (s : State) (b : Nat) : State :=
  if s.twinRepl then
    let r := s.binRec b
    let r1 := if r.vis = [] then r else { r with vis := binVisible b r (s.twinSeq + 1) r.vis }
    (s.setBin b r1).noteChange 2 b
      ([BitVec.ofNat 8 r1.st.code, BitVec.ofNat 8 r1.inst] ++ fitTo 160 r1.vis)
  else s

/-- Frames in use. -/
def State.hotCount (s : State) : Nat := (s.bin.bins.filter fun e => e.2.st == .hot).length

/-- A frame is free: one whose overwriting has not ended is not (R266). -/
def State.frameFree (s : State) : Bool := s.hotCount + s.bin.scrubs.length < 256

/-- A bin whose context an engine runs now. -/
def State.engineUses (s : State) (b : Nat) : Bool :=
  s.units.any fun e => e.2.running.any fun p => (tget {} e.2.ctxs p.1).bin == some b

/-- The bin whose frame is taken next: the least recently used that may be spilled (R263, R267). -/
def State.binVictim (s : State) : Option Nat :=
  if s.mseal.broken || s.dramless then none
  else s.bin.lru.find? fun b =>
    let r := s.binRec b
    r.st == .hot && r.pins == 0 && !r.stuck && !s.engineUses b

/-- The address of a bin's cold record (R256). -/
def State.coldAddr (s : State) (b : Nat) : Nat :=
  (s.rg pBIN 0x104).toNat + fld (s.rg pBIN 0x108) 0 8 * 2 ^ 32 + b * 0x240

/-- Bytes 0–15 of a cold record (R256). -/
def State.coldHeader (s : State) (b : Nat) (r : BinRec) : List Byte :=
  leBytes 2 b ++ [BitVec.ofNat 8 r.inst, 1] ++ leBytes 2 (tget 0 s.bin.gens b) ++ zeros 2 ++
    leBytes 4 s.resets ++ zeros 4

/-- A spill (R256, R267). The bytes of a saved engine context are free (notes/assumptions/27.md). -/
def State.binSpill (s : State) (b : Nat) : State :=
  let r := s.binRec b
  let s1 := s.modBin fun g =>
    { g with gens := tset g.gens b ((tget 0 g.gens b + 1) % 0x10000), spillSeq := g.spillSeq + 1 }
  let h := s1.coldHeader b r
  let iv := leBytes 4 s1.resets ++ leBytes 8 s1.bin.spillSeq
  let area (n : Nat) (saved : Bool) : List Byte := if saved then s1.freeBytes n else zeros n
  let pt := binVisible b r (binTwinSeq r.vis) r.vis |>.take 64
  let body := pt ++ area 128 r.press.isSome ++ area 224 r.digest.isSome ++ r.vis.drop 64
  let g := gcmSeal (s1.slotMat 1017) iv h body
  let w := s1.draw.engWrite aBIN (s1.coldAddr b) (h ++ iv ++ zeros 4 ++ g.1 ++ g.2 ++ zeros 16)
  if w.fault ≠ .none then
    ((w.st.setBin b { r with stuck := true }).modBin fun g => { g with noSpill := true }).err pBIN 18
  else
    (((w.st.setBin b { r with st := .cold, vis := [] }).modBin fun g =>
      { g with noSpill := false, lru := g.lru.filter (· != b) }).cnt pBIN 0x134)

/-- A bin becomes LOST (R257, R268). -/
def State.binLost (s : State) (b reason : Nat) : State :=
  let r := s.binRec b
  let s1 := (s.setBin b { r with st := .lost, vis := [], press := none, digest := none, pins := 0,
                                 flags := 0 }).modBin fun g => { g with lru := g.lru.filter (· != b) }
  let s2 := s1.modRg pBIN 0x144 fun v =>
    if bitAt v 31 then setBitW v 30 else wd (b + at' reason 16 + 0x80000000)
  ((s2.cnt pBIN 0x140).irq pBIN 2).noteBin b

/-- A fill (R257): the bin becomes HOT or LOST. -/
def State.binFill (s : State) (b : Nat) : State :=
  let r := s.binRec b
  let m := s.engRead aBIN (s.coldAddr b) 576
  let t := m.st
  match m.fault with
  | .none =>
    let d := m.data
    let h := d.take 16
    if h ≠ s.coldHeader b r then t.binLost b 3
    else
      match gcmOpen (t.slotMat 1017) ((d.drop 16).take 12) h ((d.drop 32).take 512) ((d.drop 544).take 16) with
      | none => t.binLost b 4
      | some p =>
        ((t.setBin b { r with st := .hot, vis := p.take 64 ++ (p.drop 416).take 96 }).cnt pBIN 0x138).touchBin b
  | .data | .parity => t.binLost b 2
  | _ => t.binLost b 1

/-! ### Commands -/

/-- A command completes (R258); `irq` is its ARG.IRQ. -/
def State.binFinish (s : State) (a cmd code : Nat) (irq : Bool) : State :=
  let s1 := s.setArg a pBIN 0x124 (wd (code + at' cmd 8 + 0x80000000))
  if irq then s1.irq pBIN 0 else s1

/-- The address of an agent's buffer. -/
def State.binAddr (s : State) (a : Nat) : Nat :=
  (s.arg a pBIN 0x110).toNat + fld (s.arg a pBIN 0x114) 0 8 * 2 ^ 32

/-- What a command of an agent takes from its registers when it is written (R258). DEDUCED (54): a command that
waits keeps them. -/
def State.binArgs (s : State) (a : Nat) : BinArgs :=
  { arg := s.arg a pBIN 0x10C, addr := s.binAddr a,
    val := (s.arg a pBIN 0x118).toNat + (s.arg a pBIN 0x11C).toNat * 2 ^ 32 }

/-- The instance tag of an agent's command (R259). -/
def binTag (a : Nat) (g : BinArgs) : Nat := carriedTag a (fld g.arg 16 7)

/-- ARG.IRQ of a command. -/
def binIrq (g : BinArgs) : Bool := bitAt g.arg 28

def State.binArg (s : State) (a : Nat) : Nat := fld (s.arg a pBIN 0x10C) 0 16

/-- Frames of bins pinned with a tag other than NONE (R262). -/
def State.instFrames (s : State) : Nat :=
  (s.bin.bins.filter fun e => e.2.st == .hot && e.2.inst != 0x7F && e.2.pins != 0).length

/-- A pin under this tag would exceed INST_PINS (R262). -/
def State.pinWaits (s : State) (b tag : Nat) : Bool :=
  tag != 0x7F && (s.binRec b).pins == 0 && fld (s.rg pBIN 0x100) 16 8 ≤ s.instFrames

/-- USED of an instance changed. -/
def State.binUsed (s : State) (i : Nat) (f : Nat → Nat) : State :=
  if i = 0x7F then s else s.modBin fun g => { g with used := tset g.used i (f (tget 0 g.used i)) }

/-- The code of a buffer access that failed. -/
def binFault : BusFault → Nat
  | .data | .parity => 16
  | _ => 11

/-- The frame of a closed bin is overwritten (R266 steps 2–4): USED is decremented, and the CLOSE completes; true where
the wire has not made it wait. -/
def State.binScrubOne (s : State) (x : BinScrub) : State × Bool :=
  let w := if s.rng.fault then (s, 0, ([] : List Byte)) else s.wireDraw 4 512
  if w.2.1 = 1 || w.2.1 = 2 then (w.1, false)
  else
    let s1 := (w.1.modBin fun g => { g with scrubs := g.scrubs.drop 1 }).binUsed x.inst (· - 1)
    (match x.close with | some (a, irq) => s1.binFinish a 7 0 irq | none => s1, true)

/-- The frames of closed bins are overwritten from the key store's wire and then with zeros, or with zeros alone after an
RNG fault, the longest waiting first, until the wire makes one wait (R160, R266). -/
def State.binScrub (s : State) : Nat → State
  | 0 => s
  | k + 1 =>
    match s.bin.scrubs with
    | x :: _ =>
      (match s.binScrubOne x with
       | (t, true) => t.binScrub k
       | (t, false) => t)
    | [] => s

/-- Steps 1–3 of a CLOSE (R266): the bin is FREE at once; its frame, if it has one, is overwritten, and USED counts it until
then. `close` is the agent of a CLOSE command, with its ARG.IRQ. -/
def State.binFree (s : State) (b : Nat) (close : Option (Nat × Bool)) : State :=
  let r := s.binRec b
  let s1 := (s.modBin fun g => { g with bins := tdel g.bins b, lru := g.lru.filter (· != b) }).noteBin b
  if r.st = .hot then
    (s1.modBin fun g => { g with scrubs := g.scrubs ++ [{ inst := r.inst, close := close }] }).binScrub
      (s.bin.scrubs.length + 1)
  else
    let s2 := s1.binUsed r.inst (· - 1)
    match close with | some (a, irq) => s2.binFinish a 7 0 irq | none => s2

/-- A slot reference of a WRITE that names another instance's slot (R260). -/
def State.badKeyref (s : State) (inst : Nat) (buf : List Byte) : Bool :=
  (List.range 8).any fun i =>
    let w := leAt buf (16 + 2 * i) 2
    w.testBit 15 && (match s.slot (w % 1024) with | some k => k.inst != inst | none => false)

/-- A twin device that stands by (R271). -/
def State.twinStandby (s : State) : Bool :=
  s.twin.state == 4 || s.twin.state == 5

/-- What a command comes to now: complete with a code, wait for a frame or a fill, or go on by itself: an increment that
awaits its acknowledgement (R261), a CLOSE that completes with its frame (R266). -/
inductive BinAns where
  | done (code : Nat)
  | wait
  | sync

/-- A command on a bin that is hot, or an OPEN or CLOSE (R258–R266). -/
def State.binDo (s : State) (a cmd b : Nat) (g : BinArgs) : State × BinAns :=
  let r := s.binRec b
  let tag := binTag a g
  match cmd with
  | 1 =>
    let pin := bitAt g.arg 24
    if tag ≠ 0x7F && (s.rg pBIN (0x200 + 4 * tag)).toNat ≤ tget 0 s.bin.used tag then (s, .done 7)
    else if !s.frameFree || (pin && s.pinWaits b tag) then (s, .wait)
    else
      let n : BinRec := { st := .hot, inst := tag, pins := b01 pin, vis := [] }
      let n1 := { n with vis := binVisible b n 0 (zeros 160) }
      ((((s.setBin b n1).binUsed tag (· + 1)).touchBin b).noteBin b, .done 0)
  | 2 =>
    if r.pins = 255 then (s, .done 8)
    else if s.pinWaits b tag then (s, .wait)
    else ((s.setBin b { r with pins := r.pins + 1 }).touchBin b, .done 0)
  | 3 => ((s.setBin b { r with pins := r.pins - 1 }).touchBin b, .done 0)
  | 4 =>
    if s.tamp.halted then (s, .wait) else
    let w := s.engWrite a g.addr (binVisible b r (binTwinSeq r.vis) r.vis)
    (w.st.touchBin b, .done (if w.fault = .none then 0 else binFault w.fault))
  | 5 =>
    if s.tamp.halted then (s, .wait) else
    let m := s.engRead a g.addr 160
    if m.fault ≠ .none then (m.st.touchBin b, .done (binFault m.fault))
    else if m.st.badKeyref r.inst m.data then (m.st.touchBin b, .done 4)
    else
      (((m.st.setBin b { r with vis := binVisible b r (binTwinSeq r.vis) m.data }).touchBin b).noteBin b,
        .done 0)
  | 6 =>
    let f := 32 + 8 * fld g.arg 26 2
    let n := leAt r.vis f 8 + g.val
    if 2 ^ 64 ≤ n then (s.touchBin b, .done 13)
    else
      let s1 := ((s.setBin b { r with vis := overlay r.vis f (leBytes 8 n) }).touchBin b).noteBin b
      let s2 := (s1.setArg a pBIN 0x118 (wd n)).setArg a pBIN 0x11C (wd (n / 2 ^ 32))
      if bitAt g.arg 25 && s.twinRepl then
        (s2.modBin fun m => { m with syncs := tset m.syncs a (s2.twinSeq, binIrq g) }, .sync)
      else (s2, .done 0)
  | _ =>
    if r.flags % 4 ≠ 0 then (s, .done 10) else (s.binFree b (some (a, binIrq g)), .sync)

/-- The checks ahead of a command's action (R252, R255, R258, R259, R262, R271). -/
def State.binCheck (s : State) (a cmd b tag : Nat) : Option Nat :=
  if !s.bin.ready then some 1
  else if !(1 ≤ cmd && cmd ≤ 7) then some 2
  else if 256 * s.binCount ≤ b then some 3
  else if !mayCarry a tag then some 4
  else if s.twinStandby && cmd ≠ 4 then some 15
  else
    let r := s.binRec b
    match r.st with
    | .free => if cmd = 1 then none else some 6
    | .lost => if cmd = 7 then (if tag ≠ r.inst then some 4 else none) else some 12
    | _ =>
      if cmd = 1 || (cmd = 3 && r.st = .cold) then some 5
      else if tag ≠ r.inst then some 4
      else if cmd = 3 && r.pins = 0 then some 9
      else none

/-- A request joins the waiters (R263): it counts as one that waited when no frame can be taken. -/
def State.binEnqueue (s : State) (w : BinWait) (frameWait : Bool) : State :=
  let s1 := s.modBin fun g => { g with waits := g.waits ++ [{ w with framed := frameWait }] }
  let s2 := match w.who with
    | .cmd a =>
      s1.setArg a pBIN 0x124 (wd (at' w.cmd 8 + flagAt frameWait 16 + 0x40000000))
    | _ => s1
  if frameWait then (s2.cnt pBIN 0x13C).irq pBIN 1 else s2

/-- No frame is free and none can be taken. -/
def State.noFrame (s : State) : Bool := !s.frameFree && s.binVictim.isNone

/-- A command taken up: completed, or waiting. -/
def State.binTake (s : State) (a cmd : Nat) : State :=
  let b := s.binArg a
  let g := s.binArgs a
  let tag := binTag a g
  match s.binCheck a cmd b tag with
  | some c => s.binFinish a cmd c (binIrq g)
  | none =>
    if (s.binRec b).st = .cold && cmd ≠ 7 then
      s.binEnqueue { who := .cmd a, cmd := cmd, bin := b, args := g } s.noFrame
    else
      match s.binDo a cmd b g with
      | (t, .done c) => t.binFinish a cmd c (binIrq g)
      | (t, .sync) => t
      | (t, .wait) =>
        t.binEnqueue { who := .cmd a, cmd := cmd, bin := b, args := g } (t.noFrame || t.pinWaits b tag)

/-- An agent's command runs, and CANCEL cannot end it: an increment that awaits its acknowledgement (R261), or a CLOSE
whose frame is being overwritten (R266). -/
def State.binRuns (s : State) (a : Nat) : Bool :=
  (tfind s.bin.syncs a).isSome || s.bin.scrubs.any fun x => x.close.any fun c => c.1 == a

/-- The agent's command that waits or runs. -/
def State.binRunning (s : State) (a : Nat) : Bool :=
  (s.bin.waits.any fun w => w.who == .cmd a) || s.binRuns a

/-- CANCEL (R258, R263). -/
def State.binCancel (s : State) (a : Nat) : State :=
  match s.bin.waits.find? (fun w => w.who == .cmd a) with
  | some w =>
    (s.modBin fun g => { g with waits := g.waits.filter fun x => x.who != .cmd a }).binFinish a w.cmd 14
      (binIrq w.args)
  | none => s.binFinish a 0x0F 0 (binIrq (s.binArgs a))

/-- A write of BIN.CMD (R258). -/
def State.binCommand (s : State) (a : Nat) (v : Word) : State :=
  let cmd := fld v 0 8
  if cmd = 0x0F then (if s.binRuns a then s.err pBIN 17 else s.binCancel a)
  else if s.binRunning a then s.err pBIN 17
  else (s.setArg a pBIN 0x124 (wd (at' cmd 8 + 0x40000000))).binTake a cmd

/-- A waiting request taken off the list. -/
def State.binDequeue (s : State) (w : BinWait) : State :=
  s.modBin fun g => { g with waits := g.waits.erase w }

/-- A waiting command goes on once its bin is hot or a frame is free. -/
def State.binResume (s : State) (w : BinWait) : State :=
  match w.who with
  | .cmd a =>
    let s1 := s.binDequeue w
    (match s1.binCheck a w.cmd w.bin (binTag a w.args) with
     | some c => s1.binFinish a w.cmd c (binIrq w.args)
     | none =>
       match s1.binDo a w.cmd w.bin w.args with
       | (t, .done c) => t.binFinish a w.cmd c (binIrq w.args)
       | (t, .sync) => t
       | (_, .wait) => s)
  | _ => s.binDequeue w

/-- The next spill (R256, R263): a request needs a frame, none is free, and a bin may be spilled. -/
def State.binSpillNext (s : State) : State :=
  if s.bin.waits = [] || s.frameFree then s
  else match s.binVictim with | some b => s.binSpill b | none => s

/-- The next fill (R257): the oldest waiter whose bin is cold takes a free frame; it then goes on. -/
def State.binFillNext (s : State) : State :=
  if !s.frameFree then s
  else
    match s.bin.waits.find? fun w => (s.binRec w.bin).st == .cold with
    | some w => (s.binFill w.bin).binResume w
    | none => s

/-- A frame frees, one that waited to be overwritten among them, and the oldest request that waits for one is served (R263). -/
def State.binServe (s0 : State) : State :=
  let s := s0.binScrub s0.bin.scrubs.length
  match s.bin.waits.find? fun w => (s.binRec w.bin).st != .cold with
  | some w => s.binResume w
  | none => s

/-- Commands that waited for the standby's acknowledgement complete (R261). -/
def State.binSynced (s : State) (ack : Nat) : State :=
  (s.bin.syncs.filter fun e => e.2.1 ≤ ack).foldl (fun (t : State) e =>
    (t.modBin fun g => { g with syncs := tdel g.syncs e.1 }).binFinish e.1 6 0 e.2.2) s

/-! ### Enable, instances, resets -/

/-- The cold region lies wholly inside the protected window (R255). -/
def State.coldRegionOk (s : State) : Bool :=
  let lo := s.coldAddr 0
  let n := s.binCount * 0x24000
  s.mseal.winReady && s.winBase ≤ lo && lo + n ≤ s.winBase + s.winSize

/-- The store clears: every bin FREE, frames zeroed (R255). -/
def State.binClear (s : State) : State :=
  s.modBin fun g =>
    { g with bins := [], gens := [], lru := [], used := [], waits := [], syncs := [], noSpill := false,
             ready := false, clearing := true }

/-- A paired write of BIN.CTRL (R255). -/
def State.binCtrl (s : State) (v : Word) : State :=
  if bitAt v 0 then
    (if s.en pBIN then s
     else if !s.key.classReady || (1 < s.binCount && !s.coldRegionOk) then s.err pBIN 16
     else (s.setRg pBIN 0x10 1).binClear)
  else (s.setRg pBIN 0x10 0).modBin fun g => { g with ready := false, clearing := false }

/-- Clearing at enable ends (R255). -/
def State.binReady (s : State) : State :=
  if s.bin.clearing && s.en pBIN then s.modBin fun g => { g with clearing := false, ready := true } else s

/-- An agent's CLOSE whose frame is being overwritten completes with a code of its own. -/
def State.binCloseEnd (s : State) (a code : Nat) : State :=
  (s.bin.scrubs.filterMap fun x => x.close.bind fun c => if c.1 = a then some c.2 else none).foldl
    (fun (t : State) irq => t.binFinish a 7 code irq)
    (s.modBin fun g => { g with scrubs := g.scrubs.map fun x =>
      { x with close := x.close.bind fun c => if c.1 = a then none else some c } })

/-- Every bin of a torn-down instance cleared, its commands aborted (R269). The store reports once every frame has been
overwritten. -/
def State.binInstanceClear (s : State) (nn : Nat) : State :=
  let a := 0x40 + nn
  let mine := s.bin.waits.filter fun w => w.who == .cmd a
  let s1 := mine.foldl (fun (t : State) w => (t.binDequeue w).binFinish a w.cmd 17 (binIrq w.args)) (s.binCloseEnd a 17)
  let bs := (s1.bin.bins.filter fun e => e.2.inst == nn && e.2.st != .free).map (·.1)
  let s2 := bs.foldl (fun (t : State) b => t.binFree b none) s1
  let s3 := s2.binScrub s2.bin.scrubs.length
  if s3.bin.scrubs.any fun x => x.inst == nn then s3
  else s3.modBin fun g => { g with used := tdel g.used nn, drains := g.drains ++ [nn] }

/-- A cold or warm reset (R270). -/
def State.binReset (s : State) : State := { s with bin := {} }

/-- Commands end with ABORTED in a block reset (R270 step 2); contexts are aborted by the units. -/
def State.binBlockReset (s : State) : State :=
  let s1 := s.bin.waits.foldl (fun (t : State) w =>
    match w.who with
    | .cmd a => t.binFinish a w.cmd 17 (binIrq w.args)
    | _ => t) s
  let s2 := s1.bin.syncs.foldl (fun (t : State) e => t.binFinish e.1 6 17 e.2.2) s1
  let s3 := (s2.bin.scrubs.filterMap (·.close)).foldl (fun (t : State) c => t.binFinish c.1 7 17 c.2) s2
  { s3 with bin := {} }

/-- A write of CFG, BASE or BASE_HI (R255): only while the store is not enabled. -/
def State.binCfgWrite (s : State) (off : Nat) (v : Word) : State :=
  if s.en pBIN then s.err pBIN 19
  else s.setRg pBIN off (v &&& (if off = 0x100 then 0x00FF01FF else if off = 0x104 then 0xFFFFF000 else 0xFF))

end Sys2Proof.Machine
end

