-- ==== Sys2Proof/Machine/UnitCtl.lean ====
section
/-!
DEFINITION. What Press and digest units share (R193–R210, R215–R225): submission, descriptors, contexts,
their bins, completion, clearing and draining. Units 0–3 are PRESS0–3, units 4–9 DIGEST0–5.
-/
namespace Sys2Proof.Machine

/-! ### Submission (R194, R216) -/

/-- A write of SUBMIT: judged, queued with the submitter's ID, and for a digest unit with the submitter's
EXPECT. -/
def State.unitSubmit (s : State) (u a : Nat) (v : Word) : State :=
  let pg := unitPage u
  let t := s.unit u
  let code :=
    if fld v 0 5 ≠ 0 then 2 else if !s.en pg then 3 else if 64 ≤ t.queue.length then 1 else 0
  let s1 := s.setArg a pg 0x108 (wd (code + 0x80000000))
  if code ≠ 0 then s1
  else
    let addr := v.toNat + fld (s.arg a pg 0x100) 0 8 * 2 ^ 32
    let expect := if u < 4 then [] else
      (List.range 16).flatMap fun i => leBytes 4 (s.arg a pg (0x180 + 4 * i)).toNat
    s1.modUnit u fun t => { t with queue := t.queue ++ [{ addr := addr, agent := a, expect := expect }] }

/-- A descriptor's outcome is dropped (R194). -/
def State.unitDrop (s : State) (u addr : Nat) : State :=
  let pg := unitPage u
  let s1 := if s.rbit pg 0x1C 17 then s
    else (s.setRg pg 0x12C (wd addr)).setRg pg 0x130 (wd (addr / 2 ^ 32))
  (s1.err pg 17).irq pg 2

/-! ### Contexts and bins -/

/-- A context whose segments are neither prepared nor running is idle (R201). -/
def UnitSt.idle (t : UnitSt) (k : Nat) : Bool := !t.ctxBusy k

/-- The context saved in a bin by a unit. -/
def State.savedCtx (s : State) (u b : Nat) : Option Ctx :=
  let r := s.binRec b
  match (if u < 4 then r.press else r.digest) with
  | some (w, c) => if w = u then some c else none
  | none => none

/-- A bin's engine area written. -/
def State.setArea (s : State) (u b : Nat) (x : Option (Nat × Ctx)) : State :=
  let r := s.binRec b
  s.setBin b (if u < 4 then { r with press := x } else { r with digest := x })

/-- FLAGS of a bin for a unit's family: open and poisoned (R253, R265). -/
def State.setFlags (s : State) (u b : Nat) (isOpen poison : Bool) : State :=
  let r := s.binRec b
  let o := if u < 4 then 0 else 1
  let f := r.flags &&& (0xFF ^^^ (2 ^ o + 2 ^ (o + 2)))
  s.setBin b { r with flags := f + flagAt isOpen o + flagAt poison (o + 2) }

def State.flagOpen (s : State) (u b : Nat) : Bool := (s.binRec b).flags.testBit (if u < 4 then 0 else 1)

/-- A context leaves the chip for its bin (R201, R222); it takes no key material with it (R204). -/
def State.saveCtx (s : State) (u k : Nat) : State :=
  let c := (s.unit u).ctx k
  match c.bin with
  | some b =>
    ((s.setArea u b (some (u, { c with mats := none }))).touchBin b).modUnit u fun t =>
      { t with ctxs := tdel t.ctxs k }
  | none => s

/-- A saved context takes a place on chip. -/
def State.restoreCtx (s : State) (u b k : Nat) (c : Ctx) : State :=
  ((s.setArea u b none).touchBin b).modUnit u fun t =>
    { t with ctxs := tset t.ctxs k { c with used := t.stamp }, stamp := t.stamp + 1 }

/-- The bin an idle binned context of a unit is to be saved to, least recently used first (R201). -/
def UnitSt.lruIdle (t : UnitSt) : Option (Nat × Nat) :=
  (t.ctxs.foldl (fun (best : Option (Nat × Nat × Nat)) e =>
    match e.2.bin with
    | some b =>
      if e.2.poisoned || !t.idle e.1 then best
      else match best with
        | some (_, _, o) => if e.2.used < o then some (e.1, b, e.2.used) else best
        | none => some (e.1, b, e.2.used)
    | none => best) none).map fun x => (x.1, x.2.1)

/-- An engine's request for a bin that is cold waits for the fill (R265). -/
def State.engineWants (s : State) (u b : Nat) : State :=
  if s.bin.waits.any fun w => w.who == .engine u && w.bin == b then s
  else s.binEnqueue { who := .engine u, cmd := 0, bin := b } s.noFrame

/-- A context's state and key material are gone, on chip and in its bin's area (R208 step 3); a poisoned one keeps its
place, its bin and its instance (R207). -/
def State.wipeCtx (s : State) (u : Nat) (k : Option Nat) (b : Option Nat) (poison : Bool) : State :=
  let s1 := match k with
    | some k =>
      s.modUnit u fun t =>
        { t with ctxs := if poison then tset t.ctxs k { bin := b, inst := (t.ctx k).inst, poisoned := true } else tdel t.ctxs k,
                 running := if t.running.any (fun r => r.1 == k) then none else t.running }
    | none => s
  match b with
  | some b =>
    let s2 := if (s1.binRec b).st = .free then s1 else (s1.setArea u b none).setFlags u b false poison
    s2
  | none => s1

/-! ### Descriptors of the queue -/

/-- A queued descriptor is read with its submitter's ID (R194, R195); one whose fetch is refused is dropped, and none is
left of it. -/
def State.unitRead (s : State) (u i : Nat) : State × Option (List Byte) :=
  match (s.unit u).queue[i]? with
  | none => (s, none)
  | some q =>
    match q.desc with
    | some d => (s, some d)
    | none =>
      let m := s.engRead q.agent q.addr (descLen u)
      if m.fault ≠ .none then
        ((m.st.modUnit u fun t => { t with queue := t.queue.eraseIdx i }).unitDrop u q.addr, none)
      else (m.st.modUnit u fun t => { t with queue := t.queue.set i { q with desc := some m.data } }, some m.data)

/-- Every queued descriptor from the `i`th on is read: what concerns a context or an instance must know which of them it
meets (R201, R208, R209; DEDUCED, notes/assumptions/29.md). -/
def State.unitLookFrom (s : State) (u i : Nat) : Nat → State
  | 0 => s
  | k + 1 =>
    match s.unitRead u i with
    | (t, some _) => t.unitLookFrom u (i + 1) k
    | (t, none) => t.unitLookFrom u i k

def State.unitLook (s : State) (u : Nat) : State :=
  if (s.unit u).queue.all fun q => q.desc.isSome then s else s.unitLookFrom u 0 (s.unit u).queue.length

/-- Entries that name a bin, up to one that begins another job for it. -/
def jobEntries (qs : List QEntry) (b : Nat) : List QEntry :=
  let mine := qs.filter fun q => match q.desc with | some d => descBin d == some b | none => false
  mine.takeWhile fun q => match q.desc with | some d => !(descOf true d).first | none => true

/-! ### Clearing (R208, R224) -/

/-- Input bytes accepted for the open job of a place or of a bin (R193). -/
def State.jobConsumed (s : State) (u : Nat) (k b : Option Nat) : Nat :=
  match k with
  | some k => ((s.unit u).ctx k).consumed
  | none => ((b.bind fun b => s.savedCtx u b).map (·.consumed)).getD 0

/-- The prepared and queued segments of a job complete with ABORTED, but for the failing one (R208 step 2). -/
def State.abortJob (s : State) (u : Nat) (k b : Option Nat) (except : Nat) : State :=
  let n := s.jobConsumed u k b
  let mine (g : Segment) : Bool := (k.isSome && g.ctx == k) || (b.isSome && descBin g.desc == b)
  let es := match b with | some b => jobEntries (s.unit u).queue b | none => []
  let s1 := s.modUnit u fun t =>
    { t with segs := t.segs.map (fun g =>
        if mine g && g.stamp != except && g.code.isNone then { g with code := some 21, ctx := none, total := n } else g),
             queue := t.queue.filter fun q => !es.contains q }
  es.foldl (fun (t : State) q => t.addSeg u
    { addr := q.addr, agent := q.agent, expect := q.expect, desc := q.desc.getD [], code := some 21, total := n }) s1

/-- A job's context is cleared (R208, R224): its segments are aborted and its state overwritten; false while the wire makes
the clearing wait. -/
def State.clearJob (s : State) (u : Nat) (k b : Option Nat) (except : Nat) (poison : Bool) : State × Bool :=
  let r := (s.unitLook u).clearDraw u
  if r.2 then ((r.1.abortJob u k b except).wipeCtx u k b poison, true) else (r.1, false)

/-! ### Completion (R200, R220) -/

/-- A segment's RESULT word. -/
def Segment.result (g : Segment) (isOpen : Bool) : Nat :=
  g.code.getD 0 + flagAt g.trunc 8 + flagAt g.matched 9 + flagAt (g.iv != []) 10 + flagAt isOpen 29 +
    0x80000000

/-- IV, OUTLEN and CONSUMED, then RESULT, written with the submitter's ID; false where a write is refused, which drops the
outcome (R194, R200). -/
def State.writeResult (s : State) (u : Nat) (g : Segment) (consumed : Nat) (isOpen : Bool) : State × Bool :=
  let w (x : MemAns) (addr : Nat) (bs : List Byte) : MemAns :=
    if bs = [] || x.fault != .none then x else x.st.engWrite g.agent addr bs
  let o := resultOff u
  let x0 : MemAns := { st := s }
  let x1 := w x0 (g.addr + 48) g.iv
  let x2 := w x1 (g.addr + o + 4) (leBytes 4 g.outlen)
  let x3 := w x2 (g.addr + o + 8) (leBytes 8 consumed)
  let x4 := w x3 (g.addr + o) (leBytes 4 (g.result isOpen))
  if x4.fault = .none then (x4.st, true) else (x4.st.unitDrop u g.addr, false)

/-- Counters, errors and the interrupt of a completion (R191, R196, R200). -/
def State.countDone (s : State) (u : Nat) (g : Segment) : State :=
  let pg := unitPage u
  let s1 := s.cnt pg 0x114
  let s2 := if g.trunc then s1.cnt pg 0x120 else s1
  let s3 := if g.code = some 2 then s2.err pg 18 else s2
  let s4 := if g.code = some 14 then s3.err pg 19 else s3
  if (unitDesc u g.desc).irq then s4.irq pg 0 else s4

/-- A code that ends the job (R196): run failures, a fault and final failures. -/
def endsJob (c : Nat) : Bool := 13 ≤ c && c ≤ 20

/-- A job is open for a bin on a unit, on chip or saved (R196, R201). -/
def State.jobOpen (s : State) (u b : Nat) : Bool :=
  match (s.unit u).placeOf b with
  | some k => !((s.unit u).ctx k).poisoned
  | none => (s.savedCtx u b).isSome

/-- A job is still open after a segment (R200): the first segment of a job that never opened has none. -/
def State.openAfter (s : State) (u : Nat) (g : Segment) : Bool :=
  !((unitDesc u g.desc).first && g.code != some 0) &&
    (match descBin g.desc with | some b => s.jobOpen u b | none => false)

/-- CONSUMED of a segment (R193): a segment that failed before it ran reports what its open job has consumed. -/
def State.segConsumed (s : State) (u : Nat) (g : Segment) : Nat :=
  if g.ctx.isSome || g.code = some 21 || (unitDesc u g.desc).first then g.total
  else
    match descBin g.desc with
    | some b => if s.jobOpen u b then s.jobConsumed u ((s.unit u).placeOf b) (some b) else g.total
    | none => g.total

/-- The place and bin of a segment's job, where it is open. -/
def State.jobOf (s : State) (u : Nat) (g : Segment) : Option Nat × Option Nat :=
  let b := descBin g.desc
  (match g.ctx, b with
    | some k, _ => some k
    | none, some b => (s.unit u).placeOf b
    | none, none => none, b)

/-- A segment's outcome is written and the segment leaves the unit. Where the write is refused the job is treated as failed
with GATE (R194), and its context cleared first. -/
def State.unitRetire (s : State) (u : Nat) (g : Segment) : State :=
  let w := if g.dropped then (s, true) else s.writeResult u g (s.segConsumed u g) (s.openAfter u g)
  if w.2 then (w.1.dropSeg u g).countDone u g
  else
    let j := w.1.jobOf u g
    if !(match j.1, j.2 with
         | some k, _ => (tfind (w.1.unit u).ctxs k).isSome
         | none, some b => w.1.jobOpen u b
         | none, none => false) then (w.1.dropSeg u g).countDone u g
    else
      let r := w.1.clearJob u j.1 j.2 g.stamp false
      if r.2 then (r.1.dropSeg u g).countDone u g
      else r.1.setSeg u g.stamp { g with code := some 13, dropped := true }

/-- A segment that has ended completes (R196, R200, R208): a failing job's context is cleared first, poisoned after a fault
(R207); a finished job's context is closed, and so is the place of a one-shot job. -/
def State.unitComplete (s : State) (u : Nat) : State :=
  match (s.unit u).ended with
  | none => s
  | some g =>
    let d := unitDesc u g.desc
    let code := g.code.getD 0
    let j := s.jobOf u g
    let stands := match j.1, j.2 with
      | some k, _ => (tfind (s.unit u).ctxs k).isSome
      | none, some b => s.jobOpen u b
      | none, none => false
    if endsJob code && stands && !(d.first && g.ctx.isNone) then
      let r := s.clearJob u j.1 j.2 g.stamp (code == 16 && j.2.isSome)
      if r.2 then r.1.unitRetire u g else r.1
    else
      let ends := g.ctx.isSome && d.op < 0x10 && ((code = 0 && d.final) || descBin g.desc == none)
      (if ends then s.wipeCtx u g.ctx j.2 false else s).unitRetire u g

/-! ### The checks both families share -/

/-- The code of a failed input read or output write (R196). -/
def runFault : BusFault → Nat
  | .data | .parity => 14
  | .timeout => 15
  | _ => 13

/-- The code of a use that was refused (R196): 0 admitted, 99 the class key is awaited. -/
def useCode : UseVerdict → Nat
  | .ok => 0 | .wait => 99 | .empty => 9 | .type => 10 | .usage => 11 | .owner => 12

/-- The agent of a job (R195). -/
def jobAgent (sub inst : Nat) : Nat := if inst < 64 then 0x40 + inst else sub

/-- A submitter may name this tag (R195). -/
def tagAllowed (sub inst : Nat) : Bool :=
  inst == 0x7F || classOf sub == .sys || classOf sub == .keyd || sub == 0x40 + inst

/-- The checks on BIN and context that both families share, in the order of the codes: NO_CTX (5), CTX_BUSY (6), POISONED
(7), NO_BACKING (8). `opens` that the segment is to open a context. A FREE bin has none (R265), and none can be open for a
bin that does not exist; a poisoned context is named as such whatever the segment asks of it (DEDUCED,
notes/assumptions/83.md). -/
def State.ctxCheck (s : State) (u : Nat) (d : Desc) (opens : Bool) : Nat :=
  if !d.binv then 0
  else
    let r := s.binRec d.bin
    let here := (s.unit u).placeOf d.bin
    let poisoned := match here with
      | some k => ((s.unit u).ctx k).poisoned
      | none => r.flags.testBit (if u < 4 then 2 else 3)
    let stands := here.isSome || (s.savedCtx u d.bin).isSome
    if 256 * s.binCount ≤ d.bin then (if opens then 8 else 5)
    else if r.st = .free then 5
    else if poisoned then 7
    else if opens then (if stands || s.flagOpen u d.bin then 6 else 0)
    else if stands then 0 else 5

/-- OWNER (R195): the tag is not the submitter's to name, or not the bin's. -/
def State.ctxOwner (s : State) (sub : Nat) (d : Desc) : Bool :=
  !tagAllowed sub d.inst || (d.binv && (s.binRec d.bin).inst != d.inst)

/-- What is left once the job is admitted: DATA for a LOST bin (R265), or a wait for a cold bin (99), for a saved context
(97) or for a place (98). -/
def State.ctxWait (s : State) (u : Nat) (d : Desc) : Nat :=
  let full := if (s.unit u).freePlace.isNone then 98 else 0
  if !d.binv then full
  else
    match (s.binRec d.bin).st with
    | .lost => 14
    | .cold => 99
    | _ =>
      if ((s.unit u).placeOf d.bin).isSome then 0
      else if (s.savedCtx u d.bin).isSome then 97 else full

/-! ### Draining and resets (R209, R210, R225) -/

/-- The contexts of an instance cleared, on chip and saved, each behind its draw (R208, R209); false while the wire makes one
wait. -/
def State.drainCtxs (s : State) (u nn : Nat) : Nat → State × Bool
  | 0 => (s, true)
  | fuel + 1 =>
    let here := (s.unit u).ctxs.find? fun e => e.2.inst == nn
    let saved := s.bin.bins.find? fun e => (s.savedCtx u e.1).any fun c => c.inst == nn
    let r := s.clearDraw u
    match here, saved with
    | some e, _ => if r.2 then (r.1.wipeCtx u (some e.1) e.2.bin false).drainCtxs u nn fuel else (r.1, false)
    | none, some e => if r.2 then (r.1.wipeCtx u none (some e.1) false).drainCtxs u nn fuel else (r.1, false)
    | none, none => (s, true)

/-- Queued and prepared segments of an instance are squashed, its contexts cleared (R209); false while a clearing waits. -/
def State.unitDrain (s0 : State) (u nn : Nat) : State × Bool :=
  let s := s0.unitLook u
  let t := s.unit u
  let mineQ (e : QEntry) : Bool := match e.desc with | some d => (unitDesc u d).inst == nn | none => false
  let mineS (g : Segment) : Bool := g.own.isNone && (unitDesc u g.desc).inst == nn
  let gone := (t.queue.filter mineQ).length + (t.segs.filter mineS).length
  let s1 := s.setUnit u
    { t with queue := t.queue.filter fun e => !mineQ e, segs := t.segs.filter fun g => !mineS g }
  let s2 := (List.range gone).foldl (fun (x : State) _ => x.cnt (unitPage u) 0x124) s1
  s2.drainCtxs u nn (t.ctxs.length + s.bin.bins.length)

/-- Every unit drained of an instance; false while one waits. -/
def State.unitsDrain (s : State) (nn : Nat) : State × Bool :=
  (List.range 10).foldl (fun (r : State × Bool) u => let x := r.1.unitDrain u nn; (x.1, r.2 && x.2)) (s, true)

/-- One on-chip context is gone; with `keep` its bin stays poisoned where it was (R207). -/
def State.emptyPlace (s : State) (u k : Nat) (keep : Bool) : State :=
  let c := (s.unit u).ctx k
  (s.wipeCtx u (some k) c.bin (keep && c.poisoned)).modUnit u fun t => { t with ctxs := tdel t.ctxs k }

/-- On-chip contexts of a unit cleared, each behind its draw, all of them or those with a bin; `keep` keeps poison flags.
False while the wire makes one wait. -/
def State.clearCtxs (s : State) (u : Nat) (all keep : Bool) : Nat → State × Bool
  | 0 => (s, true)
  | fuel + 1 =>
    match (s.unit u).ctxs.find? fun e => all || e.2.bin.isSome with
    | none => (s, true)
    | some e =>
      let r := s.clearDraw u
      if r.2 then
        ((r.1.abortJob u (some e.1) e.2.bin (r.1.unit u).stamp).emptyPlace u e.1 keep).clearCtxs u all keep fuel
      else (r.1, false)

/-- A block reset (R210, R225): every on-chip context is cleared, then every queued and running segment completes with
ABORTED; saved contexts stay, and bins that are poisoned stay poisoned. While a clearing waits for the wire the unit does
nothing else. -/
def State.unitBlockReset (s : State) (u : Nat) : State :=
  let s1 := (s.unitLook u).modUnit u fun t =>
    { t with resetting := true, wants := [], segs := t.segs.filter fun g => g.own.isNone }
  let r := s1.clearCtxs u true true 16
  if !r.2 then r.1
  else
    let t := r.1.unit u
    let queued : List Segment := t.queue.map fun e =>
      { addr := e.addr, agent := e.agent, desc := e.desc.getD [] }
    let out (x : State) (g : Segment) : State :=
      let n := if g.code = some 21 || (unitDesc u g.desc).first then g.total else x.jobConsumed u none (descBin g.desc)
      if g.dropped then x else (x.writeResult u { g with code := some 21 } n false).1
    ((t.segs ++ queued).foldl out r.1).setUnit u {}

/-- The clearing of a unit's binned contexts goes on (R270 step 1). -/
def State.unbinUnit (s : State) (u : Nat) : State :=
  let r := ((s.unitLook u).modUnit u fun t => { t with unbin := true }).clearCtxs u false false 16
  if r.2 then r.1.modUnit u fun t => { t with unbin := false } else r.1

/-- Every binned context of a family's units aborted, on chip and saved (R270 step 1). Saved ones go with the bins. -/
def State.abortBinned (s : State) : State :=
  let s1 := (List.range 10).foldl (fun (x : State) u =>
    if ((x.unit u).ctxs.any fun e => e.2.bin.isSome) then x.unbinUnit u else x) s
  { s1 with bin := { s1.bin with bins := tmap s1.bin.bins fun _ r =>
      { r with press := none, digest := none, flags := r.flags &&& 0xF0 } } }

/-- A unit does nothing else while a clearing of a block reset waits for the wire. -/
def State.unitRuns (s : State) (u : Nat) (f : State → State) : State :=
  if (s.unit u).resetting || (s.unit u).unbin then s else f s

/-- A clearing that a block reset left waiting is taken up again before the unit does anything else. -/
def State.unitWork (s : State) (u : Nat) (f : State → State) : State :=
  if (s.unit u).resetting then s.unitBlockReset u
  else if (s.unit u).unbin then s.unbinUnit u
  else f s

end Sys2Proof.Machine
end

