-- ==== Sys2Proof/Machine/PressCtl.lean ====
section
/-!
DEFINITION. The Press units (chapter "Press symmetric engine", R190–R212): the checks of a descriptor, the
modes of operation with chaining state carried between segments, quanta, context commands and wrapped
contexts.
-/
namespace Sys2Proof.Machine

/-! ### Checks (R191–R196) -/

/-- A mode that takes padding. -/
def padMode (m : Nat) : Bool := m == 1 || m == 2 || m == 9 || m == 10

def macMode (m : Nat) : Bool := m == 8 || m == 9 || m == 10

def aeadMode (m : Nat) : Bool := m == 5 || m == 6

/-- An algorithm a mode is defined for (R191). -/
def modeAlg (m alg : Nat) : Bool :=
  if m = 3 || m = 5 || m = 6 || m = 7 then alg == 1
  else if m = 10 then alg == 2
  else (alg == 1 || alg == 2) && (m == 1 || m == 2 || m == 4 || m == 8 || m == 9)

/-- FLAGS of a Press descriptor. -/
def flagDir (d : List Byte) : Bool := (byteAt d 2).getLsbD 0
def flagPad (d : List Byte) : Bool := (byteAt d 2).getLsbD 3
def flagInv (d : List Byte) : Bool := (byteAt d 2).getLsbD 4
def flagGeniv (d : List Byte) : Bool := (byteAt d 2).getLsbD 7

/-- FORMAT of a segment (R193, R195, R196). -/
def pressFormat (d : List Byte) (ctx : Option Ctx) : Bool :=
  let e := descOf true d
  let key := leAt d 4 2
  let key2 := leAt d 6 2
  (e.inst ≥ 64 && e.inst != 0x7F) || leAt d 28 4 != 0 || leAt d 37 3 != 0 || leAt d 45 3 != 0 ||
  (!e.binv && !(e.first && e.final)) ||
  (e.first &&
    (1024 ≤ key || (if e.op = 7 then 1024 ≤ key2 || key == key2 else key2 != 0) || 2 ^ 40 ≤ e.tot)) ||
  (!e.first && (match ctx with
    | some c => c.mode != e.op || c.alg != e.alg || c.inst != e.inst
    | none => false))

/-- UNSUPPORTED (R190–R192, R211). -/
def pressUnsup (d : List Byte) (unit : Nat) : Bool :=
  let e := descOf true d
  !(1 ≤ e.op && e.op ≤ 10) || !modeAlg e.op e.alg || (e.alg == 2 && unit != 0) ||
    (flagPad d && !padMode e.op) || (flagGeniv d && !(e.op == 5 && !flagDir d))

/-- ALIGN (R192). -/
def pressAlign (d : List Byte) : Bool :=
  let e := descOf true d
  let b := blockLen e.alg
  e.first && (e.op == 1 || e.op == 2) &&
    (if flagPad d && !flagDir d then false
     else e.tot % b != 0 || (flagPad d && flagDir d && e.tot == 0))

/-- LENGTH (R191, R193). -/
def pressLength (d : List Byte) : Bool :=
  let e := descOf true d
  let tl := leAt d 3 1
  let iv := leAt d 11 1
  let aad := leAt d 24 4
  let b := blockLen e.alg
  2 ^ 24 < e.seglen ||
  (e.first &&
    (match e.op with
     | 5 => !(tl == 4 || tl == 8 || (12 ≤ tl && tl ≤ 16)) || iv != 12 || 2 ^ 36 - 32 < e.tot
     | 6 => !(4 ≤ tl && tl ≤ 16 && tl % 2 == 0) || !(7 ≤ iv && iv ≤ 13) || 2 ^ (8 * (15 - iv)) ≤ e.tot
     | 7 => tl != 0 || iv != 0 || aad != 0 || e.tot < 16 || 16777216 < e.tot
     | 8 | 9 => !(4 ≤ tl && tl ≤ b) || iv != 0 || aad != 0
     | 10 => !(4 ≤ tl && tl ≤ 8) || iv != 0 || aad != 0
     | _ => tl != 0 || iv != 0 || aad != 0))

/-- The usage bit a job needs (R171, R191). -/
def pressUsage (mode tot : Nat) (dir : Bool) : Nat :=
  if macMode mode || (mode == 5 && tot == 0) then 6 else if dir then 1 else 0

/-- Key types that fit (R170, R191). -/
def pressType (mode alg t : Nat) : Bool :=
  if alg = 2 then t == 4 else if mode = 7 then t == 1 || t == 3 else 1 ≤ t && t ≤ 3

/-- The code of a job's key uses: KEY, and KEY2 for XTS, of one type (R191, R196). -/
def State.pressKeys (s : State) (agent inst mode alg tot : Nat) (dir : Bool) (key key2 : Nat) : Nat :=
  let bit := pressUsage mode tot dir
  let c1 := useCode (s.judgeUse agent inst key (pressType mode alg) bit)
  if mode ≠ 7 then c1
  else
    let t1 := ((s.slot key).map (·.typ)).getD 0
    let c2 := useCode (s.judgeUse agent inst key2 (fun t => pressType mode alg t && t == t1) bit)
    if c1 = 0 then c2 else if c2 = 0 then c1 else min c1 c2

/-! ### Modes of operation -/

/-- The chaining state at FIRST: chain, accumulator and pending bytes. -/
def Ctx.start (c : Ctx) (m1 m2 iv : List Byte) : Ctx :=
  let b := blockLen c.alg
  match c.mode with
  | 5 => { c with iv := iv.take 12, chain := gcmJ0 iv, acc := zeros 16, part := [] }
  | 6 =>
    let n := iv.take c.ivlen
    { c with iv := n, chain := ccmCtr n 0, acc := aesEnc m1 (ccmB0 n c.taglen c.aadlen c.totlen),
             part := ccmAadLen c.aadlen }
  | 7 => { c with iv := iv.take 16, chain := aesEnc m2 (iv.take 16), part := [] }
  | 8 => { c with acc := zeros b, part := [] }
  | 9 | 10 => { c with acc := iv.take b, part := [] }
  | _ => { c with iv := iv.take b, chain := iv.take b, part := [] }

/-- A MAC block: chained under the cipher, for MAC algorithm 3 under single DES with K1. -/
def Ctx.macBlock (c : Ctx) (m1 blk : List Byte) : List Byte :=
  let x := xorBytes c.acc blk
  if c.mode = 10 then beBytes 8 (desEnc (tdesKey m1 0) (beNat x)) else ciph c.alg m1 x

/-- One whole payload block: the state after and its output (R191). -/
def Ctx.block (c : Ctx) (m1 blk : List Byte) : Ctx × List Byte :=
  match c.mode with
  | 1 => (c, if c.dir then deciph c.alg m1 blk else ciph c.alg m1 blk)
  | 2 =>
    if c.dir then ({ c with chain := blk }, xorBytes (deciph c.alg m1 blk) c.chain)
    else let o := ciph c.alg m1 (xorBytes blk c.chain); ({ c with chain := o }, o)
  | 3 => ({ c with chain := incBlock 16 c.chain }, xorBytes blk (aesEnc m1 c.chain))
  | 4 =>
    let o := xorBytes blk (ciph c.alg m1 c.chain)
    ({ c with chain := if c.dir then blk else o }, o)
  | 5 =>
    let n := incBlock 4 c.chain
    let o := xorBytes blk (aesEnc m1 n)
    let h := aesEnc m1 (zeros 16)
    ({ c with chain := n, acc := ghashStep h c.acc (if c.dir then blk else o) }, o)
  | 6 =>
    let n := incBlock (15 - c.ivlen) c.chain
    let o := xorBytes blk (aesEnc m1 n)
    ({ c with chain := n, acc := aesEnc m1 (xorBytes c.acc (if c.dir then o else blk)) }, o)
  | 7 =>
    let x := xorBytes blk c.chain
    let o := xorBytes (if c.dir then aesDec m1 x else aesEnc m1 x) c.chain
    ({ c with chain := doubleBlock false c.chain }, o)
  | _ => ({ c with acc := c.macBlock m1 blk }, [])

/-- Payload bytes at the end of the message that are held for FINAL. -/
def Ctx.reserve (c : Ctx) : Nat :=
  let b := blockLen c.alg
  if c.mode = 7 then (if c.totlen % 16 = 0 then 0 else 16 + c.totlen % 16)
  else if c.mode = 8 then (if c.totlen = 0 then 0 else (c.totlen - 1) % b + 1)
  else if c.pad && c.dir && (c.mode == 1 || c.mode == 2) then b
  else c.totlen % b

/-- Whole blocks out of the pending bytes while they lie before the reserve; `done` counts payload bytes
already processed. -/
def Ctx.drain (c : Ctx) (m1 : List Byte) (done fuel : Nat) : Ctx × List Byte :=
  match fuel with
  | 0 => (c, [])
  | k + 1 =>
    let b := blockLen c.alg
    if c.part.length < b || c.totlen - c.reserve < done + b then (c, [])
    else
      let r := ({ c with part := c.part.drop b } : Ctx).block m1 (c.part.take b)
      let q := r.1.drain m1 (done + b) k
      (q.1, r.2 ++ q.2)

/-- Additional data: whole blocks into the accumulator, and at its end the rest filled with zeros. -/
def Ctx.aad (c : Ctx) (m1 bs : List Byte) (atEnd : Bool) : Ctx :=
  let x := c.part ++ bs
  let n := if atEnd then x.length else x.length / 16 * 16
  let step (acc blk : List Byte) : List Byte :=
    if c.mode = 5 then ghashStep (aesEnc m1 (zeros 16)) acc blk else aesEnc m1 (xorBytes acc blk)
  { c with acc := (paddedBlocks (x.take n)).foldl step c.acc, part := x.drop n }

/-- Input bytes of a job taken in order: additional data, then payload (R197, R198). -/
def Ctx.take (c : Ctx) (m1 bs : List Byte) : Ctx × List Byte :=
  let a := min (c.aadlen - c.consumed) bs.length
  let pay := bs.drop a
  let c1 := if a = 0 then c else c.aad m1 (bs.take a) (c.consumed + a == c.aadlen)
  let paid := c.consumed + a - c.aadlen
  let done := paid - c1.part.length
  let c2 := { c1 with consumed := c.consumed + bs.length, part := c1.part ++ pay }
  if c.consumed + bs.length ≤ c.aadlen then ({ c1 with consumed := c.consumed + bs.length }, [])
  else c2.drain m1 (if paid = 0 then 0 else done) (pay.length / blockLen c.alg + 2)

/-- PKCS#7 padding of a partial block. -/
def pkcs7 (b : Nat) (bs : List Byte) : List Byte :=
  bs ++ List.replicate (b - bs.length) (BitVec.ofNat 8 (b - bs.length))

/-- PKCS#7 padding removed; none when it is not valid. -/
def unpkcs7 (blk : List Byte) : Option (List Byte) :=
  let n := (blk.getLastD 0).toNat
  if 1 ≤ n && n ≤ blk.length && (blk.drop (blk.length - n)).all (· == BitVec.ofNat 8 n)
  then some (blk.take (blk.length - n)) else none

/-- The last block of a MAC message: its padding under R192, then the closing of each mode. -/
def Ctx.macFinal (c : Ctx) (m1 : List Byte) : List Byte :=
  let b := blockLen c.alg
  if c.mode = 8 then
    (let whole := c.part.length == b
     let blk := if whole then c.part else fitTo b (c.part ++ [0x80])
     c.macBlock m1 (xorBytes blk (cmacKey c.alg m1 (!whole))))
  else
    let last : Option (List Byte) :=
      if c.pad then some (fitTo b (c.part ++ [0x80]))
      else if c.part != [] || c.totlen == 0 then some (fitTo b c.part) else none
    let acc := match last with | some l => c.macBlock m1 l | none => c.acc
    if c.mode = 10 then
      beBytes 8 (desEnc (tdesKey m1 0) (desDec (tdesKey m1 1) (beNat acc)))
    else acc

/-- XTS with ciphertext stealing over the last block and a half (IEEE 1619). -/
def Ctx.steal (c : Ctx) (m1 : List Byte) : List Byte :=
  let x (t blk : List Byte) : List Byte :=
    xorBytes (if c.dir then aesDec m1 (xorBytes blk t) else aesEnc m1 (xorBytes blk t)) t
  let t0 := c.chain
  let t1 := doubleBlock false t0
  let a := c.part.take 16
  let r := c.part.drop 16
  let first := x (if c.dir then t1 else t0) a
  x (if c.dir then t0 else t1) (r ++ first.drop r.length) ++ first.take r.length

/-- What FINAL adds: output bytes, the tag or MAC, or PAD_BAD (R192, R198). -/
def Ctx.finish (c : Ctx) (m1 : List Byte) : Option (List Byte × List Byte) :=
  let b := blockLen c.alg
  match c.mode with
  | 1 | 2 =>
    if !c.pad then some ([], [])
    else if !c.dir then some ((c.block m1 (pkcs7 b c.part)).2, [])
    else (unpkcs7 (c.block m1 c.part).2).map fun x => (x, [])
  | 3 | 4 => some (if c.part = [] then [] else (c.block m1 c.part).2, [])
  | 5 =>
    let r := if c.part = [] then (c, []) else
      (let n := incBlock 4 c.chain
       let o := xorBytes c.part (aesEnc m1 n)
       ({ c with acc := ghashStep (aesEnc m1 (zeros 16)) c.acc (fitTo 16 (if c.dir then c.part else o)) }, o))
    let g := ghashStep (aesEnc m1 (zeros 16)) r.1.acc (gcmLengths c.aadlen c.totlen)
    some (r.2, xorBytes g (aesEnc m1 (gcmJ0 c.iv)))
  | 6 =>
    let r := if c.part = [] then (c, []) else
      (let n := incBlock (15 - c.ivlen) c.chain
       let o := xorBytes c.part (aesEnc m1 n)
       ({ c with acc := aesEnc m1 (xorBytes c.acc (fitTo 16 (if c.dir then o else c.part))) }, o))
    some (r.2, xorBytes r.1.acc (aesEnc m1 (ccmCtr c.iv 0)))
  | 7 => some (if c.part = [] then [] else c.steal m1, [])
  | _ => some ([], c.macFinal m1)

/-! ### Preparation (R194–R201) -/

/-- The context a FIRST segment opens. -/
def pressCtx (d : List Byte) (agent stamp : Nat) : Ctx :=
  let e := descOf true d
  { bin := if e.binv then some e.bin else none, mode := e.op, alg := e.alg, dir := flagDir d,
    pad := flagPad d, inv := flagInv d, agent := agent, inst := e.inst, key := leAt d 4 2,
    key2 := leAt d 6 2, ivlen := leAt d 11 1, taglen := leAt d 3 1, aadlen := leAt d 24 4, totlen := e.tot,
    used := stamp }

/-- FORMAT of a context command: every other field is zero (R205). -/
def ctxCmdFormat (d : List Byte) : Bool :=
  let e := descOf true d
  (e.inst ≥ 64 && e.inst != 0x7F) || byteAt d 2 != 0x20 || byteAt d 1 != 0 || leAt d 3 5 != 0 ||
    leAt d 11 21 != 0 || (if e.op = 0x12 then leAt d 37 3 != 0 else leAt d 32 8 != 0) ||
    (if e.op = 0x11 then leAt d 45 3 != 0 else leAt d 40 8 != 0) || leAt d 48 32 != 0

/-- The code a context command of either family fails with before it runs, 0 when it is admitted, 99 when its bin is to be
filled (R205, R222, R265): IMPORT opens a context; ABORT takes a poisoned one. -/
def State.ctxCmdCheck (s : State) (u sub : Nat) (bad : Bool) (e : Desc) : Nat :=
  if bad then 1
  else
    let cc := s.ctxCheck u e (e.op == 0x12)
    if cc ≠ 0 && !(cc = 7 && e.op = 0x13) then cc
    else if s.ctxOwner sub e then 12
    else if (s.binRec e.bin).st = .lost then 14
    else if (s.binRec e.bin).st = .cold && (e.op = 0x11 || e.op = 0x12) then 99 else 0

/-- The code a segment fails with before it runs, 0 when it is admitted, 97 to 99 when it waits. -/
def State.pressCheck (s : State) (u sub : Nat) (d : List Byte) : Nat :=
  let e := descOf true d
  let t := s.unit u
  let ctx := match t.placeOf e.bin with
    | some k => if e.binv && !(t.ctx k).poisoned then some (t.ctx k) else none
    | none => if e.binv then s.savedCtx u e.bin else none
  let agent := jobAgent sub e.inst
  if 0x10 ≤ e.op && e.op ≤ 0x13 then s.ctxCmdCheck u sub (ctxCmdFormat d) e
  else if pressFormat d ctx then 1
  else if pressUnsup d u then 2
  else if pressAlign d then 3
  else if pressLength d then 4
  else
    let cc := s.ctxCheck u e e.first
    let kc := if e.first then
        s.pressKeys agent e.inst e.op e.alg e.tot (flagDir d) (leAt d 4 2) (leAt d 6 2)
      else 0
    if cc ≠ 0 then cc
    else if kc ≠ 0 && kc ≠ 99 && kc ≠ 12 then kc
    else if kc = 12 || s.ctxOwner sub e then 12
    else
      let wc := s.ctxWait u e
      if wc ≠ 0 then wc else kc

/-- A fetched descriptor becomes a prepared segment, or fails; none when it waits in the queue. -/
def State.pressPrepare (s : State) (u : Nat) (q : QEntry) (d : List Byte) : Option State :=
  let e := descOf true d
  let t := s.unit u
  let g : Segment := { addr := q.addr, agent := q.agent, desc := d }
  match s.pressCheck u q.agent d with
  | 97 | 98 | 99 => none
  | 0 =>
    if 0x10 ≤ e.op then some (s.addSeg u { g with ctx := t.placeOf e.bin })
    else if e.first then
      match t.freePlace with
      | none => none
      | some k =>
        let c := pressCtx d (jobAgent q.agent e.inst) t.stamp
        let m1 := s.slotMat c.key
        let m2 := if c.mode = 7 then s.slotMat c.key2 else []
        let iv := (d.drop 48).take 16
        let c1 := ({ c with mats := some (m1, m2) } : Ctx).start m1 m2 iv
        let s1 := s.setCtx u k c1
        let s2 := if e.binv then (s1.setFlags u e.bin true false).touchBin e.bin else s1
        some (s2.addSeg u { g with ctx := some k, waitIv := flagGeniv d })
    else
      match t.placeOf e.bin with
      | some k => some (s.addSeg u { g with ctx := some k, total := (t.ctx k).consumed })
      | none => none
  | code => some (s.addSeg u { g with code := some code })

/-- A segment or context command of a bin is prepared for which a later one waits: the job's last segment, or a context
command (R200, R205). -/
def UnitSt.binHeld (t : UnitSt) (u b : Nat) : Bool :=
  t.segs.any fun g =>
    descBin g.desc == some b && ((unitDesc u g.desc).final || 0x10 ≤ (unitDesc u g.desc).op)

/-- A queued descriptor does not pass an earlier one of its bin that waits, nor a pending end of its job (R200, R201); an
ABORT passes all but an earlier FIRST or IMPORT (R208; DEDUCED, notes/assumptions/83.md). `waiting` lists the bins with an
earlier entry that waits, and whether that opens a job. -/
def UnitSt.entryWaits (t : UnitSt) (u : Nat) (waiting : List (Nat × Bool)) (d : List Byte) : Bool :=
  match descBin d with
  | none => false
  | some b =>
    if (unitDesc u d).op = 0x13 then waiting.contains (b, true)
    else (waiting.any fun w => w.1 == b) || t.binHeld u b

/-- The next descriptor that can be prepared, oldest first, from the `i`th of the queue on; a fetch that is refused drops
its job (R194, R201). `prep` is the family's preparation; `placed` that an entry waits for a place. -/
def State.unitFetch (s : State) (u : Nat) (prep : State → QEntry → List Byte → Option State) (i : Nat)
    (waiting : List (Nat × Bool)) (placed : Bool) (qs : List QEntry) : State :=
  match qs with
  | [] =>
    if placed && (s.unit u).freePlace.isNone && (s.unit u).lruIdle.isNone then s.irq (unitPage u) 3 else s
  | q :: rest =>
    match s.unitRead u i with
    | (t, none) => t
    | (t, some d) =>
      let e := unitDesc u d
      let opens := e.first || e.op = 0x12
      let pass (x : State) (p : Bool) : State :=
        x.unitFetch u prep (i + 1) (match descBin d with | some b => waiting ++ [(b, opens)] | none => waiting) p rest
      if (t.unit u).entryWaits u waiting d then pass t placed
      else
        match prep t { q with desc := some d } d with
        | some x => x.modUnit u fun y => { y with queue := y.queue.eraseIdx i }
        | none =>
          if e.binv && (t.binRec e.bin).st == .cold then pass (t.engineWants u e.bin) placed
          else pass t true

def State.pressFetch (s : State) (u : Nat) : State :=
  s.unitFetch u (fun t q d => t.pressPrepare u q d) 0 [] ((s.unit u).wants != []) (s.unit u).queue

/-- The IV draw of a waiting GCM segment (R211). -/
def State.pressGeniv (s : State) (u : Nat) : State :=
  match (s.unit u).segs.find? fun g => g.waitIv with
  | none => s
  | some g =>
    match s.wireDraw u 12 with
    | (t, 0, iv) =>
      match g.ctx with
      | some k =>
        let c := (t.unit u).ctx k
        let m := c.mats.getD ([], [])
        (t.setCtx u k (c.start m.1 m.2 iv)).setSeg u g.stamp { g with waitIv := false, iv := iv }
      | none => t
    | (t, 3, _) => t.setSeg u g.stamp { g with waitIv := false, code := some 17 }
    | (t, _, _) => t

/-! ### Quanta (R197–R199, R202, R204, R207) -/

/-- A mismatch of the duplicated or inverse computation (R207, R223): recorded, and the segment ends with FAULT; its context
is overwritten and poisoned when it completes. -/
def State.unitFault (s : State) (u k : Nat) (g : Segment) : State :=
  let c := (s.unit u).ctx k
  (s.faultRecord u c).setSeg u g.stamp { g with code := some 16, total := c.consumed }

/-- Dropped key material is asked for anew (R204): the material, or the code of the refusal. -/
def State.ctxMats (s : State) (c : Ctx) : Sum (List Byte × List Byte) Nat :=
  match c.mats with
  | some m => .inl m
  | none =>
    match s.pressKeys c.agent c.inst c.mode c.alg c.totlen c.dir c.key c.key2 with
    | 0 => .inl (s.slotMat c.key, if c.mode = 7 then s.slotMat c.key2 else [])
    | n => .inr n

/-- The end of a segment (R197–R199): on FINAL the length is checked, the rest is output, and a tag is
written or compared. -/
def State.pressEnd (s : State) (u k : Nat) (g : Segment) (m1 : List Byte) : State :=
  let c := (s.unit u).ctx k
  let e := descOf true g.desc
  let excess := c.consumed == c.aadlen + c.totlen && g.taken < e.seglen
  let g1 := { g with trunc := excess, total := c.consumed }
  let put (t : State) (h : Segment) (code : Nat) : State := t.setSeg u g.stamp { h with code := some code }
  if !e.final then put s g1 0
  else if c.consumed < c.aadlen + c.totlen then put s g1 18
  else
    match c.finish m1 with
    | none => put s g1 19
    | some (out, tag) =>
      let mac := tag.take c.taglen
      let want := ((g.desc.drop 64).take c.taglen)
      let check := c.dir && (aeadMode c.mode || macMode c.mode)
      if check && mac ≠ want then put s g1 20
      else
        let bytes := g.held ++ out ++ (if c.dir then [] else mac)
        let g2 := { g1 with matched := check }
        if bytes = [] then put s g2 0
        else
          let w := s.engWrite c.agent (e.dst + g.outlen) bytes
          if w.fault ≠ .none then put w.st g1 (runFault w.fault)
          else put w.st { g2 with outlen := g.outlen + bytes.length } 0

/-- Input bytes of a quantum of `q` bytes that ends on a block boundary (R202): of the additional data, at its end, or of
the payload. -/
def Ctx.quantumLen (c : Ctx) (q : Nat) : Nat :=
  let b := blockLen c.alg
  if c.consumed < c.aadlen then
    let left := c.aadlen - c.consumed
    let n := quantumBytes q c.part.length 16
    if n ≤ left then n else left + (q - left) / b * b
  else quantumBytes q ((c.consumed - c.aadlen) % b) b

/-- One quantum of the scheduled context (R202). `fault` is a mismatch of R207. The accesses carry the job's agent as its
FIRST segment had it; DEDUCED (75) for a later segment of a tag-NONE job that another agent submits. -/
def State.pressQuantum (s : State) (u : Nat) (fault : Bool) : State :=
  match (s.unit u).pick with
  | none => s
  | some (k, g) =>
    if g.own.isSome then s.ownQuantum u k g fault
    else
    let c := (s.unit u).ctx k
    let e := descOf true g.desc
    match s.ctxMats c with
    | .inr 99 => s
    | .inr code => s.setSeg u g.stamp { g with code := some code, total := c.consumed }
    | .inl m =>
      if fault then s.unitFault u k g
      else
        let left := c.aadlen + c.totlen - c.consumed
        let n := min (min (c.quantumLen (s.quantum u c.inst)) (e.seglen - g.taken)) left
        let r := s.engRead c.agent (e.src + g.taken) n
        if r.fault ≠ .none then
          r.st.setSeg u g.stamp { g with code := some (runFault r.fault), total := c.consumed }
        else
          let q := ({ c with mats := some m } : Ctx).take m.1 r.data
          let hold := e.final && c.dir && aeadMode c.mode
          let w : MemAns :=
            if hold || q.2 = [] then { st := r.st } else r.st.engWrite c.agent (e.dst + g.outlen) q.2
          if w.fault ≠ .none then
            w.st.setSeg u g.stamp { g with code := some (runFault w.fault), total := c.consumed }
          else
            let g1 := { g with
              taken := g.taken + n, total := q.1.consumed,
              outlen := if hold then g.outlen else g.outlen + q.2.length,
              held := if hold then g.held ++ q.2 else [] }
            let s1 := w.st.modUnit u fun t =>
              { t with ctxs := tset t.ctxs k { q.1 with used := t.stamp }, stamp := t.stamp + 1,
                       running := some (k, n) }
            let g2 := { g1 with stamp := s1.unit u |>.stamp }
            let s2 := (s1.setSeg u g.stamp g2).modUnit u fun t => { t with stamp := t.stamp + 1 }
            if g1.taken = e.seglen || q.1.consumed = c.aadlen + c.totlen then
              (s2.setSeg u g2.stamp { g2 with ran := true }).modUnit u fun t => { t with running := none }
            else s2

/-- A segment completes (R196–R200): a segment that took all its input ends first, with the length check,
the rest of the output and the tag of R197–R199. `fault` is a mismatch in the last block (R207). -/
def State.pressComplete (s : State) (u : Nat) (fault : Bool) : State :=
  match (s.unit u).due with
  | none => s
  | some g =>
    match g.code, g.ctx with
    | none, some k =>
      (match s.ctxMats ((s.unit u).ctx k) with
       | .inl m =>
         if fault && (descOf true g.desc).final then (s.unitFault u k g).unitComplete u
         else (s.pressEnd u k g m.1).unitComplete u
       | .inr 99 => s
       | .inr c => (s.setSeg u g.stamp { g with code := some c }).unitComplete u)
    | _, _ => s.unitComplete u

/-! ### Context commands (R205, R206) -/

/-- The prepared context command of an operation, at the front of its context's segments. -/
def UnitSt.ctxCmd (t : UnitSt) (op : Nat) : Option Segment :=
  t.segs.find? fun g =>
    g.code.isNone && (descOf true g.desc).op == op &&
      (t.segs.find? fun h => descBin h.desc == descBin g.desc) == some g

/-- The code of a context command that finds no open context: POISONED, else NO_CTX (R205, R207). -/
def State.noCtxCode (s : State) (u b : Nat) : Nat :=
  if (s.binRec b).flags.testBit (if u < 4 then 2 else 3) then 7 else 5

/-- SAVE (R205, R222): the context goes to its bin and its place is free; the job stays open. -/
def State.ctxSave (s : State) (u : Nat) : State :=
  match (s.unit u).ctxCmd 0x10 with
  | none => s
  | some g =>
    let b := (unitDesc u g.desc).bin
    match (s.unit u).placeOf b with
    | some k =>
      if ((s.unit u).ctx k).poisoned then s.setSeg u g.stamp { g with code := some 7 }
      else if (s.binRec b).st = .cold then s.engineWants u b
      else ((s.saveCtx u k)).setSeg u g.stamp { g with code := some 0, ctx := none }
    | none =>
      s.setSeg u g.stamp { g with code := some (if (s.savedCtx u b).isSome then 0 else s.noCtxCode u b) }

/-- ABORT (R205, R208, R224). -/
def State.ctxAbort (s : State) (u : Nat) : State :=
  match (s.unit u).segs.find? fun g => g.code.isNone && (unitDesc u g.desc).op == 0x13 with
  | none => s
  | some g =>
    let b := (unitDesc u g.desc).bin
    let place := (s.unit u).placeOf b
    if place.isNone && (s.savedCtx u b).isNone && s.noCtxCode u b = 5 then
      s.setSeg u g.stamp { g with code := some 5 }
    else
      let r := s.clearJob u place (some b) g.stamp false
      if r.2 then r.1.setSeg u g.stamp { g with code := some 0, ctx := none } else r.1

/-- The per-boot context key, drawn once from PRESS0's wire (R206), with the wire's answer. -/
def State.contextKey (s : State) : State × Nat :=
  if s.ctxKey ≠ [] then (s, 0)
  else
    match s.wireDraw 0 32 with
    | (t, 0, k) => ({ t with ctxKey := k }, 0)
    | (t, n, _) => (t, n)

/-- The header of a wrapped context (R206). -/
def Ctx.header (c : Ctx) : List Byte :=
  let f := flagAt c.dir 0 + flagAt c.pad 3 + flagAt c.inv 4 + 2 ^ 5
  [BitVec.ofNat 8 c.mode, BitVec.ofNat 8 c.alg, BitVec.ofNat 8 f, BitVec.ofNat 8 c.taglen] ++
    leBytes 2 c.key ++ leBytes 2 c.key2 ++ leBytes 2 (c.bin.getD 0) ++
    [BitVec.ofNat 8 c.inst, BitVec.ofNat 8 c.ivlen] ++ zeros 4

/-- The 84 bytes of state, in a layout of the model's own (notes/assumptions/30.md). -/
def Ctx.pack (c : Ctx) : List Byte :=
  fitTo 16 c.chain ++ fitTo 16 c.acc ++ fitTo 32 c.part ++ [BitVec.ofNat 8 c.part.length] ++
    leBytes 5 c.totlen ++ leBytes 4 c.aadlen ++ leBytes 6 c.consumed ++ zeros 4

/-- A context read back from its header and state. -/
def ctxUnpack (h st : List Byte) (agent : Nat) : Ctx :=
  let mode := leAt h 0 1
  let alg := leAt h 1 1
  let b := blockLen alg
  let ivlen := leAt h 11 1
  let chain := if mode = 5 || mode = 6 || mode = 7 then st.take 16 else st.take b
  { bin := some (leAt h 8 2), mode := mode, alg := alg, dir := (byteAt h 2).getLsbD 0,
    pad := (byteAt h 2).getLsbD 3, inv := (byteAt h 2).getLsbD 4, agent := agent, inst := leAt h 10 1,
    key := leAt h 4 2, key2 := leAt h 6 2, ivlen := ivlen, taglen := leAt h 3 1, aadlen := leAt st 70 4,
    totlen := leAt st 65 5, consumed := leAt st 74 6, chain := chain,
    acc := (st.drop 16).take b, part := (st.drop 32).take (leAt st 64 1),
    iv := if mode = 5 then chain.take 12 else if mode = 6 then (chain.drop 1).take ivlen else [] }

/-- An exported context is cleared wherever it is held (R205, R208), and the EXPORT completes. -/
def State.exportClear (s : State) (u : Nat) (g : Segment) : State :=
  let b := (unitDesc u g.desc).bin
  let r := s.clearJob u ((s.unit u).placeOf b) (some b) g.stamp false
  if r.2 then r.1.setSeg u g.stamp { g with code := some 0, ctx := none } else r.1

/-- EXPORT (R205, R206): OUTLEN says that the wrapped context is written and its clearing waits for the wire. -/
def State.ctxExport (s : State) (u : Nat) : State :=
  match (s.unit u).ctxCmd 0x11 with
  | none => s
  | some g =>
    let e := descOf true g.desc
    let put (t : State) (code : Nat) : State := t.setSeg u g.stamp { g with code := some code }
    let ctx := match (s.unit u).placeOf e.bin with
      | some k => if ((s.unit u).ctx k).poisoned then none else some ((s.unit u).ctx k)
      | none => s.savedCtx u e.bin
    match ctx with
    | none => put s (s.noCtxCode u e.bin)
    | some c =>
      if g.outlen ≠ 0 then s.exportClear u g
      else
        match s.contextKey with
        | (t, 0) =>
          (match t.wireDraw u 12 with
           | (t1, 0, iv) =>
             let x := gcmSeal t1.ctxKey iv c.header c.pack
             let w := t1.engWrite (jobAgent g.agent e.inst) e.dst (c.header ++ iv ++ x.1 ++ x.2)
             if w.fault ≠ .none then put w.st (runFault w.fault)
             else
               let g1 := { g with outlen := 128 }
               (w.st.setSeg u g.stamp g1).exportClear u g1
           | (t1, 3, _) => put t1 17
           | (t1, _, _) => t1)
        | (t, 3) => put t 17
        | (t, _) => t

/-- IMPORT (R205, R206). -/
def State.ctxImport (s : State) (u : Nat) : State :=
  match (s.unit u).ctxCmd 0x12 with
  | none => s
  | some g =>
    let e := descOf true g.desc
    let agent := jobAgent g.agent e.inst
    let put (t : State) (code : Nat) : State := t.setSeg u g.stamp { g with code := some code, ctx := none }
    let cc := s.ctxCheck u e true
    if cc ≠ 0 then put s cc
    else
      match s.contextKey, (s.unit u).freePlace with
      | (t, 3), _ => put t 17
      | (t, 1), _ => t
      | (t, 2), _ => t
      | (t, _), none => t
      | (t, _), some k =>
        let r := t.engRead agent e.src 128
        if r.fault ≠ .none then put r.st (runFault r.fault)
        else
          let h := r.data.take 16
          if leAt h 8 2 ≠ e.bin || leAt h 10 1 ≠ e.inst then put r.st 1
          else
            match gcmOpen r.st.ctxKey ((r.data.drop 16).take 12) h ((r.data.drop 28).take 84)
                (r.data.drop 112) with
            | none => put r.st 20
            | some st =>
              let c := ctxUnpack h st agent
              match r.st.pressKeys agent c.inst c.mode c.alg c.totlen c.dir c.key c.key2 with
              | 0 =>
                let m := (r.st.slotMat c.key, if c.mode = 7 then r.st.slotMat c.key2 else [])
                put ((r.st.setCtx u k { c with mats := some m, used := (r.st.unit u).stamp }).setFlags u
                  e.bin true false) 0
              | 99 => t
              | n => put r.st n

end Sys2Proof.Machine
end

