-- ==== Sys2Proof/Machine/DigestCtl.lean ====
section
/-!
DEFINITION. The digest units (chapter "Digest and keyed-digest engine", R213–R226): the checks of a
descriptor, hashing by quanta, output and comparison, and the key store's hashing. Unit 4 + n is DIGESTn.
-/
namespace Sys2Proof.Machine

/-- OUT and CMP of a digest descriptor (R215). -/
def flagOut (d : List Byte) : Nat := fld (wd (leAt d 2 1)) 3 2
def flagCmp (d : List Byte) : Bool := (byteAt d 2).getLsbD 0

/-- FORMAT of a digest segment (R215, R217). -/
def digestFormat (d : List Byte) (ctx : Option Ctx) : Bool :=
  let e := descOf false d
  let out := flagOut d
  (e.inst ≥ 64 && e.inst != 0x7F) || (byteAt d 2).getLsbD 7 || leAt d 6 2 != 0 || leAt d 11 1 != 0 ||
  leAt d 29 3 != 0 || leAt d 56 8 != 0 || (e.final && out == 0 && leAt d 37 3 != 0) ||
  (!e.binv && !(e.first && e.final)) || out == 3 || (out == 2 && !flagCmp d) ||
  (e.first && ((if e.op = 2 then 1024 ≤ e.key else e.key != 0) || 2 ^ 40 ≤ e.tot)) ||
  (!e.first && (match ctx with
    | some c => c.mode != e.op || c.alg != e.alg || c.inst != e.inst
    | none => false))

/-- UNSUPPORTED (R213). -/
def digestUnsup (d : List Byte) (u : Nat) : Bool :=
  let e := descOf false d
  !(e.op == 1 || e.op == 2) ||
    (match hashAlg e.alg with
     | some a => a.sha3 != decide (8 ≤ u)
     | none => true)

/-- LENGTH (R215). -/
def digestLength (d : List Byte) : Bool :=
  let e := descOf false d
  let n := leAt d 3 1
  let dl := ((hashAlg e.alg).map (·.digest)).getD 0
  2 ^ 24 < e.seglen || (e.final && flagCmp d && n != 0 && !(4 ≤ n && n ≤ dl))

/-- The code of the HMAC key's use (R214, R171). -/
def State.digestKey (s : State) (agent inst key : Nat) : Nat :=
  useCode (s.judgeUse agent inst key (fun t => t == 5) 6)

/-- FORMAT of SAVE and ABORT: every field but OP, FLAGS.BINV, BIN and INST is zero (R222). -/
def digestCmdFormat (d : List Byte) : Bool :=
  let e := descOf false d
  (e.inst ≥ 64 && e.inst != 0x7F) || byteAt d 2 != 0x20 || byteAt d 1 != 0 || leAt d 3 5 != 0 ||
    leAt d 11 29 != 0 || leAt d 56 8 != 0

/-- The code a segment fails with before it runs, 0 when it is admitted, 97 to 99 when it waits
(R217). -/
def State.digestCheck (s : State) (u sub : Nat) (d : List Byte) : Nat :=
  let e := descOf false d
  let t := s.unit u
  let ctx := match t.placeOf e.bin with
    | some k => if e.binv && !(t.ctx k).poisoned then some (t.ctx k) else none
    | none => if e.binv then s.savedCtx u e.bin else none
  if e.op = 0x10 || e.op = 0x13 then s.ctxCmdCheck u sub (digestCmdFormat d) e
  else if digestFormat d ctx then 1
  else if digestUnsup d u then 2
  else if digestLength d then 4
  else
    let cc := s.ctxCheck u e e.first
    let kc := if e.first && e.op = 2 then s.digestKey (jobAgent sub e.inst) e.inst e.key else 0
    if cc ≠ 0 then cc
    else if kc ≠ 0 && kc ≠ 99 && kc ≠ 12 then kc
    else if kc = 12 || s.ctxOwner sub e then 12
    else
      let wc := s.ctxWait u e
      if wc ≠ 0 then wc else kc

/-- K0 of a job and the hash state at FIRST: HMAC starts with the ipad block (R214). -/
def State.digestKey0 (s : State) (alg key : Nat) : List Byte :=
  match hashAlg alg with
  | some a => a.hmacKey (s.slotMat key)
  | none => []

def Ctx.hashStart (c : Ctx) (k0 : List Byte) : Ctx :=
  match hashAlg c.alg with
  | some a =>
    if c.mode = 2 then { c with hash := a.step a.init (hmacPad k0 0x36), inner := a.block }
    else { c with hash := a.init }
  | none => c

/-- A fetched descriptor becomes a prepared segment, or fails; none when it waits in the queue. -/
def State.digestPrepare (s : State) (u : Nat) (q : QEntry) (d : List Byte) : Option State :=
  let e := descOf false d
  let t := s.unit u
  let g : Segment := { addr := q.addr, agent := q.agent, expect := q.expect, desc := d }
  match s.digestCheck u q.agent d with
  | 97 | 98 | 99 => none
  | 0 =>
    if 0x10 ≤ e.op then some (s.addSeg u { g with ctx := t.placeOf e.bin })
    else if e.first then
      match t.freePlace with
      | none => none
      | some k =>
        let k0 := if e.op = 2 then s.digestKey0 e.alg e.key else []
        let c : Ctx :=
          { bin := if e.binv then some e.bin else none, mode := e.op, alg := e.alg,
            agent := jobAgent q.agent e.inst, inst := e.inst, key := e.key, totlen := e.tot,
            mats := some (k0, []), used := t.stamp }
        let s1 := s.setCtx u k (c.hashStart k0)
        let s2 := if e.binv then (s1.setFlags u e.bin true false).touchBin e.bin else s1
        some (s2.addSeg u { g with ctx := some k })
    else
      match t.placeOf e.bin with
      | some k => some (s.addSeg u { g with ctx := some k, total := (t.ctx k).consumed })
      | none => none
  | code => some (s.addSeg u { g with code := some code })

def State.digestFetch (s : State) (u : Nat) : State :=
  s.unitFetch u (fun t q d => t.digestPrepare u q d) 0 [] ((s.unit u).wants != []) (s.unit u).queue

/-- Message bytes taken into the hash state. -/
def Ctx.hashTake (c : Ctx) (bs : List Byte) : Ctx :=
  match hashAlg c.alg with
  | some a =>
    let r := a.absorb c.hash (c.part ++ bs)
    { c with hash := r.1, part := r.2, inner := c.inner + bs.length, consumed := c.consumed + bs.length }
  | none => c

/-- The digest of a job at FINAL (R214, R218). -/
def Ctx.hashEnd (c : Ctx) (k0 : List Byte) : List Byte :=
  match hashAlg c.alg with
  | some a =>
    let d := a.finish c.hash c.part c.inner
    if c.mode = 2 then a.hash (hmacPad k0 0x5C ++ d) else d
  | none => []

/-- OUT = 1: the digest in RESULT0–15 with RES_INFO and RES_SEQ (R219). -/
def State.digestResult (s : State) (u : Nat) (c : Ctx) (dg : List Byte) : State :=
  let pg := unitPage u
  let s1 := (List.range 16).foldl (fun (t : State) i =>
    t.setRg pg (0x140 + 4 * i) (wordOf (fitTo 4 (dg.drop (4 * i))))) s
  (s1.setRg pg 0x138 (wd (c.agent + at' c.alg 8 + at' dg.length 16))).modRg pg 0x13C (· + 1)

/-- The end of a digest segment (R218–R220). -/
def State.digestEnd (s : State) (u k : Nat) (g : Segment) (k0 : List Byte) : State :=
  let c := (s.unit u).ctx k
  let e := descOf false g.desc
  let g1 := { g with trunc := c.consumed == c.totlen && g.taken < e.seglen, total := c.consumed }
  let put (t : State) (h : Segment) (code : Nat) : State := t.setSeg u g.stamp { h with code := some code }
  if !e.final then put s g1 0
  else if c.consumed < c.totlen then put s g1 18
  else
    let dg := c.hashEnd k0
    let n := if leAt g.desc 3 1 = 0 then dg.length else leAt g.desc 3 1
    let good := !flagCmp g.desc || dg.take n == g.expect.take n
    let g2 := { g1 with matched := flagCmp g.desc && good }
    let code := if good then 0 else 20
    match flagOut g.desc with
    | 0 =>
      let w := s.engWrite c.agent e.dst dg
      if w.fault ≠ .none then put w.st g1 (runFault w.fault)
      else put w.st { g2 with outlen := dg.length } code
    | 1 => put (s.digestResult u c dg) g2 code
    | _ => put s g2 code

/-- Dropped K0 is formed anew from the slot (R204, R222). -/
def State.digestMats (s : State) (c : Ctx) : Sum (List Byte) Nat :=
  match c.mats with
  | some m => .inl m.1
  | none =>
    if c.mode ≠ 2 then .inl []
    else
      match s.digestKey c.agent c.inst c.key with
      | 0 => .inl (s.digestKey0 c.alg c.key)
      | n => .inr n

/-- One quantum of the scheduled digest context (R222). `fault` is a mismatch of R223. -/
def State.digestQuantum (s : State) (u : Nat) (fault : Bool) : State :=
  match (s.unit u).pick with
  | none => s
  | some (k, g) =>
    if g.own.isSome then s.ownQuantum u k g fault
    else
    let c := (s.unit u).ctx k
    let e := descOf false g.desc
    let blk := ((hashAlg c.alg).map (·.block)).getD 64
    match s.digestMats c with
    | .inr 99 => s
    | .inr code => s.setSeg u g.stamp { g with code := some code, total := c.consumed }
    | .inl k0 =>
      if fault then s.unitFault u k g
      else
        let n := min (min (quantumBytes (s.quantum u c.inst) c.part.length blk) (e.seglen - g.taken))
          (c.totlen - c.consumed)
        let r := s.engRead c.agent (e.src + g.taken) n
        if r.fault ≠ .none then
          r.st.setSeg u g.stamp { g with code := some (runFault r.fault), total := c.consumed }
        else
          let q := ({ c with mats := some (k0, []) } : Ctx).hashTake r.data
          let s1 := r.st.modUnit u fun t =>
            { t with ctxs := tset t.ctxs k { q with used := t.stamp }, stamp := t.stamp + 1,
                     running := some (k, n) }
          let g2 := { g with taken := g.taken + n, total := q.consumed, stamp := (s1.unit u).stamp }
          let s2 := (s1.setSeg u g.stamp g2).modUnit u fun t => { t with stamp := t.stamp + 1 }
          if g2.taken = e.seglen || q.consumed = c.totlen then
            (s2.setSeg u g2.stamp { g2 with ran := true }).modUnit u fun t => { t with running := none }
          else s2

/-- A digest segment completes (R217–R220): a segment that took all its input ends first, with output and
comparison at FINAL. `fault` is a mismatch in the blocks of padding or of the outer pass (R223). -/
def State.digestComplete (s : State) (u : Nat) (fault : Bool) : State :=
  match (s.unit u).due with
  | none => s
  | some g =>
    match g.code, g.ctx with
    | none, some k =>
      (match s.digestMats ((s.unit u).ctx k) with
       | .inl k0 =>
         if fault && (descOf false g.desc).final then (s.unitFault u k g).unitComplete u
         else (s.digestEnd u k g k0).unitComplete u
       | .inr 99 => s
       | .inr c => (s.setSeg u g.stamp { g with code := some c }).unitComplete u)
    | _, _ => s.unitComplete u

/-! ### Places of either family (R201, R204, R222) -/

/-- A restore requests the key material anew (R204): none where the request is refused, so that the context's next
quantum meets the refusal; false where it waits for the class keys. -/
def State.restoreMats (s : State) (u : Nat) (c : Ctx) : Option (List Byte × List Byte) × Bool :=
  if u < 4 then
    match s.ctxMats c with
    | .inl m => (some m, true)
    | .inr n => (none, n != 99)
  else
    match s.digestMats c with
    | .inl k0 => (some (k0, []), true)
    | .inr n => (none, n != 99)

/-- A segment or own work waits for a place (R201). -/
def State.placeWanted (s : State) (u : Nat) : Bool :=
  let t := s.unit u
  t.wants != [] || (t.segs.any fun g => g.code.isNone && (unitDesc u g.desc).op == 0x12) ||
    t.queue.any fun q => match q.desc with
      | some d =>
        (unitDesc u d).first || (match descBin d with | some b => (s.savedCtx u b).isSome | none => false)
      | none => false

/-- An idle binned context is saved to free its place for a waiting segment (R201). -/
def State.unitSpill (s0 : State) (u : Nat) : State :=
  let s := s0.unitLook u
  let t := s.unit u
  if !s.placeWanted u || t.freePlace.isSome then s
  else
    match t.lruIdle with
    | some (k, b) =>
      if (s.binRec b).st = .cold then s.engineWants u b
      else (s.saveCtx u k).cnt (unitPage u) 0x118
    | none => s.irq (unitPage u) 3

/-- The saved context that the oldest waiting segment of one names, its bin hot (R201, R215). -/
def State.restorable (s : State) (u : Nat) : Option (Nat × Ctx) :=
  (s.unit u).queue.findSome? fun q =>
    match q.desc with
    | some d =>
      (match descBin d with
       | some b =>
         if (unitDesc u d).first || 0x10 ≤ (unitDesc u d).op || (s.binRec b).st != .hot then none
         else (s.savedCtx u b).map fun c => (b, c)
       | none => none)
    | none => none

/-- A saved context whose segment waits in the queue takes a free place, with its key material (R201, R204). -/
def State.unitRestore (s0 : State) (u : Nat) : State :=
  let s := s0.unitLook u
  match (s.unit u).freePlace, s.restorable u with
  | some k, some (b, c) =>
    let m := s.restoreMats u c
    if m.2 then (s.restoreCtx u b k { c with mats := m.1 }).cnt (unitPage u) 0x11C else s
  | _, _ => s

/-- The key store's hashing (R185, R226): it takes the first of DIGEST0–3 with a free context, and runs as an ordinary
context under QUANTUM_DEF. A mismatch makes it ask anew (DEDUCED, notes/assumptions/82.md). -/
def State.keystoreHash (s : State) : State :=
  match s.key.run with
  | some r =>
    if r.cmd ≠ 4 || r.code.isSome then s
    else
      let put (t : State) (q : KeyRun) : State := t.modKey fun g => { g with run := some q }
      match s.deriveCheck with
      | some c => put (s.ownDrop .key) { r with code := some c }
      | none =>
        match s.keyHash .key s.argSlot2 (s.slotMat s.argSlot2) (fld (s.rg pKEY 0x118) 16 8) with
        | (t, .ran _) => put t.keyDeriveHash { r with code := some 0, target := some s.argSlot }
        | (t, _) => t
  | none => s

end Sys2Proof.Machine
end

