-- ==== Sys2Proof/Machine/MemCtl.lean ====
section
/-!
DEFINITION. The control side of the memories (chapter "On-chip memory and the memory seal"): SRAM keys,
zeroing and scrubbing (R112–R119), DDR training and keys (R120–R123), and the start of the memory seal
(R126–R133).
-/
namespace Sys2Proof.Machine

def State.modSram (s : State) (f : SramSt → SramSt) : State := { s with sram := f s.sram }

def State.modDdr (s : State) (f : DdrSt → DdrSt) : State := { s with ddr := f s.ddr }

def State.modMseal (s : State) (f : MsealSt → MsealSt) : State := { s with mseal := f s.mseal }

/-- The RNG client of the key store's draws for other blocks (R155). -/
abbrev keyWire : Nat := 4

/-! ### SRAM -/

/-- A paired write of SRAM.CTRL with REKEY = 1 (R114, R115): refused once a re-key has taken effect or
while one is under way. -/
def State.sramRekey (s : State) : State :=
  if s.sram.rekeyUsed || s.sram.drawWait then s.err pSRAM 16
  else s.modSram fun m => { m with rekeyStarted := true, drawWait := true }

def State.sramCtrl (s : State) (v : Word) : State := if bitAt v 8 then s.sramRekey else s

/-- The powered banks. -/
def State.banksOn (s : State) : List Nat := (List.range 8).filter fun b => s.pdOn (bankDomain b)

/-- The draw for a re-key (R114, R115): one key per powered bank, then the walkers start. A bank that was switched on
since the re-key started waits for a draw of its own. -/
def State.drawRekey (s : State) : State :=
  if !s.sram.drawWait || !s.rng.ready && !s.rng.fault then s
  else
    let on := s.banksOn.filter fun b => !s.sram.zeroDraw.testBit b
    match s.wireDraw keyWire (16 * on.length) with
    | (t, 0, k) =>
      t.modSram fun m =>
        { m with drawWait := false, rekeyUsed := true, walking := true, walked := 0, oldKeys := m.keys,
                 keys := on.zipIdx.foldl (fun ks e => tset ks e.1 ((k.drop (16 * e.2)).take 16)) m.keys }
    | (t, 3, _) => (t.modSram fun m => { m with drawWait := false }).err pSRAM 17
    | (t, _, _) => t

/-- The draw for a bank switched on after a re-key started (R114, R115). -/
def State.drawBank (s : State) (b : Nat) : State :=
  if !s.sram.zeroDraw.testBit b then s
  else
    let done (t : State) (ks : Tbl (List Byte)) : State :=
      t.modSram fun m => { m with zeroDraw := m.zeroDraw - 2 ^ b, keys := ks }
    match s.wireDraw keyWire 16 with
    | (t, 0, k) => done t (tset t.sram.keys b k)
    | (t, 3, _) => (done t (tdel t.sram.keys b)).err pSRAM 17
    | (t, _, _) => t

/-- Every powered bank has been walked (R114). -/
def State.sramWalked (s : State) : State :=
  if !s.sram.walking then s
  else s.modSram fun m =>
    { m with walking := false, walked := 0, oldKeys := [],
             banks := m.banks.mapIdx fun b st => if st == 2 && (tfind m.keys b).isSome then 3 else st }

/-- The first address and the length of a bank's addressable ranges (R111). -/
def bankRanges (b : Nat) : List (Nat × Nat) :=
  if b < 4 then [(0x20000000 + b * 0x80000, 0x80000)]
  else if b < 6 then [(0x22000000 + (b - 4) * 0x80000, 0x80000)]
  else if b = 6 then [(0x24000000, 0x40000), (0x25000000, 0x40000)]
  else []

/-- A bank's contents zeroed. -/
def State.bankZero (s : State) (b : Nat) : State :=
  { s with mem := (bankRanges b).foldl (fun m (r : Nat × Nat) => memClear m r.1 r.2) s.mem,
           sram := { s.sram with bad := s.sram.bad.filter fun w => !(bankRanges b).any fun r => touches w 8 r.1 r.2 } }

/-- A bank switched on (R112, R114): unusable until zeroed, with a key of its own once a re-key has
started, also while its draw still waits. -/
def State.bankOn (s : State) (b : Nat) : State :=
  (s.bankZero b).modSram fun m =>
    { m with banks := m.banks.set b 1, keys := tdel m.keys b,
             zeroDraw := if m.rekeyStarted && !m.zeroDraw.testBit b then m.zeroDraw + 2 ^ b else m.zeroDraw }

/-- A bank switched off. -/
def State.bankOff (s : State) (b : Nat) : State :=
  (s.bankZero b).modSram fun m =>
    { m with banks := m.banks.set b 0, keys := tdel m.keys b,
             zeroDraw := if m.zeroDraw.testBit b then m.zeroDraw - 2 ^ b else m.zeroDraw }

/-- A bank ends its zeroing (R112, R115): KEYED under a fresh key, START_KEY otherwise. -/
def State.bankZeroed (s : State) (b : Nat) : State :=
  if !s.pdOn (bankDomain b) || 2 ≤ s.sram.banks.getD b 0 || s.sram.zeroDraw.testBit b then s
  else
    (s.bankZero b).modSram fun m =>
      { m with banks := m.banks.set b (if (tfind m.keys b).isSome then 3 else 2) }

/-- The address of a word of a bank, 0 in bank 7, which has none (R111). -/
def scrubAddr (b word : Nat) : Nat :=
  match bankRanges b with
  | [r] => r.1 + 8 * word
  | [r, q] => if 8 * word < r.2 then r.1 + 8 * word else q.1 + (8 * word - r.2)
  | _ => 0

/-- One step of a bank's scrubber (R118, R119): `u` is what the word checked holds, `bin` the bin whose
frame, directory entry or generation a word of bank 7 belongs to, if it belongs to one. -/
def State.scrubStep (s : State) (b word : Nat) (u : Upset) (bin : Option Nat) : State :=
  let ue := match u with | .uncorrectable _ => true | _ => false
  let ce := match u with | .correctable _ => true | _ => false
  if !s.rbit pSRAM 0x10 9 || !s.bankUsable b then s
  else if ue || (b != 7 && s.sram.bad.contains (scrubAddr b word)) then
    let s1 := s.sramError b word true true
    if b = 7 then (match bin with | some k => s1.binLost k 5 | none => s1) else s1.markBad (scrubAddr b word)
  else if ce then s.sramError b word false true else s

/-! ### DDR -/

/-- A CFG with a reserved code (R121). -/
def ddrBadCfg (v : Word) : Bool := fld v 0 2 == 3 || fld v 4 2 == 3

/-- Installed MiB of a CFG (R120). -/
def ddrMiB (v : Word) : Nat := 1024 * 2 ^ fld v 0 2 * 2 ^ fld v 2 1

/-- A paired write of DDR.CTRL with TRAIN = 1 (R121). -/
def State.ddrTrain (s : State) : State :=
  if s.ddr.mode = 1 then s
  else if ddrBadCfg (s.rg pDDR 0x100) then (s.setRg pDDR 0x104 1).err pDDR 16
  else if !s.pwr.dramUp then s.setRg pDDR 0x104 0x11
  else
    let s1 := { s with pwr := { s.pwr with pllLocked := s.pwr.pllLocked ||| 4,
                                           pllLost := s.pwr.pllLost &&& 0x1B } }
    (s1.setRg pDDR 0x104 0).modDdr fun d => { d with mode := 1 }

/-- The first and last 64 KiB of each rank, which the pattern test writes (R121). -/
def patternRanges (cfg : Word) : List (Nat × Nat) :=
  let ranks := 2 ^ fld cfg 2 1
  let size := ddrMiB cfg * 0x100000 / ranks
  (List.range ranks).flatMap fun r =>
    [(dramBase + r * size, 0x10000), (dramBase + (r + 1) * size - 0x10000, 0x10000)]

/-- Training ends (R121). -/
def State.ddrTrainDone (s : State) (pass : Bool) (step lanes : Nat) (rank : Bool) : State :=
  if s.ddr.mode ≠ 1 then s
  else if pass then
    let cfg := s.rg pDDR 0x100
    let s1 := { s with mem := (patternRanges cfg).foldl (fun m (r : Nat × Nat) => memClear m r.1 r.2) s.mem }
    ((s1.setRg pDDR 0x104 3).setRg pDDR 0x108 (wd (ddrMiB cfg))).modDdr fun d =>
      { d with mode := 2, trained := true }
  else
    (s.setRg pDDR 0x104 (wd (1 + at' step 4 + at' lanes 8 + flagAt rank 12))).modDdr fun d =>
      { d with mode := 0, trained := false }

/-- A paired write of DDR.CTRL with KEY = 1 (R122). -/
def State.ddrKey (s : State) : State :=
  if s.ddr.keyUsed || s.ddr.drawWait then s.err pDDR 19
  else if !s.ddr.trained || s.ddr.mode = 1 then s
  else s.modDdr fun d => { d with drawWait := true }

/-- The draw of the encryption keys (R122): earlier contents read as unrelated values from then on. -/
def State.drawDdr (s : State) : State :=
  if !s.ddr.drawWait || !s.rng.ready && !s.rng.fault then s
  else
    match s.wireDraw keyWire 64 with
    | (t, 0, k) =>
      { t with ddr := { t.ddr with drawWait := false, keyUsed := true, keyed := true, keys := k,
                                   keyNo := t.ddr.keyNo + 1, zeroLo := 0, zeroLen := 0 },
               mem := memClear t.mem dramBase 0x200000000 }
    | (t, 3, _) => (t.modDdr fun d => { d with drawWait := false }).err pDDR 17
    | (t, _, _) => t

/-- A paired write of DDR.CTRL (R121–R123): EN leaves self-refresh. -/
def State.ddrCtrl (s : State) (v : Word) : State :=
  let s1 := if bitAt v 0 && s.ddr.mode == 3 then s.modDdr fun d => { d with mode := 2 } else s
  let s2 := if bitAt v 8 then s1.ddrTrain else s1
  if bitAt v 9 then s2.ddrKey else s2

/-- Writable bits of CFG and TIM0–TIM3. -/
def ddrMask (off : Nat) : Word :=
  if off = 0x100 then 0x337 else if off = 0x118 then 0x000FFFFF else if off = 0x11C then 0xFFFF else 0xFFFFFFFF

/-- A write of CFG or TIM0–TIM3 (R121). -/
def State.ddrCfgWrite (s : State) (off : Nat) (v : Word) : State :=
  if s.ddr.mode = 0 || s.ddr.mode = 3 then s.setRg pDDR off (v &&& ddrMask off) else s.err pDDR 20

/-- Mode register 4 is read (R123): code 7 is above the rated range (notes/assumptions/32.md). -/
def State.ddrMr4 (s : State) (a b : Nat) : State :=
  if s.ddr.mode ≠ 2 then s
  else
    let s1 := s.setRg pDDR 0x10C (wd (a + at' b 8))
    if a = 7 || b = 7 then (s1.err pDDR 18).irq pDDR 0 else s1

/-- A warm reset: self-refresh, keys lost (R123). -/
def State.ddrWarm (s : State) : State :=
  s.modDdr fun d =>
    { d with mode := if d.trained then 3 else 0, keyed := false, keyUsed := false, keys := [],
             drawWait := false }

/-- A tamper reset: self-refresh, keys and training kept (R123). -/
def State.ddrTamper (s : State) : State :=
  s.modDdr fun d => { d with mode := if d.trained then 3 else 0, drawWait := false }

/-! ### MSEAL -/

/-- INIT is refused with ERR.WINDOW (R126). -/
def State.msealBadWindow (s : State) : Bool :=
  let code := fld (s.rg pMSEAL 0x104) 0 3
  let base := (s.rg pMSEAL 0x100).toNat % 128
  code == 0 || 6 ≤ code || base % (winBytes code / 0x4000000) != 0 ||
    decide (s.dramBytes < base * 0x4000000 + winBytes code + reserveMiB code * 0x100000) || !s.ddr.keyed

/-- A paired write of MSEAL.CTRL with INIT = 1 (R126, R129). -/
def State.msealInit (s : State) : State :=
  if s.mseal.initUsed || s.mseal.initBusy then s.err pMSEAL 18
  else if s.msealBadWindow then s.err pMSEAL 16
  else
    (s.setRg pMSEAL 0x108
      (wd (s.dramBytes / 0x100000 - reserveMiB (fld (s.rg pMSEAL 0x104) 0 3)))).modMseal fun m =>
        { m with initBusy := true, drawWait := true }

def State.msealCtrl (s : State) (v : Word) : State := if bitAt v 8 then s.msealInit else s

/-- The draw of the MAC key (R129). -/
def State.drawMseal (s : State) : State :=
  if !s.mseal.drawWait || !s.rng.ready && !s.rng.fault then s
  else
    match s.wireDraw keyWire 32 with
    | (t, 0, k) => t.modMseal fun m => { m with drawWait := false, initUsed := true, macKey := k }
    | (t, 3, _) => (t.modMseal fun m => { m with drawWait := false, initBusy := false }).err pMSEAL 17
    | (t, _, _) => t

/-- Initialisation ends (R129): every line is zero with counter 0, and the window is in service. -/
def State.msealInitDone (s : State) : State :=
  if !s.mseal.initBusy || s.mseal.drawWait then s
  else
    { s with mseal := { s.mseal with initBusy := false, winReady := true, blocks := [], nodes := [],
                                     cache := [] },
             ddr := { s.ddr with zeroLo := s.winBase, zeroLen := s.winSize },
             mem := memClear s.mem s.winBase s.winSize }

/-- A write of WIN_BASE or WIN_SIZE (R126). -/
def State.msealWinWrite (s : State) (off : Nat) (v : Word) : State :=
  if s.mseal.winReady || s.mseal.initBusy then s.err pMSEAL 19
  else s.setRg pMSEAL off (v &&& (if off = 0x100 then 0x7F else 0x7))

/-- The first data line that a metadata line covers. -/
def State.metaCovers (s : State) (m : Nat) : Nat :=
  match s.lineNode m with
  | some (l, i) => i * 8 ^ l * 64
  | none => (m - s.reserveLo) / 64 * 8

/-- The least recently used metadata line leaves the cache (R131): a dirty block or node has its counter in its parent
incremented, which fetches the parent where it is not held; `bad` is what then does not match (R133). -/
def State.msealEvict (s : State) (bad : Option SealBad) : State :=
  match s.mseal.cache.getLast? with
  | none => s
  | some (m, dirty) =>
    let s1 := s.modMseal fun x => { x with cache := x.cache.dropLast }
    match (if dirty then s.lineNode m else none) with
    | none => s1
    | some (l, i) =>
      let s2 := s1.modMseal fun x => x.countNode l i
      if l = s.sealLevels then s2
      else
        let r := s2.useMeta (s2.nodeLine (l + 1) (i / 8)) bad metaFuel
        match r.2 with
        | some (k, lv) => r.1.sealFail aMSEAL (s.metaCovers m) k lv
        | none => r.1.modMseal fun x => x.dirty (s.nodeLine (l + 1) (i / 8))

/-- The window at a cold or warm reset (R129, R133): its contents are lost. -/
def State.msealReset (s : State) : State := { s with mseal := {} }

/-- A block reset of the DDR or MSEAL page does not reach DRAM's keys: draws under way end. -/
def State.msealBlockReset (s : State) : State :=
  s.modMseal fun m => { m with drawWait := false, initBusy := false }

/-- A draw of the key store for another block (R114, R115, R122, R129). -/
def State.keystoreDraw (s : State) (d : DrawFor) : State :=
  match d with
  | .rekey => s.drawRekey
  | .bank n => s.drawBank n.val
  | .ddr => s.drawDdr
  | .mseal => s.drawMseal

end Sys2Proof.Machine
end

