-- ==== Sys2Proof/Machine/FlashCtl.lean ====
section
/-!
DEFINITION. The flash controller (chapter "Flash array and controller", R138–R149): unlocking, commands of
the two channels, erases through the state rows, the scan, and read-out protection.
-/
namespace Sys2Proof.Machine

/-- The register of a channel: its offset on channel 0. -/
def chanReg (c off : Nat) : Nat := off + 0x40 * c

/-- A command completes: RESULT and the interrupt (R139). -/
def State.flashDone (s : State) (c cmd code count : Nat) : State :=
  (s.setRg pFLASH (chanReg c 0x11C) (wd (code + at' cmd 8 + at' count 16 + 0x80000000))).irq pFLASH c

/-- A command starts running. -/
def State.flashStart (s : State) (c cmd : Nat) : State := s.setRg pFLASH (chanReg c 0x11C) (wd (at' cmd 8))

/-- A write of CHc_KEY (R138): the unlock sequence. A channel that is unlocked already takes a key write
as one out of order (notes/assumptions/33.md). A channel locked until the next warm reset takes no first key, and
reports any other value. -/
def State.flashKey (s : State) (c a : Nat) (v : Word) : State :=
  let ch := s.flash.chan c
  if ch.stuck && v = 0xC3A5 then s
  else if ch.unlock = 0 && v = 0xC3A5 then s.modChan c fun x => { x with unlock := 1, keyAgent := a }
  else if ch.unlock = 1 && v = 0x5A3C && ch.keyAgent == a then
    s.modChan c fun x => { x with unlock := 2, owner := a }
  else ((s.modChan c fun x => { x with unlock := 0, owner := 0, stuck := true }).err pFLASH 16).logProtocol

/-- Another write to a channel's registers comes between the two key writes: the sequence is broken (R138). -/
def State.flashBreak (s : State) (c : Nat) : State :=
  if (s.flash.chan c).unlock = 1 then s.modChan c fun x => { x with unlock := 0 } else s

/-- A write to CHc_ADDR, CHc_WDATAn or CHc_CMD is admitted for the owner alone; in the midst of an unlock
it breaks the sequence (R138). -/
def State.flashAdmit (s : State) (c a : Nat) : State × Bool :=
  let ch := s.flash.chan c
  if ch.unlock = 2 && ch.owner == a then (s, true)
  else ((s.flashBreak c).err pFLASH 3, false)

/-- The channel locks (R138). -/
def State.flashLock (s : State) (c : Nat) : State :=
  s.modChan c fun x => { x with unlock := 0, owner := 0, keyAgent := 0 }

/-- The sectors of the legal partition and of the journal (R134, R135). -/
def legalSector (sec : Nat) : Bool := 224 ≤ sec && sec ≤ 255
def journalSector (sec : Nat) : Bool := 496 ≤ sec

/-- PROTECTED (R139). -/
def State.flashProtected (s : State) (owner sec : Nat) : Bool :=
  legalSector sec || (journalSector sec && owner != aJRNL) ||
    s.rbit pFLASH (0x180 + 4 * (sec / 32)) (sec % 32)

/-- The gate of the bank judges a write by the owner (R139). -/
def State.flashGate (s : State) (owner addr size : Nat) : State × Bool :=
  let g := (gateOf addr).getD 0
  match s.judge g owner addr size .write with
  | .refuse r => (s.gateRefuse g owner r addr .write, false)
  | .letPass _ _ _ => (s, true)

/-- The row of a sector that does not govern, the older one, is changed (R142). -/
def FlashSt.modOlder (f : FlashSt) (sec : Nat) (h : SectRow → SectRow) : FlashSt :=
  let r := tget ({}, {}) f.rows sec
  { f with rows := tset f.rows sec (if firstGoverns r then (r.1, h r.2) else (h r.1, r.2)) }

/-- The governing row of a sector is changed. -/
def FlashSt.modGoverning (f : FlashSt) (sec : Nat) (h : SectRow → SectRow) : FlashSt :=
  let r := tget ({}, {}) f.rows sec
  { f with rows := tset f.rows sec (if firstGoverns r then (h r.1, r.2) else (r.1, h r.2)) }

/-- Step 1 of an erase begins (R142): the older row is erased. -/
def FlashSt.eraseRow (f : FlashSt) (sec : Nat) : FlashSt := f.modOlder sec fun _ => {}

/-- Step 1 has ended: step 2 programs the numbers of the other row + 1, and its STARTED word is PARTIAL. -/
def FlashSt.beginRow (f : FlashSt) (sec : Nat) : FlashSt :=
  f.modOlder sec fun _ => { seq := (f.governing sec).seq + 1, erases := (f.governing sec).erases + 1, started := 1 }

/-- Step 2 has ended: STARTED is PROGRAMMED, and the row governs. -/
def FlashSt.startRow (f : FlashSt) (sec : Nat) : FlashSt := f.modOlder sec fun r => { r with started := 0 }

/-- Step 3 has ended: the sector reads as erased, and DONE is under program. -/
def State.pulseSector (s : State) (sec : Nat) : State :=
  let f := s.flash.modGoverning sec fun r => { r with done := 1 }
  { s with mem := memClear s.mem (0x10000000 + sec * 0x4000) 0x4000,
           flash := { f with ws := tdrop f.ws fun w _ => w / 1024 == sec,
                             bad := f.bad.filter fun w => infoWord w || arrayWord w / 1024 != sec } }

/-- Step 4 has ended: DONE is PROGRAMMED. -/
def FlashSt.endRow (f : FlashSt) (sec : Nat) : FlashSt :=
  let g := f.modGoverning sec fun r => { r with done := 0 }
  { g with intSectors := g.intSectors.filter (· != sec) }

/-- One step of an erase ends (R142). -/
def State.eraseStep (s : State) (sec step : Nat) : State :=
  match step with
  | 0 => s.modFlash fun f => f.beginRow sec
  | 1 => s.modFlash fun f => f.startRow sec
  | 2 => s.pulseSector sec
  | _ => s.modFlash fun f => f.endRow sec

/-- A whole erase (R142): ERASE_AGE of its bank starts anew (R144). -/
def State.eraseWhole (s : State) (sec : Nat) : State :=
  (List.range 4).foldl (fun (t : State) k => t.eraseStep sec k)
    ((s.modFlash fun f => f.eraseRow sec).modChan (sec / 256) fun x => { x with age := 0 })

/-- A code word takes a word state. -/
def State.setWs (s : State) (w n : Nat) : State :=
  s.modFlash fun f => { f with ws := if n = 3 then tdel f.ws w else tset f.ws w n }

/-- PROGRAM (R139, R140). -/
def State.flashProgram (s : State) (c : Nat) : State :=
  let off := fld (s.rg pFLASH (chanReg c 0x104)) 0 23
  let owner := (s.flash.chan c).owner
  let sec := off / 0x4000
  let w := off / 16
  if sec / 256 ≠ c then s.flashDone c 1 5 0
  else if off % 16 ≠ 0 then s.flashDone c 1 4 0
  else if s.flashProtected owner sec then s.flashDone c 1 3 0
  else
    let g := s.flashGate owner (0x10000000 + off) 16
    if !g.2 then g.1.flashDone c 1 2 0
    else if s.pwr.vinLow then s.flashDone c 1 7 0
    else if (s.flash.chan c).erase = some sec then s.flashDone c 1 9 0
    else if tget 3 s.flash.ws w ≠ 3 || s.flash.sectState sec = 1 then s.flashDone c 1 1 0
    else
      let data := (List.range 4).flatMap fun i => leBytes 4 (s.rg pFLASH (chanReg c (0x108 + 4 * i))).toNat
      ((s.setWs w 1).modChan c fun x => { x with prog := some (w, data) }).flashStart c 1

/-- A channel's erase of a sector begins (R142, R144), of its own or of a lowering. -/
def State.eraseBegin (s : State) (c sec : Nat) (lowers : Bool) : State :=
  (s.modFlash fun f => f.eraseRow sec).modChan c fun x =>
    { x with erase := some sec, step := 0, lowers := lowers, suspended := false, auto := false, want := false, age := 0 }

/-- ERASE_SECTOR (R139, R142, R144). -/
def State.flashErase (s : State) (c : Nat) : State :=
  let sec := fld (s.rg pFLASH (chanReg c 0x104)) 14 9
  let owner := (s.flash.chan c).owner
  if sec / 256 ≠ c then s.flashDone c 2 5 0
  else if s.flashProtected owner sec then s.flashDone c 2 3 0
  else
    let g := s.flashGate owner (0x10000000 + sec * 0x4000) 0x4000
    if !g.2 then g.1.flashDone c 2 2 0
    else if s.pwr.vinLow then s.flashDone c 2 7 0
    else
      (s.eraseBegin c sec false).flashStart c 2

/-- SUSPEND and RESUME (R141, R144). -/
def State.flashSuspend (s : State) (c : Nat) : State :=
  let ch := s.flash.chan c
  if ch.erase.isNone || (ch.suspended && !ch.auto) then s.flashDone c 3 8 0
  else (s.modChan c fun x => { x with suspended := true, auto := false, want := false }).flashDone c 3 0 0

def State.flashResume (s : State) (c : Nat) : State :=
  let ch := s.flash.chan c
  if ch.erase.isNone || !ch.suspended then s.flashDone c 4 8 0
  else (s.modChan c fun x => { x with suspended := false, auto := false }).flashDone c 4 0 0

/-- BLANK_CHECK and MARGIN_CHECK start (R139). -/
def State.flashCheck (s : State) (c cmd : Nat) : State :=
  let sec := fld (s.rg pFLASH (chanReg c 0x104)) 14 9
  if sec / 256 ≠ c then s.flashDone c cmd 5 0
  else (s.modChan c fun x => { x with check := some (cmd, sec) }).flashStart c cmd

/-- The moves of the read-out protection level a life-cycle state permits (R457). -/
def rdpMove (st old new : Nat) : Bool :=
  (st ≤ 1) || ((st == 2 || st == 3) && decide (old < new)) || (st == 3 && old == 1 && new == 0)

/-- A lowering that a reset cut, completed by the scan (R149): every sector outside the legal partition is erased, the
level written as 0 and the marker closed. -/
def State.rdpLower (s : State) : State :=
  (((List.range 512).filter fun x => !legalSector x).foldl (fun (t : State) x => t.eraseWhole x) s).modFlash
    fun f => { f with rdp := 0, lowering := false, lowerAt := none }

/-- The next erase of a lowering begins once the channel of its sector runs nothing (R149). -/
def State.lowerNext (s : State) : State :=
  match s.flash.lowerAt with
  | none => s
  | some sec =>
    let ch := s.flash.chan (sec / 256)
    if ch.prog.isSome || ch.check.isSome || ch.erase.isSome then s else s.eraseBegin (sec / 256) sec true

/-- A lowering begins (R149): the marker is written, channel 0 is busy, and sector 0 is erased first. -/
def State.lowerBegin (s : State) : State :=
  (((s.modFlash fun f => { f with lowering := true, lowerAt := some 0 }).modChan 0 fun x =>
    { x with lowers := true }).flashStart 0 7).lowerNext

/-- The sector after one in a lowering, none after the last. -/
def lowerAfter (sec : Nat) : Option Nat :=
  if sec = 223 then some 256 else if sec = 511 then none else some (sec + 1)

/-- A sector of a lowering is erased (R149): the next follows, or the level is 0 and SET_RDP completes. -/
def State.lowerErased (s : State) (c sec : Nat) : State :=
  let s1 := s.modChan c fun x => { x with erase := none, want := false, step := 0 }
  match lowerAfter sec with
  | some next => (s1.modFlash fun f => { f with lowerAt := some next }).lowerNext
  | none =>
    (s1.modFlash fun f => { f with
      rdp := 0, lowering := false, lowerAt := none,
      chans := f.chans.map fun x => { x with lowers := false } }).flashDone 0 7 0 0

/-- SET_RDP (R148, R149, R457). -/
def State.flashSetRdp (s : State) (c : Nat) : State :=
  let new := fld (s.rg pFLASH (chanReg c 0x108)) 0 2
  let old := s.rdpLevel
  if c = 1 then s.flashDone c 7 13 0
  else if (s.flash.chan c).owner ≠ aMCORE || old = 2 || new = old || new = 3 || !rdpMove s.lcState old new
  then s.flashDone c 7 12 0
  else if new < old then s.lowerBegin
  else (s.modFlash fun f => { f with rdp := new }).flashDone c 7 0 0

/-- A command is discarded on a busy channel (R141); an automatically suspended erase is a suspended one
(notes/assumptions/48.md). -/
def FlashChan.discards (ch : FlashChan) (cmd : Nat) : Bool :=
  if ch.lowers || ch.prog.isSome || ch.check.isSome then true
  else if ch.erase.isNone then false
  else if !ch.suspended then cmd != 3
  else !(cmd == 1 || cmd == 3 || cmd == 4 || cmd == 5 || cmd == 6)

/-- A write of CHc_CMD (R138, R139, R141). -/
def State.flashCommand (s : State) (c a : Nat) (v : Word) : State :=
  let r := s.flashAdmit c a
  if !r.2 then r.1
  else
    let cmd := fld v 0 8
    if (s.flash.chan c).discards cmd then s.err pFLASH 19
    else
      match cmd with
      | 1 => s.flashProgram c
      | 2 => s.flashErase c
      | 3 => s.flashSuspend c
      | 4 => s.flashResume c
      | 5 => s.flashCheck c 5
      | 6 => s.flashCheck c 6
      | 7 => s.flashSetRdp c
      | 15 => (s.flashLock c).flashDone c 15 0 0
      | n => s.flashDone c n 13 0

/-- A write to the FLASH page below WP (R138). -/
def State.flashWrite (s : State) (a off : Nat) (v : Word) : State :=
  let c := if off < 0x140 then 0 else 1
  let o := off - 0x40 * c
  if o = 0x100 then s.flashKey c a v
  else if o = 0x118 then s.flashCommand c a v
  else
    let r := s.flashAdmit c a
    if r.2 then s.setRg pFLASH off (if o = 0x104 then v &&& 0x7FFFFF else v) else r.1

/-- A program ends its verify (R140). A lowering that waited for the channel goes on. -/
def State.flashProgramDone (s : State) (c : Nat) (good : Bool) : State :=
  match (s.flash.chan c).prog with
  | none => s
  | some (w, data) =>
    let s1 := s.modChan c fun x => { x with prog := none }
    (if good then ((s1.setWs w 0).poke (0x10000000 + 16 * w) data).flashDone c 1 0 0
     else s1.flashDone c 1 6 0).lowerNext

/-- A step of an erase ends, the last of which completes it (R142, R143). -/
def State.flashEraseDone (s : State) (c step : Nat) : State :=
  let ch := s.flash.chan c
  match ch.erase with
  | none => s
  | some sec =>
    if ch.suspended || ch.step ≠ step then s
    else
      let s1 := s.eraseStep sec step
      if step < 3 then s1.modChan c fun x => { x with step := step + 1 }
      else if ch.lowers then s1.lowerErased c sec
      else ((s1.modChan c fun x => { x with erase := none, want := false, step := 0 }).flashDone c 2 0 0).lowerNext

/-- A blank or margin check completes (R139). `weak` is the number of words that needed correction at
margin. The word states of a sector cut in its erase are open: the outcome of its blank check is a free
value (notes/assumptions/31.md). -/
def State.flashCheckDone (s : State) (c weak : Nat) : State :=
  match (s.flash.chan c).check with
  | none => s
  | some (cmd, sec) =>
    let s1 := (s.modChan c fun x => { x with check := none }).lowerNext
    if cmd = 6 then s1.flashDone c 6 (if weak = 0 then 0 else 11) weak
    else
      let st := s.flash.sectState sec
      if st = 1 || st = 2 then
        let k := Config.freeNat s.free % 1025
        s1.draw.flashDone c 5 (if k = 1024 then 0 else 10) (k % 1024)
      else
        match firstBelow 1024 fun i => tget 3 s.flash.ws (1024 * sec + i) != 3 with
        | some i => s1.flashDone c 5 10 i
        | none => s1.flashDone c 5 0 0

/-- The scan of the state rows (R143, R149): it waits for a program under way, completes an open lowering,
and then READY rises. -/
def State.flashScan (s : State) : State :=
  if s.flash.scanned || s.flash.chans.any (fun x => x.prog.isSome) then s
  else
    let s1 := if s.flash.lowering then s.rdpLower else s
    s1.modFlash fun f =>
      { f with scanned := true,
               intSectors := (f.rows.map (·.1)).filter fun x => f.sectState x == 1 }

/-- An automatic suspend takes hold (R145). -/
def State.flashSuspendTaken (s : State) (c : Nat) : State :=
  let ch := s.flash.chan c
  if ch.erase.isSome && !ch.suspended && ch.want then
    s.modChan c fun x => { x with suspended := true, auto := true, want := false }
  else s

/-- An erase resumes after an automatic suspend (R145), once no program or check command runs. -/
def State.flashAutoResume (s : State) (c : Nat) : State :=
  let ch := s.flash.chan c
  if ch.suspended && ch.auto && ch.prog.isNone && ch.check.isNone then s.modChan c fun x => { x with suspended := false, auto := false } else s

/-- Reads of a bank wait at no erase pulse of it. -/
def State.bankQuiet (s : State) (c : Nat) : Bool :=
  let ch := s.flash.chan c
  ch.prog.isNone && (ch.erase.isNone || ch.suspended)

/-- A block reset (R138, R143, R146): an erase stops at once, a program under way ends. -/
def State.flashBlockReset (s : State) : State :=
  s.modFlash fun f =>
    { f with scanned := false, lowerAt := none,
             chans := f.chans.map fun x => { stuck := x.stuck, prog := x.prog, age := 0 } }

/-- A cold or warm reset (R138, R146): programs and erases stop at once; a word cut off in programming is
PARTIAL. -/
def State.flashReset (s : State) : State :=
  s.modFlash fun f => { f with scanned := false, lowerAt := none, chans := [{}, {}] }

end Sys2Proof.Machine
end

