-- ==== Sys2Proof/Machine/RdrCtl.lean ====
section
/-!
DEFINITION. The reader channels (chapter "Contactless reader channels", R272–R294): field levels and full
power, watching, the singulation table, rounds, and the frames of every command. A frame on air is the
step: the channel sends one, and an event says what came back.
-/
namespace Sys2Proof.Machine

def State.setRdr (s : State) (n : Nat) (r : RdrSt) : State := { s with rdrs := tset s.rdrs n r }

def State.modRdr (s : State) (n : Nat) (f : RdrSt → RdrSt) : State := s.setRdr n (f (s.rdr n))

def State.modRun (s : State) (n : Nat) (f : RdrRun → RdrRun) : State :=
  s.modRdr n fun r => { r with run := r.run.map f }

/-- The bits of a byte string, the first on air first. -/
def bitsOf (bs : List Byte) : List Bool := bs.flatMap fun b => (List.range 8).map fun i => b.getLsbD i

/-- A number from bits, the first the least significant. -/
def bitsNat (l : List Bool) : Nat :=
  match l with
  | [] => 0
  | b :: r => b01 b + 2 * bitsNat r

/-- Bytes from bits, filled with zero bits. -/
def bytesOfBits (l : List Bool) : List Byte := leBytes ((l.length + 7) / 8) (bitsNat l)

/-- A frame leaves the antenna; `bits` of its last byte, 0 for all eight. -/
def State.rdrSend (s : State) (n : Nat) (frame : List Byte) (bits : Nat := 0) : State :=
  s.modRdr n fun r => { r with sent := frame, sentBits := bits }

/-- A frame is sent and the command waits in a phase. -/
def State.rdrAsk (s : State) (n : Nat) (p : RdrPhase) (frame : List Byte) (bits : Nat := 0) : State :=
  (s.rdrSend n frame bits).modRun n fun u => { u with phase := p }

/-- The receive registers cleared. -/
def State.rdrClearRx (s : State) (n : Nat) : State :=
  let pg := pRDR n
  { s with regs := tdrop s.regs fun k _ =>
      (rkey pg 0x800 ≤ k && k ≤ rkey pg 0xBFC) || k == rkey pg 0x120 }

/-- An answer placed in RXBUF and RXLEN (R280). -/
def State.rdrAnswer (s : State) (n : Nat) (bs : List Byte) (bits : Nat := 0) : State :=
  let kept := bs.take 1024
  ((List.range ((kept.length + 3) / 4)).foldl (fun (t : State) i =>
    t.setRg (pRDR n) (0x800 + 4 * i) (wordOf (fitTo 4 (kept.drop (4 * i))))) s).setRg (pRDR n) 0x120
      (wd (kept.length + at' bits 12))

/-- A command completes (R280, R282). -/
def State.rdrFinish (s : State) (n code : Nat) : State :=
  match (s.rdr n).run with
  | none => s
  | some u =>
    let pg := pRDR n
    let entry := if u.cmd = 1 then u.low.getD 0 else u.entry
    let flags := flagAt u.sentAll 8 + flagAt u.deferred 9 + flagAt u.unresolved 10 + flagAt u.multi 11
    let s1 := s.setRg pg 0x124 (wd (code + flags + at' u.cmd 12 + at' entry 16 + 0x80000000))
    let s2 := if u.cmd = 1 && u.phase != .guard then
        s1.setRg pg 0x15C (wd (min 255 u.new + at' (min 255 u.seen) 8 + at' (min 255 u.coll) 16 +
          at' (u.tries % 8) 24))
      else s1
    let s3 := s2.modRdr n fun r => { r with run := none }
    if s.rbit pg 0x24 0 then s3.irq pg 0 else s3

/-! ### Entries (R284, R288, R289) -/

def State.rdrEntry (s : State) (n e : Nat) : RdrEntry := tget {} (s.rdr n).entries e

def State.setEntry (s : State) (n e : Nat) (x : RdrEntry) : State :=
  s.modRdr n fun r => { r with entries := if x.st = 0 then tdel r.entries e else tset r.entries e x }

/-- The entry a found card or tag refreshes, if it is known. -/
def RdrSt.known (r : RdrSt) (proto : Nat) (uid : List Byte) : Option Nat :=
  (r.entries.find? fun e => e.2.proto == proto && e.2.uid == uid).map (·.1)

def RdrSt.freeEntry (r : RdrSt) : Option Nat := firstBelow 64 fun k => (tfind r.entries k).isNone

/-- The lower of two entry numbers. -/
def lowest (a : Option Nat) (e : Nat) : Option Nat :=
  match a with
  | some x => some (min x e)
  | none => some e

/-- A card found in a round makes or refreshes its entry (R284); none when the table is full (R288). -/
def State.rdrFound (s : State) (n : Nat) (x : RdrEntry) : Option (State × Nat) :=
  let r := s.rdr n
  let x1 := { x with round := (s.rg (pRDR n) 0x160).toNat % 0x10000 }
  match r.known x.proto x.uid with
  | some e =>
    let old := s.rdrEntry n e
    let y := { old with st := x.st, info := x.info, round := x1.round, random := x.random,
                        pquiet := x.pquiet, dep := x.dep, held := false,
                        fsci := (if x.fsci = 0 then old.fsci else x.fsci) }
    some ((s.setEntry n e y).modRun n fun u => { u with seen := u.seen + 1, low := lowest u.low e }, e)
  | none =>
    match r.freeEntry with
    | some e =>
      some ((s.setEntry n e x1).modRun n fun u => { u with new := u.new + 1, low := lowest u.low e }, e)
    | none => none

/-- The field leaves FULL: entries become FREE but for the tags in persistent quiet (R289). -/
def RdrSt.leaveFull (r : RdrSt) : RdrSt :=
  { r with guard := false,
           entries := (r.entries.filter fun e => e.2.st == 4 && e.2.pquiet).map fun e =>
             (e.1, { e.2 with held := true }) }

/-! ### Field (R274–R277) -/

/-- VBST is in regulation. -/
def State.bstUp (s : State) : Bool := s.pwr.rails.getD 5 0 == 2

def State.fpHolders (s : State) : Nat := (s.rdrs.filter fun e => e.2.hold).length

/-- Full power is granted (R275). -/
def State.rdrGrant (s : State) (n : Nat) : State :=
  ({ s with rdrWaits := s.rdrWaits.filter (· != n) }.modRdr n fun r =>
    { r with hold := true, ramp := some 2 }).irq (pRDR n) 2

/-- A write of FIELD (R274, R275, R277). A value of 3 names no level and is discarded. -/
def State.rdrField (s : State) (n : Nat) (v : Word) : State :=
  let want := fld v 0 2
  let pg := pRDR n
  if !s.en pg || want = 3 then s
  else
    let s0 := s.modRdr n fun r => { r with ant := false }
    if want ≠ 0 && !s.bstUp then s0.err pg 19
    else
      let s1 := { s0.setRg pg 0x104 (wd want) with rdrWaits := s.rdrWaits.filter (· != n) }
      let r := s1.rdr n
      if want = 2 then
        if r.hold && (r.level = 2 && r.ramp.isNone || r.ramp = some 2) then s1
        else if r.hold then s1.modRdr n fun x => { x with ramp := some 2 }
        else if s1.fpHolders < 4 && s1.rdrWaits = [] then s1.rdrGrant n
        else { s1 with rdrWaits := s1.rdrWaits ++ [n] }
      else if r.ramp.isNone && r.level = want then s1
      else
        let s2 := if r.level = 2 && r.ramp.isNone then
            (s1.modRdr n fun x => x.leaveFull).rdrFinish n 1
          else s1
        s2.modRdr n fun x => { x with ramp := some want }

/-- The oldest waiting request is granted as a holder has left (R275). -/
def State.rdrGrantNext (s : State) : State :=
  match s.rdrWaits with
  | [] => s
  | n :: _ => if s.fpHolders < 4 then s.rdrGrant n else s

/-- A ramp ends (R274–R276, R278). -/
def State.rdrRampDone (s : State) (n : Nat) : State :=
  match (s.rdr n).ramp with
  | none => s
  | some l =>
    s.modRdr n fun r =>
      { r with level := l, ramp := none, hold := r.hold && l == 2, guard := l == 2,
               detect := r.detect && l != 2 && l != 0, baseDue := true }

/-- Driver current outside its window for 64 cycles (R277). -/
def State.rdrAntenna (s : State) (n : Nat) : State :=
  let r := s.rdr n
  if r.level = 0 && r.ramp.isNone then s
  else
    let s1 := s.modRdr n fun x => (if r.level = 2 then x.leaveFull else x)
    let s2 := s1.modRdr n fun x =>
      { x with level := 0, ramp := none, hold := false, guard := false, detect := false, ant := true }
    let s3 := { s2.setRg (pRDR n) 0x104 0 with rdrWaits := s2.rdrWaits.filter (· != n) }
    ((s3.err (pRDR n) 18).irq (pRDR n) 3).rdrFinish n 13

/-! ### Watching (R278, R279) -/

/-- One measurement of a watch against a baseline field of 16 bits at bit `lo`; `beyond` is judged by its
threshold. The drift step is rounded down (notes/assumptions/34.md). -/
def State.rdrMeasure (s : State) (n lo m : Nat) (beyond : Nat → Bool) : State :=
  let pg := pRDR n
  let r := s.rdr n
  let base := fld (s.rg pg 0x10C) lo 16
  let put (t : State) (b : Nat) : State := t.modRg pg 0x10C fun v => putFld v lo 16 b
  if r.baseDue then put (s.modRdr n fun x => { x with baseDue := false }) m
  else if beyond base then
    (if r.detect then s else (((s.modRdr n fun x => { x with detect := true }).irq pg 1).cnt pg 0x16C))
  else if r.detect then s.modRdr n fun x => { x with detect := false }
  else put s (Int.toNat ((base : Int) + ((m : Int) - (base : Int)) / 256))

def apart (a b : Nat) : Nat := if a < b then b - a else a - b

/-- The load is measured (R278). -/
def State.rdrLoadWatch (s : State) (n m : Nat) : State :=
  let r := s.rdr n
  if fld (s.rg (pRDR n) 0x100) 0 2 ≠ 1 || r.level ≠ 1 || r.ramp.isSome then s
  else s.rdrMeasure n 0 m fun base => decide (fld (s.rg (pRDR n) 0x108) 0 8 * base < 1000 * apart m base)

/-- The capacitance is measured, in 0.1 pF (R279). -/
def State.rdrCapWatch (s : State) (n m : Nat) : State :=
  let r := s.rdr n
  if n < 6 || fld (s.rg (pRDR n) 0x100) 0 2 ≠ 2 || r.level ≠ 0 || r.ramp.isSome then s
  else s.rdrMeasure n 16 m fun base => decide (fld (s.rg (pRDR n) 0x108) 8 8 < apart m base)

/-- A write of CFG (R279). -/
def State.rdrCfg (s : State) (n : Nat) (v : Word) : State :=
  let w := v &&& 0xFFFF0003
  if fld v 0 2 = 2 && n < 6 then ((s.setRg (pRDR n) 0x100 (w &&& 0xFFFF0000)).err (pRDR n) 17)
  else s.setRg (pRDR n) 0x100 w

/-! ### Frames sent -/

/-- The identifier part and the check byte at a cascade level of a known identifier. -/
def uidPart (uid : List Byte) (level : Nat) : List Byte :=
  let parts := if uid.length = 4 then 1 else if uid.length = 7 then 2 else 3
  let p := if level + 1 < parts then 0x88 :: (uid.drop (3 * level)).take 3 else (uid.drop (3 * level)).take 4
  p ++ [p.foldl (· ^^^ ·) 0]

def selCode (level : Nat) : Byte := BitVec.ofNat 8 (0x93 + 2 * level)

/-- An anticollision frame with the bits known so far (R285). -/
def antiFrame (level : Nat) (bits : List Bool) : List Byte :=
  [selCode level, BitVec.ofNat 8 ((2 + bits.length / 8) * 16 + bits.length % 8)] ++ bytesOfBits bits

/-- REQB or WUPB (R286). -/
def reqbFrame (u : RdrRun) (wake : Bool) (n : Nat) : List Byte :=
  let code := [1, 2, 4, 8, 16].findIdx (· == n)
  [0x05, BitVec.ofNat 8 (if u.arg0.testBit 5 then nfld u.arg0 8 8 else 0),
    BitVec.ofNat 8 (code + flagAt wake 3 + 0x10)]

/-- INVENTORY or TINVENTORY with 16 slots and a mask (R287, R294). -/
def invFrame (u : RdrRun) (tmfg : Nat) : List Byte :=
  let afi := u.arg0.testBit 5
  let t := nfld u.arg0 0 2 == 3
  [BitVec.ofNat 8 (0x06 + flagAt afi 4), if t then 0xB0 else 0x01] ++
    (if t then [BitVec.ofNat 8 tmfg] else []) ++
    (if afi then [BitVec.ofNat 8 (nfld u.arg0 8 8)] else []) ++
    [BitVec.ofNat 8 u.mask.length] ++ bytesOfBits u.mask

def State.tmfg (s : State) (n : Nat) : Nat := fld (s.rg (pRDR n) 0x170) 0 8

/-! ### Rounds (R285–R288) -/

def State.roundEnd (s : State) (n : Nat) : State :=
  match (s.rdr n).run with
  | some u => s.rdrFinish n (if u.new + u.seen = 0 && !u.deferred then 2 else 0)
  | none => s

/-- A round stops with cards left for the next one (R286, R288). -/
def State.roundDefer (s : State) (n : Nat) : State :=
  (s.modRun n fun u => { u with deferred := true }).roundEnd n

/-- Type A: step 1 (R285). -/
def State.roundA (s : State) (n : Nat) (first : Bool) : State :=
  match (s.rdr n).run with
  | some u =>
    let wake := first && u.arg0.testBit 2
    (s.rdrAsk n .reqa [if wake then 0x52 else 0x26] 7).modRun n fun x =>
      { x with level := 0, bits := [], uid := [] }
  | none => s

/-- A Type B pass starts (R286). -/
def State.passB (s : State) (n : Nat) (first : Bool) : State :=
  match (s.rdr n).run with
  | some u =>
    (s.rdrAsk n .slotB (reqbFrame u (first && u.arg0.testBit 2) u.slots)).modRun n fun x =>
      { x with slot := 0, passColl := 0 }
  | none => s

/-- The next slot of a Type B pass, the next pass, or the end (R286). -/
def State.nextSlotB (s : State) (n : Nat) : State :=
  match (s.rdr n).run with
  | some u =>
    if u.slot + 1 < u.slots then
      (s.rdrAsk n .slotB [BitVec.ofNat 8 ((u.slot + 1) * 16 + 5)]).modRun n fun x =>
        { x with slot := u.slot + 1 }
    else if u.passColl = 0 then s.roundEnd n
    else if u.pass + 1 < 8 then
      (s.modRun n fun x => { x with pass := u.pass + 1, slots := min 16 (2 * u.slots) }).passB n false
    else s.roundDefer n
  | none => s

/-- An inventory pass starts (R287). -/
def State.passV (s : State) (n : Nat) : State :=
  match (s.rdr n).run with
  | some u =>
    (s.rdrAsk n .slotV (invFrame u (s.tmfg n))).modRun n fun x => { x with slot := 0, found := [] }
  | none => s

/-- The next slot of an inventory pass, the next branch, or the end (R287). -/
def State.nextSlotV (s : State) (n : Nat) : State :=
  match (s.rdr n).run with
  | some u =>
    if u.slot + 1 < 16 then (s.rdrAsk n .slotV []).modRun n fun x => { x with slot := u.slot + 1 }
    else
      match u.found ++ u.branches with
      | [] => s.roundEnd n
      | m :: rest => (s.modRun n fun x => { x with mask := m, branches := rest, found := [] }).passV n
  | none => s

/-- A command's first frame (R276, R281). -/
def State.rdrBegin (s : State) (n : Nat) : State :=
  match (s.rdr n).run with
  | none => s
  | some u =>
    let e := s.rdrEntry n u.entry
    let cid := if u.arg0.testBit 8 then nfld u.arg0 4 4 else 0
    match u.cmd with
    | 1 =>
      let s1 := s.modRg (pRDR n) 0x160 (· + 1)
      (match nfld u.arg0 0 2 with
       | 0 => s1.roundA n true
       | 1 => (s1.modRun n fun x => { x with slots := 2 ^ min 4 (nfld u.arg0 16 3) }).passB n true
       | _ => s1.passV n)
    | 2 =>
      if e.proto = 0 then
        (if e.st = 2 then s.rdrAsk n .wakeA [0x52] 7
         else s.rdrAsk n .rats [0xE0, BitVec.ofNat 8 (nfld u.arg0 0 4 * 16 + cid)])
      else if e.proto = 1 then
        (if e.st = 2 then s.rdrAsk n .wakeB [0x05, 0x00, 0x18]
         else s.rdrAsk n .attrib ([0x1D] ++ e.uid.take 4 ++
           [0, BitVec.ofNat 8 (nfld u.arg0 0 4), 1, BitVec.ofNat 8 cid]))
      else s.rdrAsk n .selectV ([0x22, 0x25] ++ e.uid)
    | 3 =>
      if e.proto ≤ 1 then
        (let fsc := [16, 24, 32, 40, 48, 64, 96, 128, 256].getD e.fsci 16
         let k := min (fsc - 3 - b01 e.cidu) u.tx.length
         let more := k < u.tx.length
         (s.rdrAsk n .block ([BitVec.ofNat 8 (0x02 + flagAt more 4 + flagAt e.cidu 3 + b01 e.bn)] ++
           (if e.cidu then [BitVec.ofNat 8 e.cid] else []) ++ u.tx.take k)).modRun n fun x =>
             { x with blk := k, sentAll := !more })
      else
        let sel := e.st == 3
        let flags : Byte := BitVec.ofNat 8 (0x02 + (if sel then 0x10 else 0x20) + flagAt (u.arg0.testBit 1) 6)
        (s.rdrAsk n .xchgV ([flags] ++ u.tx.take 1 ++
          (if e.proto = 3 then [BitVec.ofNat 8 (s.tmfg n)] else []) ++
          (if sel then [] else e.uid) ++ u.tx.drop 1)).modRun n fun x => { x with sentAll := true }
    | 4 =>
      let s1 := (s.rdrAsk n .raw u.tx (nfld u.arg1 24 3)).modRun n fun x => { x with sentAll := true }
      if nfld u.arg1 0 24 = 0 then s1.rdrFinish n 0 else s1
    | 5 =>
      if e.proto ≤ 1 && e.st = 3 then
        s.rdrAsk n .deselect ([BitVec.ofNat 8 (0xC2 + flagAt e.cidu 3)] ++
          (if e.cidu then [BitVec.ofNat 8 e.cid] else []))
      else if e.proto = 0 then
        ((s.rdrSend n [0x50, 0x00]).setEntry n u.entry { e with st := 2 }).rdrFinish n 0
      else if e.proto = 1 then s.rdrAsk n .hltb ([0x50] ++ e.uid.take 4)
      else ((s.rdrSend n ([0x22, 0x02] ++ e.uid)).setEntry n u.entry { e with st := 4 }).rdrFinish n 0
    | _ => s

/-! ### Commands (R276, R280–R282) -/

/-- The C-APDU's case, Lc and Le agree with its length (R291). -/
def apduOk (bs : List Byte) : Bool :=
  let n := bs.length
  let b4 := (byteAt bs 4).toNat
  let lc := (byteAt bs 5).toNat * 256 + (byteAt bs 6).toNat
  if n < 4 then false
  else if n ≤ 5 then true
  else if b4 ≠ 0 then n == 5 + b4 || n == 6 + b4
  else if n < 7 then false
  else if n = 7 then true
  else lc != 0 && (n == 7 + lc || n == 9 + lc)

/-- The bytes of TXBUF under TXLEN. -/
def State.rdrTx (s : State) (n len : Nat) : List Byte :=
  ((List.range ((len + 3) / 4)).flatMap fun i => leBytes 4 (s.rg (pRDR n) (0x400 + 4 * i)).toNat).take len

/-- The code a command completes with at once, if any (R273, R276, R281, R282). -/
def State.rdrRefuses (s : State) (n cmd : Nat) (e : RdrEntry) : Option Nat :=
  let r := s.rdr n
  let a0 := (s.rg (pRDR n) 0x114).toNat
  let len := fld (s.rg (pRDR n) 0x11C) 0 11
  if !(1 ≤ cmd && cmd ≤ 6) then some 4
  else if cmd ≠ 6 && !(r.level = 2 && r.ramp.isNone) then some 1
  else if (cmd = 2 && !(e.st = 1 || e.st = 2 || e.st = 4)) || (cmd = 5 && !(e.st = 1 || e.st = 3)) ||
      (cmd = 3 && (if e.proto ≤ 1 then e.st ≠ 3 else e.st = 0 || e.st = 5)) then some 3
  else if (cmd = 3 && e.proto = 0 && !(e.dep && e.ats)) || (cmd = 4 && fld (s.rg (pRDR n) 0x118) 30 2 = 3) ||
      (cmd = 1 && 4 < nfld a0 16 3) then some 4
  else if (cmd = 3 || cmd = 4) && (len = 0 || 1024 < len) then some 5
  else if cmd = 2 && e.proto ≤ 1 && 8 < nfld a0 0 4 then some 5
  else if cmd = 3 && e.proto ≤ 1 && a0.testBit 0 && !apduOk (s.rdrTx n len) then some 6
  else none

/-- ABORT (R293): the running command ends at this frame boundary. -/
def State.rdrAbort (s : State) (n : Nat) : State := s.rdrFinish n 12

/-- A refusal that R273 makes one of an option not listed: ERR.UNSUP is set beside the code (R12). An FSDI above 8
is one, with the code LENGTH. -/
def rdrUnsup (u : RdrRun) (c : Nat) : Bool := c == 4 || (c == 5 && u.cmd == 2 && decide (8 < nfld u.arg0 0 4))

/-- A write of CMD (R280, R281). -/
def State.rdrCommand (s : State) (n : Nat) (v : Word) : State :=
  let pg := pRDR n
  let cmd := fld v 0 4
  let ent := fld v 8 6
  if cmd = 15 then s.rdrAbort n
  else if (s.rdr n).run.isSome then s.err pg 16
  else
    let e := s.rdrEntry n ent
    let len := fld (s.rg pg 0x11C) 0 11
    let u : RdrRun := { cmd := cmd, entry := ent, arg0 := (s.rg pg 0x114).toNat,
                        arg1 := (s.rg pg 0x118).toNat, tx := s.rdrTx n (min len 1024) }
    let s1 := ((s.rdrClearRx n).setRg pg 0x124 (wd (at' cmd 12 + at' ent 16 + 0x40000000))).modRdr n fun r =>
      { r with run := some u }
    match s.rdrRefuses n cmd e with
    | some c => (if rdrUnsup u c then s1.err pg 17 else s1).rdrFinish n c
    | none =>
      if cmd = 6 then (s1.setEntry n ent {}).rdrFinish n 0
      else if (s.rdr n).guard then s1
      else s1.rdrBegin n

/-- GUARD falls: a waiting command sends its first frame (R276). -/
def State.rdrGuardEnd (s : State) (n : Nat) : State :=
  if !(s.rdr n).guard then s
  else
    let s1 := s.modRdr n fun r => { r with guard := false }
    match (s.rdr n).run with
    | some u => if u.phase = .guard then s1.rdrBegin n else s1
    | none => s1

/-- A write of TXBUF, TXLEN, ARG0 or ARG1 (R280). -/
def State.rdrBufWrite (s : State) (n off : Nat) (v : Word) : State :=
  if (s.rdr n).run.isSome then s.err (pRDR n) 16
  else s.setRg (pRDR n) off (if off = 0x11C then v &&& 0x7FF else v)

/-! ### Answers -/

/-- What the antenna received (R283): the bytes, the bits of the last byte, the place of the first
collided bit, and whether CRC and parity hold. -/
structure AirFrame where
  data : List Byte
  bits : Nat
  coll : Option Nat
  good : Bool

/-- A round's card was found with its whole identifier (R285 step 4). -/
def State.foundA (s : State) (n : Nat) (u : RdrRun) (uid : List Byte) (sak : Byte) : State :=
  let x : RdrEntry := { st := 1, proto := 0, dep := sak.getLsbD 5, uid := uid,
                        info := fitTo 2 u.atqa ++ [sak] }
  match s.rdrFound n x with
  | none => s.roundDefer n
  | some (t, e) =>
    if u.arg0.testBit 3 then (t.modRun n fun r => { r with multi := u.multi }).roundEnd n
    else
      ((t.setEntry n e { t.rdrEntry n e with st := 2 }).rdrSend n [0x50, 0x00]).roundA n false

/-- A card could be taken into the table (R288). -/
def State.roomA (s : State) (n : Nat) (uid : List Byte) : Bool :=
  (s.rdr n).freeEntry.isSome ||
    (s.rdr n).entries.any fun e => e.2.proto == 0 && e.2.uid.take uid.length == uid

/-- An anticollision answer (R285 step 2): at a collided bit the reader takes 1. -/
def State.antiA (s : State) (n : Nat) (u : RdrRun) (f : AirFrame) : State :=
  let got := bitsOf f.data
  match f.coll with
  | some k =>
    let bits := (u.bits ++ got.take k ++ [true]).take 40
    (s.rdrAsk n .anti (antiFrame u.level bits) (bits.length % 8)).modRun n fun x =>
      { x with bits := bits, coll := x.coll + 1, multi := x.multi || x.arg0.testBit 3 }
  | none =>
    let all := (u.bits ++ got).take 40
    let bs := bytesOfBits all
    let part := bs.take 4
    if all.length < 40 || byteAt bs 4 ≠ part.foldl (· ^^^ ·) 0 then
      (if f.good then s else s.cnt (pRDR n) 0x164).roundA n false
    else
      let uid := u.uid ++ (if byteAt part 0 = 0x88 && u.level < 2 then part.drop 1 else part)
      if !s.roomA n uid then s.roundDefer n
      else
        (s.rdrAsk n .sak ([selCode u.level, 0x70] ++ bs)).modRun n fun x => { x with bits := all, uid := uid }

/-- Failure of ACTIVATE (R290). -/
def State.activateFail (s : State) (n : Nat) (u : RdrRun) (code : Nat) : State :=
  let e := s.rdrEntry n u.entry
  (if e.proto ≤ 1 then s.setEntry n u.entry { e with st := 2 } else s).rdrFinish n code

/-- The highest rates a capability byte and the offer have in common: reader to card from its low bits,
card to reader from its high bits; bit 7 asks for one rate both ways (R290). -/
def ratesFor (cap : Byte) (arg0 : Nat) : Nat × Nat :=
  let best (lo mx : Nat) : Nat :=
    (List.range 4).foldl (fun m k => if k ≤ mx && (k == 0 || cap.getLsbD (lo + k - 1)) then k else m) 0
  let a := best 0 (nfld arg0 12 2)
  let b := best 4 (nfld arg0 14 2)
  if cap.getLsbD 7 then
    (let c := (List.range 4).foldl (fun m k =>
        if k ≤ min (nfld arg0 12 2) (nfld arg0 14 2) &&
          (k == 0 || (cap.getLsbD (k - 1) && cap.getLsbD (k + 3))) then k else m) 0
     (c, c))
  else (a, b)

/-- An entry becomes ACTIVE (R290). -/
def State.activated (s : State) (n : Nat) (u : RdrRun) (rate : Nat × Nat) (answer : List Byte) : State :=
  let e := s.rdrEntry n u.entry
  let r := rate.1 + 4 * rate.2
  (((s.setEntry n u.entry { e with st := 3, rate := r, bn := false, ats := true }).setRg (pRDR n) 0x12C
    (wd r)).rdrAnswer n answer).rdrFinish n 0

/-- ATS (R290): FSCI, CID use, and PPS where a higher rate is common. -/
def State.gotAts (s : State) (n : Nat) (u : RdrRun) (d : List Byte) : State :=
  if (byteAt d 0).toNat ≠ d.length || d = [] then s.activateFail n u 9
  else
    let t0 := if 2 ≤ d.length then byteAt d 1 else 0x02
    let ta := if t0.getLsbD 4 then byteAt d 2 else 0
    let tc := byteAt d (2 + b01 (t0.getLsbD 4) + b01 (t0.getLsbD 5))
    let cidOk := !t0.getLsbD 6 || tc.getLsbD 1
    let cidu := u.arg0.testBit 8 && cidOk
    let e := s.rdrEntry n u.entry
    let cid := if cidu then nfld u.arg0 4 4 else 0
    let s1 := s.setEntry n u.entry { e with fsci := min 8 (t0.toNat % 16), cidu := cidu, cid := cid }
    let r := ratesFor ta u.arg0
    if r = (0, 0) then s1.activated n u r d
    else
      (s1.rdrAsk n .pps [BitVec.ofNat 8 (0xD0 + nfld u.arg0 4 4 * b01 (u.arg0.testBit 8)), 0x11,
        BitVec.ofNat 8 (r.1 + 4 * r.2)]).modRun n fun x => { x with rx := d, tries := r.1 + 4 * r.2 }

/-- An ATQB's FSCI and rate capability. -/
def atqbInfo (d : List Byte) : List Byte := (d.drop 5).take 7

/-- One I-block of the request, or the acknowledgement of an answer block, sent (again) (R291). -/
def State.sendBlock (s : State) (n : Nat) : State :=
  match (s.rdr n).run with
  | none => s
  | some u =>
    let e := s.rdrEntry n u.entry
    let cid := if e.cidu then [BitVec.ofNat 8 e.cid] else []
    if u.answering then
      s.rdrAsk n .block ([BitVec.ofNat 8 (0xA2 + flagAt e.cidu 3 + b01 e.bn)] ++ cid)
    else
      let fsc := [16, 24, 32, 40, 48, 64, 96, 128, 256].getD e.fsci 16
      let k := min (fsc - 3 - b01 e.cidu) (u.tx.length - u.off)
      let more := u.off + k < u.tx.length
      (s.rdrAsk n .block ([BitVec.ofNat 8 (0x02 + flagAt more 4 + flagAt e.cidu 3 + b01 e.bn)] ++ cid ++
        (u.tx.drop u.off).take k)).modRun n fun x => { x with blk := k, sentAll := x.sentAll || !more }

/-- Recovery of a missing or invalid block (R291): R(NAK), or R(ACK) while an answer is chained. -/
def State.blockRetry (s : State) (n : Nat) (u : RdrRun) (resend : Bool) : State :=
  let e := s.rdrEntry n u.entry
  if fld (s.rg (pRDR n) 0x128) 24 4 ≤ u.retry then (s.setEntry n u.entry {}).rdrFinish n 10
  else
    let s1 := s.modRun n fun x => { x with retry := u.retry + 1 }
    if resend || u.answering then s1.sendBlock n
    else s1.rdrAsk n .block ([BitVec.ofNat 8 (0xB2 + flagAt e.cidu 3 + b01 e.bn)] ++
      (if e.cidu then [BitVec.ofNat 8 e.cid] else []))

/-- A block of the ISO/IEC 14443-4 protocol is received (R291). -/
def State.gotBlock (s : State) (n : Nat) (u : RdrRun) (f : AirFrame) : State :=
  let e := s.rdrEntry n u.entry
  let pcb := byteAt f.data 0
  let inf := f.data.drop (1 + b01 (pcb.getLsbD 3))
  let sameBn := pcb.getLsbD 0 == e.bn
  let toggled (t : State) : State := t.setEntry n u.entry { e with bn := !e.bn }
  if !f.good || f.data = [] then s.blockRetry n u false
  else if pcb &&& 0xE2 = 0x02 then
    (if !sameBn || u.off + u.blk < u.tx.length then s.blockRetry n u false
     else
       let rx := u.rx ++ inf
       if pcb.getLsbD 4 then
         ((toggled s).modRun n fun x => { x with rx := rx, answering := true, retry := 0 }).sendBlock n
       else ((toggled s).rdrAnswer n rx).rdrFinish n (if 1024 < rx.length then 11 else 0))
  else if pcb &&& 0xF6 = 0xA2 then
    (if u.answering then s.blockRetry n u false
     else if !sameBn then s.blockRetry n u true
     else if u.off + u.blk < u.tx.length then
       ((toggled s).modRun n fun x => { x with off := u.off + u.blk, retry := 0 }).sendBlock n
     else s.blockRetry n u false)
  else if pcb &&& 0xF7 = 0xF2 then
    s.rdrAsk n .block ([pcb] ++ (if e.cidu then [BitVec.ofNat 8 e.cid] else []) ++
      [byteAt inf 0 &&& 0x3F])
  else s.blockRetry n u false

/-- A slot of an inventory that holds an answer (R287). -/
def State.gotSlotV (s : State) (n : Nat) (u : RdrRun) (f : AirFrame) : State :=
  let t := nfld u.arg0 0 2 == 3
  let slotBits := (List.range 4).map fun i => u.slot.testBit i
  let uid := (f.data.drop (if t then 3 else 2)).take 8
  if f.coll.isSome || !f.good then
    let s1 := s.modRun n fun x => { x with coll := x.coll + 1 }
    if u.mask.length < 60 then
      (s1.modRun n fun x => { x with found := x.found ++ [u.mask ++ slotBits] }).nextSlotV n
    else if t && u.tries < 4 then
      ((s1.rdrSend n ([0x22, 0xB1, BitVec.ofNat 8 (s.tmfg n)] ++ uid)).modRun n fun x =>
        { x with tries := u.tries + 1, mask := [], branches := [], found := [] }).passV n
    else
      match s1.rdrFound n { st := 5, proto := nfld u.arg0 0 2, uid := uid, tries := u.tries } with
      | none => s1.roundDefer n
      | some (t1, _) => (t1.modRun n fun x => { x with unresolved := true }).nextSlotV n
  else
    let quiet := u.arg0.testBit 4
    let x : RdrEntry :=
      { st := if quiet then 4 else 1, proto := nfld u.arg0 0 2, uid := uid,
        info := [byteAt f.data (if t then 2 else 1)],
        random := t && (byteAt f.data 1).getLsbD 0, pquiet := t && (byteAt f.data 1).getLsbD 1 }
    match s.rdrFound n x with
    | none => s.roundDefer n
    | some (t1, _) =>
      let t2 := if quiet then t1.rdrSend n ([0x22, 0x02] ++ uid) else t1
      if u.arg0.testBit 3 then t2.roundEnd n else t2.nextSlotV n

/-- A response frame is received (R283). -/
def State.rdrReceived (s : State) (n : Nat) (f : AirFrame) : State :=
  match (s.rdr n).run with
  | none => s
  | some u =>
    let s1 := if f.good || u.phase == .reqa || (u.phase == .anti && f.coll.isSome) then s
      else s.cnt (pRDR n) 0x164
    let e := s.rdrEntry n u.entry
    match u.phase with
    | .guard => s
    | .reqa => (s1.rdrAsk n .anti (antiFrame 0 [])).modRun n fun x => { x with atqa := f.data.take 2 }
    | .anti => s1.antiA n u f
    | .sak =>
      if !f.good then s1.roundA n false
      else
        let sak := byteAt f.data 0
        if sak.getLsbD 2 && u.level < 2 then
          (s1.rdrAsk n .anti (antiFrame (u.level + 1) [])).modRun n fun x =>
            { x with level := u.level + 1, bits := [] }
        else s1.foundA n u u.uid sak
    | .slotB =>
      if !f.good then (s1.modRun n fun x => { x with passColl := x.passColl + 1, coll := x.coll + 1,
                                                     multi := x.multi || x.arg0.testBit 3 }).nextSlotB n
      else
        let x : RdrEntry := { st := 1, proto := 1, uid := (f.data.drop 1).take 4, info := atqbInfo f.data,
                              fsci := min 8 ((byteAt f.data 10).toNat / 16),
                              dep := (byteAt f.data 10).getLsbD 0 }
        match s1.rdrFound n x with
        | none => s1.roundDefer n
        | some (t, k) =>
          if u.arg0.testBit 3 then t.roundEnd n
          else ((t.setEntry n k { t.rdrEntry n k with st := 2 }).rdrAsk n .haltB
            ([0x50] ++ (f.data.drop 1).take 4))
    | .haltB => s1.nextSlotB n
    | .slotV => s1.gotSlotV n u f
    | .wakeA => s1.rdrAsk n .wakeSak ([selCode 0, 0x70] ++ uidPart e.uid 0)
    | .wakeSak =>
      if !f.good then s1.activateFail n u 8
      else
        let parts := if e.uid.length = 4 then 1 else if e.uid.length = 7 then 2 else 3
        if u.level + 1 < parts then
          (s1.rdrAsk n .wakeSak ([selCode (u.level + 1), 0x70] ++ uidPart e.uid (u.level + 1))).modRun n
            fun x => { x with level := u.level + 1 }
        else
          s1.rdrAsk n .rats [0xE0, BitVec.ofNat 8 (nfld u.arg0 0 4 * 16 +
            (if u.arg0.testBit 8 then nfld u.arg0 4 4 else 0))]
    | .wakeB =>
      if !f.good then s1.activateFail n u 8
      else s1.rdrAsk n .attrib ([0x1D] ++ e.uid.take 4 ++ [0, BitVec.ofNat 8 (nfld u.arg0 0 4), 1,
        BitVec.ofNat 8 (if u.arg0.testBit 8 then nfld u.arg0 4 4 else 0)])
    | .rats => if !f.good then s1.activateFail n u 8 else s1.gotAts n u f.data
    | .pps =>
      if !f.good then s1.activateFail n u 8
      else if byteAt f.data 0 &&& 0xF0 ≠ 0xD0 then s1.activateFail n u 9
      else s1.activated n u (u.tries % 4, u.tries / 4) u.rx
    | .attrib =>
      if !f.good then s1.activateFail n u 8
      else if f.data = [] then s1.activateFail n u 9
      else
        let cidu := u.arg0.testBit 8
        (s1.setEntry n u.entry { e with cidu := cidu, cid := if cidu then nfld u.arg0 4 4 else 0 }).activated n
          u (ratesFor (byteAt e.info 4) u.arg0) f.data
    | .selectV =>
      if !f.good then s1.activateFail n u 8
      else if (byteAt f.data 0).getLsbD 0 then s1.activateFail n u 9
      else ((s1.setEntry n u.entry { e with st := 3 }).rdrAnswer n f.data).rdrFinish n 0
    | .block => s1.gotBlock n u f
    | .xchgV => if !f.good then s1.rdrFinish n 8
      else (s1.rdrAnswer n f.data).rdrFinish n (if 1024 < f.data.length then 11 else 0)
    | .raw =>
      let bad := !f.good && (u.arg1.testBit 28 || u.arg1.testBit 29)
      (s1.rdrAnswer n f.data f.bits).rdrFinish n
        (if bad then 8 else if 1024 < f.data.length then 11 else 0)
    | .deselect => (s1.setEntry n u.entry { e with st := 2 }).rdrFinish n 0
    | .hltb => (s1.setEntry n u.entry { e with st := 2 }).rdrFinish n 0

/-- A response timeout expires (R283). -/
def State.rdrTimeout (s : State) (n : Nat) : State :=
  match (s.rdr n).run with
  | none => s
  | some u =>
    let s1 := s.cnt (pRDR n) 0x168
    let e := s.rdrEntry n u.entry
    match u.phase with
    | .guard => s
    | .reqa => s1.roundEnd n
    | .anti | .sak => s1.roundA n false
    | .slotB | .haltB => s1.nextSlotB n
    | .slotV => s1.nextSlotV n
    | .wakeA | .wakeSak | .wakeB | .rats | .pps | .attrib | .selectV => s1.activateFail n u 7
    | .block => s1.blockRetry n u false
    | .xchgV | .raw => s1.rdrFinish n 7
    | .deselect | .hltb => (s1.setEntry n u.entry { e with st := 2 }).rdrFinish n 7

/-- The PQ_HOLD time of a kept entry expires (R289). -/
def State.rdrPqExpire (s : State) (n e : Nat) : State :=
  if (s.rdrEntry n e).held then s.setEntry n e {} else s

/-- A block, warm or cold reset (R293). -/
def State.rdrReset (s : State) (n : Nat) : State :=
  { s with rdrs := tdel s.rdrs n, rdrWaits := s.rdrWaits.filter (· != n) }

/-- A reader page's own writes. -/
def State.rdrWrite (s : State) (n off : Nat) (v : Word) : State :=
  if off = 0x100 then s.rdrCfg n v
  else if off = 0x104 then s.rdrField n v
  else if off = 0x110 then s.rdrCommand n v
  else s.rdrBufWrite n off v

/-- A reader pair's domain may be switched off (R272). -/
def State.rdrIdle (s : State) (n : Nat) : Bool :=
  let r := s.rdr n
  r.level == 0 && r.ramp.isNone && !s.rdrWaits.contains n &&
    !(6 ≤ n && fld (s.rg (pRDR n) 0x100) 0 2 == 2)

end Sys2Proof.Machine
end

