-- ==== Sys2Proof/Machine/TagCtl.lean ====
section
/-!
DEFINITION. The field-powered tag island (chapter "Field-powered tag island", R295–R310): its supply and
recovery, the RF commands, and the wire side.
-/
namespace Sys2Proof.Machine

def State.modTag (s : State) (f : TagSt → TagSt) : State := { s with tag := f s.tag }

def TagSt.blockVal (t : TagSt) (b : Nat) : Word := tget 0 t.blocks b

/-! ### Writing (R306, R307) -/

/-- A change committed to tag memory or system data. -/
def TagSt.apply (t : TagSt) (c : TagChange) : TagSt :=
  match c with
  | .block b v => { t with blocks := tset t.blocks b v }
  | .lock b => { t with locks := if t.locks.contains b then t.locks else b :: t.locks }
  | .afi v => { t with conf := t.conf % 0x100 + at' (v % 256) 8 + at' (nfld t.conf 16 8) 16 }
  | .dsfid v => { t with conf := t.conf % 0x10000 + at' (v % 256) 16 }
  | .protect a r w => { t with map := tset t.map a (r, w) }
  | .setpw i v l =>
    { t with pws := t.pws.set i v, lims := if l = 0 then t.lims else t.lims.set i l,
             cnts := t.cnts.set i 0, pwlock := t.pwlock &&& (0xFF ^^^ 2 ^ i) }
  | .pwreset i => { t with cnts := t.cnts.set i 0, pwlock := t.pwlock &&& (0xFF ^^^ 2 ^ i) }
  | .conf v => { t with conf := v &&& 0x00FFFF07 }
  | .seed k => { t with seed := some k }

/-- The block a change concerns, for RECOV; 0 for system data. -/
def TagChange.blockNo : TagChange → Nat
  | .block b _ => b
  | .lock b => b
  | _ => 0

/-- A wire command completes (R309). The port's own SEED has no agent to report to. -/
def State.tagDone (s : State) (w : TagWire) (code : Nat) : State :=
  match w.agent with
  | some a => (s.setArg a pTAG 0x10C (wd (code + at' w.cmd 8 + 0x80000000))).irq pTAG 0
  | none => s

/-- A change enters steps 3–5. -/
def State.tagCycle (s : State) (c : TagChange) (w : Option TagWire) : State :=
  s.modTag fun t => { t with cycle := some { change := c, wire := w } }

/-! ### The wire side (R308–R310) -/

/-- One wire command carried out, with the memory port free: a code, or a change to write, or it goes on
waiting. -/
inductive TagAns where
  | code (n : Nat)
  | change (c : TagChange)
  | wait
  deriving DecidableEq, Repr

def TagSt.wireDo (t : TagSt) (w : TagWire) : TagAns :=
  let b := fld w.arg 0 11
  let i := fld w.arg 12 3
  match w.cmd with
  | 2 => if t.locks.contains b then .code 3 else .change (.block b w.data)
  | 3 => .change (.protect (fld w.arg 16 4) (fld w.arg 20 3) (fld w.arg 24 3))
  | 4 => if i = 0 then .code 2 else .change (.setpw i w.data (fld w.arg 28 4))
  | 5 => if i = 0 then .code 2 else .change (.pwreset i)
  | 6 => .change (.conf w.data.toNat)
  | 0xB => if t.locks.contains b then .code 3 else .change (.lock b)
  | _ => .code 1

/-- A wire command runs, the port free (R303, R309). -/
def State.tagWireRun (s : State) (w : TagWire) : State × Bool :=
  match w.cmd with
  | 1 =>
    let t := match w.agent with
      | some a => s.setArg a pTAG 0x108 (s.tag.blockVal (fld w.arg 0 11))
      | none => s
    (t.tagDone w 0, true)
  | 7 =>
    (match s.wireDraw 9 16 with
     | (t, 0, k) => (t.tagCycle (.seed k) (some w), true)
     | (t, 3, _) => (t.tagDone w 5, true)
     | (t, _, _) => (t, false))
  | 8 => ((s.modTag fun t => { t with hold := true }).tagDone w 0, true)
  | 9 => ((s.modTag fun t => { t with hold := false }).tagDone w 0, true)
  | 0xA =>
    if s.tag.killed then (s.tagDone w 8, true)
    else ((s.modTag fun t => { t with killed := true }).tagDone w 0, true)
  | _ =>
    match s.tag.wireDo w with
    | .code n => (s.tagDone w n, true)
    | .change c => (s.tagCycle c (some w), true)
    | .wait => (s, false)

/-- Waiting wire commands go on while the port is free, oldest first. -/
def State.tagServe (s : State) (ws : List TagWire) : State :=
  match ws with
  | [] => s
  | w :: rest =>
    if s.tag.cycle.isSome then s
    else
      match s.tagWireRun w with
      | (t, true) => (t.modTag fun x => { x with waits := x.waits.erase w }).tagServe rest
      | (t, false) => t.tagServe rest

/-- An agent's wire command has not completed. -/
def State.tagBusy (s : State) (a : Nat) : Bool :=
  s.tag.waits.any (fun w => w.agent == some a) ||
    s.tag.cycle.any fun c => c.wire.any fun w => w.agent == some a

/-- A write of TAG.CMD (R309). -/
def State.tagCommand (s : State) (a : Nat) (v : Word) : State :=
  let cmd := fld v 0 8
  let w : TagWire := { agent := some a, cmd := cmd, arg := s.arg a pTAG 0x104, data := s.arg a pTAG 0x108 }
  let c := classOf a
  let needs := (3 ≤ cmd && cmd ≤ 8) || cmd == 0xA
  if s.tagBusy a then s.err pTAG 16
  else if !(1 ≤ cmd && cmd ≤ 0xB) then s.tagDone w 1
  else if (needs && !(c == .sys || c == .keyd)) || (cmd = 0xA && c != .sys) then s.tagDone w 4
  else
    let s1 := (s.setArg a pTAG 0x10C (wd (at' cmd 8 + 0x40000000))).modTag fun t =>
      { t with waits := t.waits ++ [w] }
    s1.tagServe s1.tag.waits

/-- The TAG port's own draw after a cold or warm reset, and a wire SEED that waited on the RNG (R303). -/
def State.tagSeedDue (s : State) : State :=
  let s1 := s.tagServe s.tag.waits
  if s1.tag.seedDue && s1.rng.ready && s1.tag.conf.testBit 0 && s1.tag.cycle.isNone then
    match s1.tagWireRun { agent := none, cmd := 7, arg := 0, data := 0 } with
    | (t, true) => t.modTag fun x => { x with seedDue := false }
    | (t, false) => t
  else s1

/-- A block reset of the TAG page (R309): HOLD ends; a command not yet at step 3 completes with ABORTED. -/
def State.tagBlockReset (s : State) : State :=
  (s.tag.waits.foldl (fun (t : State) w => t.tagDone w 7) s).modTag fun t =>
    { t with hold := false, waits := [] }

/-- A cold or warm reset of the main chip (R303, R308). -/
def State.tagReset (s : State) : State :=
  s.modTag fun t => { t with hold := false, waits := [], seedDue := true,
                             cycle := t.cycle.map fun c => { c with wire := c.wire.map fun w => { w with agent := none } } }

/-! ### The RF side (R295, R299–R306) -/

/-- The RF side answers or stays silent; the answers are counted while the main chip is powered. -/
def State.tagSay (s : State) (x : Option (List Byte)) : State :=
  let s1 := s.modTag fun t => { t with answer := x }
  if x.isSome && s.tamp.vin then s1.cnt pTAG 0x134 else s1

def State.tagError (s : State) (code : Nat) : State := s.tagSay (some [0x01, BitVec.ofNat 8 code])

/-- A request reaches the island: supplied, not killed, its CRC good, nothing of the RF side in progress. -/
def State.tagHears (s : State) (q : TagReq) : Bool :=
  s.tag.powered && s.tag.field && !s.tag.killed && q.crc && !(s.tag.cycle.any fun c => c.wire.isNone)

/-- A request is for this island (R295, R304): addressed to the identifier presented, selected, or
non-addressed outside the quiet state. -/
def TagSt.mine (t : TagSt) (q : TagReq) : Bool :=
  if q.flags.getLsbD 5 then !q.flags.getLsbD 4 && q.uid == t.ident
  else if q.flags.getLsbD 4 then t.rf == 2
  else t.rf != 1

/-- A command of the non-inventory kind, answered only if it is heard and meant for the island; two
subcarriers, and the option flag but on writes, are not supported (R295). -/
def State.tagFor (s : State) (q : TagReq) (write : Bool) (f : State → State) : State :=
  if !s.tagHears q || q.flags.getLsbD 2 || !s.tag.mine q then s.tagSay none
  else if q.flags.getLsbD 0 || (q.flags.getLsbD 6 && !write) then s.tagError 0x03
  else f s

/-- An area's password is presented, or none is needed (R299). -/
def TagSt.opened (t : TagSt) (i : Nat) : Bool := i == 0 || t.shown.testBit i

def TagSt.readable (t : TagSt) (b : Nat) : Bool := t.opened (tget (0, 0) t.map (b / 128)).1

def TagSt.writable (t : TagSt) (b : Nat) : Bool := t.opened (tget (0, 0) t.map (b / 128)).2

/-- RF access while the wire side holds the memory, or an RF write during a wire write (R308). -/
def State.tagBusyAnswer (s : State) : State :=
  (if s.tamp.vin then s.cnt pTAG 0x13C else s).tagError 0xA4

/-- The reserve of a write (R306 step 2). -/
def State.tagReserve (s : State) (q : TagReq) : Bool := q.reserve || s.tagWired

def State.tagPowerLow (s : State) : State :=
  (if s.tamp.vin then s.cnt pTAG 0x138 else s).tagError 0xA1

/-- An RF read of blocks (R299): the first refused block decides the whole answer. -/
def State.tagRead (s : State) (q : TagReq) (first n last : Nat) : State :=
  s.tagFor q false fun s =>
    let bs := (List.range n).map (first + ·)
    if s.tag.hold then s.tagBusyAnswer
    else if 32 < n then s.tagError 0x03
    else if bs.any (fun b => last < b) then s.tagError 0x10
    else if bs.any (fun b => !s.tag.readable b) then s.tagError 0xA3
    else s.tagSay (some (0x00 :: bs.flatMap fun b => leBytes 4 (s.tag.blockVal b).toNat))

/-- An RF change (R306, R308). -/
def State.tagWrite (s : State) (q : TagReq) (c : TagChange) : State :=
  if s.tag.hold || s.tag.cycle.isSome then s.tagBusyAnswer
  else if !s.tagReserve q then s.tagPowerLow
  else (s.tagCycle c none).tagSay none

/-- WRITE SINGLE BLOCK and its extended form (R299, R306). -/
def State.tagWriteBlock (s : State) (q : TagReq) (b last : Nat) (v : Word) : State :=
  s.tagFor q true fun s =>
    if last < b then s.tagError 0x10
    else if !s.tag.writable b then s.tagError 0xA3
    else if s.tag.locks.contains b then s.tagError 0x12
    else s.tagWrite q (.block b v)

/-- WRITE AFI and WRITE DSFID. -/
def State.tagWriteSys (s : State) (q : TagReq) (c : TagChange) : State := s.tagFor q true fun s => s.tagWrite q c

/-- A change ends its verify and commits, or is restored (R306). -/
def State.tagCycleDone (s : State) (good : Bool) : State :=
  match s.tag.cycle with
  | none => s
  | some c =>
    let s1 := s.modTag fun t => { (if good then t.apply c.change else t) with cycle := none }
    let s2 := match c.wire with
      | some w => s1.tagDone w (if good then 0 else 6)
      | none =>
        if good then (s1.irq pTAG 2).tagSay (some [0x00]) else s1.tagError 0x13
    s2.tagServe s2.tag.waits

/-- An AFI of a request matches (ISO/IEC 15693-3). -/
def afiMatch (have_ want : Nat) : Bool :=
  want == 0 || want == have_ || (want % 16 == 0 && want / 16 == have_ / 16) ||
    (want / 16 == 0 && want % 16 == have_ % 16)

/-- INVENTORY and TINVENTORY (R287, R294, R295, R301): the identifier's low bits are compared with the
mask, and the next four bits choose the slot of 16. -/
def State.tagInventory (s : State) (q : TagReq) (afi maskLen : Nat) (mask : Nat) (trellis : Bool) : State :=
  let t := s.tag
  let id := leNat t.ident
  if !s.tagHears q || !q.flags.getLsbD 2 || t.rf = 1 then s.tagSay none
  else if q.flags.getLsbD 0 then s.tagSay none
  else if q.flags.getLsbD 4 && !afiMatch (nfld t.conf 8 8) afi then s.tagSay none
  else if 64 < maskLen || id % 2 ^ maskLen ≠ mask % 2 ^ maskLen then s.tagSay none
  else
    let d : Byte := BitVec.ofNat 8 (nfld t.conf 16 8)
    let head : List Byte :=
      if trellis then [0x00, BitVec.ofNat 8 (flagAt t.random 0 + flagAt (t.conf.testBit 1) 1), d] else [0x00, d]
    (s.tagSay (some (head ++ t.ident))).modTag fun x =>
      { x with slot := if q.flags.getLsbD 5 then 0 else id / 2 ^ maskLen % 16 }

/-- STAY QUIET (R304). -/
def State.tagStayQuiet (s : State) (q : TagReq) : State :=
  if s.tagHears q && q.flags.getLsbD 5 && q.uid == s.tag.ident then
    (s.modTag fun t => { t with rf := 1, quietCap := t.quietCap || t.conf.testBit 1 }).tagSay none
  else s.tagSay none

/-- SELECT (R304): another identifier deselects. -/
def State.tagSelect (s : State) (q : TagReq) : State :=
  if !s.tagHears q then s.tagSay none
  else if q.uid == s.tag.ident then
    (s.modTag fun t => { t with rf := 2, quietCap := false }).tagSay (some [0x00])
  else (s.modTag fun t => { t with rf := if t.rf = 2 then 0 else t.rf }).tagSay none

/-- RESET TO READY (R304). -/
def State.tagResetReady (s : State) (q : TagReq) : State :=
  s.tagFor q false fun s => (s.modTag fun t => { t with rf := 0, quietCap := false }).tagSay (some [0x00])

/-- GET SYSTEM INFORMATION and its extended form (notes/assumptions/35.md). -/
def State.tagSysInfo (s : State) (q : TagReq) (extended : Bool) : State :=
  s.tagFor q false fun s =>
    let t := s.tag
    s.tagSay (some ([0x00, 0x07] ++ t.ident ++ [BitVec.ofNat 8 (nfld t.conf 16 8), BitVec.ofNat 8 (nfld t.conf 8 8)] ++
      (if extended then leBytes 2 2047 ++ [3] else [0xFF, 3])))

/-- GET MULTIPLE BLOCK SECURITY STATUS (R299). -/
def State.tagSecurity (s : State) (q : TagReq) (first n : Nat) : State :=
  s.tagFor q false fun s =>
    let bs := (List.range n).map (first + ·)
    if s.tag.hold then s.tagBusyAnswer
    else if bs.any (fun b => 255 < b) then s.tagError 0x10
    else if bs.any (fun b => !s.tag.readable b) then s.tagError 0xA3
    else s.tagSay (some (0x00 :: bs.map fun b => if s.tag.locks.contains b then 0x01 else 0x00))

/-! ### Trellis commands (R300–R302) -/

/-- A random identifier derived for a counter (R302). -/
def tagDerive (seed : List Byte) (count : Nat) : List Byte :=
  let x := Config.tagCipher seed count % 2 ^ 46
  let b := leBytes 6 x
  b.take 5 ++ [byteAt b 5 ||| 0xC0] ++ [Config.tagOtp 6, 0xE0]

/-- The power-up counter is incremented and the identifier derived anew. -/
def TagSt.rerand (t : TagSt) : TagSt :=
  match t.seed with
  | some k =>
    if t.conf.testBit 0 then
      (let n := min 0xFFFFFFFF (t.count + 1)
       { t with count := n, rid := some (tagDerive k n) })
    else t
  | none => t

/-- TRERAND: ignored when not in random mode. -/
def State.tagRerand (s : State) (q : TagReq) : State :=
  if s.tagHears q && q.flags.getLsbD 5 && q.uid == s.tag.ident && s.tag.random then
    (s.modTag fun t => t.rerand).tagSay none
  else s.tagSay none

/-- TCHALLENGE: the next nonce replaces an unused one. -/
def State.tagChallenge (s : State) (q : TagReq) : State :=
  s.tagFor q false fun s =>
    let n := Config.tagNonce (s.tag.seed.getD []) s.tag.count s.tag.nonces
    (s.modTag fun t => { t with nonce := some n, nonces := t.nonces + 1 }).tagSay
      (some (0x00 :: leBytes 4 n.toNat))

/-- A password presentation (R300): the state after, and the error code, 0 on a match. -/
def State.tagPresent (s : State) (q : TagReq) (i : Nat) (v : Word) : State × Nat :=
  let t := s.tag
  if t.pwlock.testBit i then (s, 0xA2)
  else
    match t.nonce with
    | none => (s, 0x0F)
    | some n =>
      if !s.tagReserve q then ((if s.tamp.vin then s.cnt pTAG 0x138 else s), 0xA1)
      else
        let c := t.cnts.getD i 0 + 1
        let pw := t.pws.getD i 0
        if pw ≠ 0 && v == pw ^^^ n then
          (s.modTag fun x => { x with cnts := x.cnts.set i 0, shown := x.shown ||| 2 ^ i, nonce := none }, 0)
        else
          let full := t.lims.getD i 0 ≤ c
          let s1 := s.modTag fun x =>
            { x with cnts := x.cnts.set i c, shown := 0, nonce := none,
                     pwlock := if full then x.pwlock ||| 2 ^ i else x.pwlock }
          (if full then s1.irq pTAG 3 else s1, 0xA3)

/-- TPASSWORD. -/
def State.tagPassword (s : State) (q : TagReq) (i : Nat) (v : Word) : State :=
  s.tagFor q false fun s =>
    if i = 0 || 7 < i then s.tagError 0x0F
    else
      match s.tagPresent q i v with
      | (t, 0) => t.tagSay (some [0x00])
      | (t, c) => t.tagError c

/-- TGETPWSTAT. -/
def State.tagPwStat (s : State) (q : TagReq) : State :=
  s.tagFor q false fun s =>
    s.tagSay (some [0x00, BitVec.ofNat 8 (s.tag.shown &&& 0xFE), BitVec.ofNat 8 (s.tag.pwlock &&& 0xFE)])

/-- TLOCKBLOCK. -/
def State.tagLockBlock (s : State) (q : TagReq) (b : Nat) : State :=
  s.tagFor q false fun s =>
    if 2047 < b then s.tagError 0x10
    else if !s.tag.writable b then s.tagError 0xA3
    else if s.tag.locks.contains b then s.tagError 0x11
    else s.tagWrite q (.lock b)

/-- TKILL (R301, R305): a presentation of PW7, answered before the fuse is blown. -/
def State.tagRfKill (s : State) (q : TagReq) (v : Word) : State :=
  s.tagFor q false fun s =>
    match s.tagPresent q 7 v with
    | (t, 0) => (t.tagSay (some [0x00])).modTag fun x => { x with killed := true }
    | (t, c) => t.tagError c

/-- TREADUID. -/
def State.tagReadUid (s : State) (q : TagReq) : State :=
  s.tagFor q false fun s =>
    if s.tag.opened 1 then s.tagSay (some (0x00 :: tagFixed)) else s.tagError 0xA3

/-! ### Supply (R296, R302, R304, R307) -/

/-- The island powers up: the shadow record is inspected, then the identifier derived (R307, R302). -/
def State.tagPowerUp (s : State) (field reserve : Bool) : State :=
  let t := s.tag
  if t.powered then s
  else if t.shadow ≠ .empty && !(reserve || s.tagWired) then s
  else
    let recov (n b : Nat) (x : State) : State := x.setRg pTAG 0x130 (wd (n + at' b 16 + 0x80000000))
    let s1 := match t.shadow with
      | .empty => s
      | .copied c old =>
        recov 1 c.blockNo (s.modTag fun x =>
          (match c with
           | .block b _ => { x with blocks := tset x.blocks b old }
           | _ => x))
      | .committed c => recov 2 c.blockNo s
    let s2 := s1.modTag fun x =>
      { x.rerand with powered := true, field := field, shadow := .empty, shown := 0, nonce := none,
                      nonces := 0, rf := if x.quietCap then 1 else 0 }
    if field && s.tamp.vin then s2.irq pTAG 1 else s2

/-- The island loses supply (R300, R307): `step` is the step of R306 a change under way was in, 3 to 5. A
block left in step 4 holds a free value until its recovery. -/
def State.tagLoss (s : State) (step : Nat) : State :=
  if s.tagWired then s.modTag fun t => { t with field := false }
  else
    let off (t : TagSt) : TagSt :=
      { t with powered := false, field := false, shown := 0, nonce := none, cycle := none, waits := [],
               answer := none }
    match s.tag.cycle with
    | none => s.modTag off
    | some c =>
      if step ≤ 3 then s.modTag off
      else if step = 4 then
        (match c.change with
         | .block b _ =>
           (s.modTag fun t =>
             off { t with shadow := .copied c.change (t.blockVal b),
                          blocks := tset t.blocks b (Config.freeWord s.free) }).draw
         | _ => s.modTag fun t => off { t with shadow := .copied c.change 0 })
      else s.modTag fun t => off { t.apply c.change with shadow := .committed c.change }

/-- A reader field appears at or leaves a supplied island (R296). -/
def State.tagField (s : State) (present : Bool) : State :=
  if !s.tag.powered then s
  else
    let s1 := s.modTag fun t => { t with field := present }
    if present && !s.tag.field && s.tamp.vin then s1.irq pTAG 1 else s1

/-- The quiet capacitor is empty (R304): it holds only through a gap in the supply, so a supplied island keeps
its state (notes/assumptions/42.md). -/
def State.tagQuietEnd (s : State) : State :=
  if s.tag.powered then s else s.modTag fun t => { t with quietCap := false }

/-- The external I²C port serves (R310). -/
def State.tagI2cOn (s : State) : Bool := !s.tagWired && s.tag.conf.testBit 2

/-- Blocks written over I²C, locked ones skipped, at most 32 (R310). -/
def State.tagI2cWrite (s : State) (b : Nat) (ws : List Word) : State :=
  if !s.tagI2cOn then s
  else
    (ws.take 32).zipIdx.foldl (fun (t : State) e =>
      let k := b + e.2
      if 2047 < k || t.tag.locks.contains k then t
      else t.modTag fun x => x.apply (.block k e.1)) s

/-- Blocks read over I²C. -/
def State.tagI2cRead (s : State) (b n : Nat) : State :=
  if !s.tagI2cOn then s
  else
    let ks := ((List.range (min n 32)).map (b + ·)).filter (· < 2048)
    s.modTag fun t => { t with i2c := ks.flatMap fun k => leBytes 4 (t.blockVal k).toNat }

end Sys2Proof.Machine
end

