-- ==== Sys2Proof/Machine/JrnlCtl.lean ====
section
/-!
DEFINITION. The transaction journal (R324–R327, R331, R332): sectors, records, the scan and the two
commands of its page.
-/
namespace Sys2Proof.Machine

def State.modJrnl (s : State) (f : JrnlSt → JrnlSt) : State := { s with jrnl := f s.jrnl }

/-- One step of CRC-32 (ISO-HDLC), bit by bit. -/
def crcBits (n c : Nat) : Nat :=
  match n with
  | 0 => c
  | k + 1 => crcBits k (if c % 2 = 1 then (c / 2) ^^^ 0xEDB88320 else c / 2)

/-- CRC-32 (ISO-HDLC) of a byte string. -/
def crc32 (bs : List Byte) : Nat :=
  (bs.foldl (fun c b => crcBits 8 (c ^^^ b.toNat)) 0xFFFFFFFF) ^^^ 0xFFFFFFFF

/-- Whole code words programmed through a private port (R147, R324, R140): it waits while the bank is under a
program or an erase pulse. -/
def State.flashPut (s : State) (addr : Nat) (bs : List Byte) : State :=
  if s.flashWaits addr then s.hold addr
  else
  ((List.range (bs.length / 16)).foldl (fun (t : State) i =>
    t.setWs ((addr - 0x10000000) / 16 + i) 0) s).poke addr bs

/-- A sector erased through a private port (R147, R324), which waits likewise. -/
def State.flashWipe (s : State) (sec : Nat) : State :=
  if s.flashWaits (sectorBase sec) then s.hold (sectorBase sec) else s.eraseWhole sec

/-- The sector after one in ring order, 496 to 511 (R325). -/
def nextSector (cur : Option Nat) : Nat :=
  match cur with
  | some c => if c = 511 then 496 else c + 1
  | none => 496

/-- A sector holds an open record. -/
def JrnlSt.holdsOpen (j : JrnlSt) (sec : Nat) : Bool :=
  j.opens.any fun e => (e.2 - 0x10000000) / 0x4000 == sec

/-- A sector holds nothing: never begun, or erased whole with no word programmed. -/
def State.sectorEmpty (s : State) (sec : Nat) : Bool :=
  (s.flash.sectState sec == 3 || s.flash.sectState sec == 0) &&
    !(s.flash.ws.any fun e => e.1 / 1024 == sec && e.2 != 3)

/-- The next sector in ring order is taken: erased if it holds anything, its header programmed; none while
it holds an open record (R325). -/
def State.jrnlTake (s : State) : Option State :=
  let sec := nextSector s.jrnl.cur
  if s.jrnl.holdsOpen sec then none
  else
    let s1 := if s.sectorEmpty sec then s else s.flashWipe sec
    let q := s1.jrnl.sectSeq
    let s2 := s1.flashPut (sectorBase sec)
      ([0x4A, 0x53, 0x01, 0x00] ++ leBytes 8 q ++ List.replicate 4 0)
    some (s2.modJrnl fun j => { j with cur := some sec, pos := 16, sectSeq := q + 1 })

/-- Room for a record, its sector current (R325). -/
def State.jrnlRoom (s : State) (len : Nat) : Option State :=
  if s.jrnl.cur.isSome && s.jrnl.pos + len ≤ 0x4000 then some s else s.jrnlTake

/-- Words 0–2 of a record (R326). -/
def recordHead (kind slot count seq : Nat) (w1 w2 : List Byte) (now : Nat) : List Byte :=
  [0x4A, 0x52, 0x01, BitVec.ofNat 8 kind, BitVec.ofNat 8 slot, BitVec.ofNat 8 count, 0, 0] ++
    leBytes 8 seq ++ fitTo 16 w1 ++ fitTo 8 w2 ++ leBytes 8 now

/-- The OPEN word (R326). -/
def openWord : List Byte := fitTo 16 [0x4F, 0x50, 0x45, 0x4E]

/-- A record's words programmed and OPEN last (R327 step 4). -/
def State.jrnlPut (s : State) (slot : Nat) (head pre : List Byte) : State :=
  match s.jrnl.cur with
  | none => s
  | some sec =>
    let a := sectorBase sec + s.jrnl.pos
    let s1 := ((s.flashPut a head).flashPut (a + 80) pre).flashPut (a + 48) openWord
    s1.modJrnl fun j =>
      { j with pos := j.pos + 80 + pre.length, seq := j.seq + 1, opens := tset j.opens slot a }

/-- A record is opened (R325–R327). `vfail` names the word of the record whose program failed its verify:
the words before it stay programmed, the rest of the sector closes, and the record is written again from
the next sector. None when no sector can be taken. -/
def State.jrnlOpen (s : State) (kind slot count : Nat) (w1 w2 pre : List Byte) (vfail : Option Nat) :
    Option State :=
  let len := 80 + pre.length
  let head := recordHead kind slot count s.jrnl.seq w1 w2 s.now
  match s.jrnlRoom len with
  | none => none
  | some t =>
    match vfail, t.jrnl.cur with
    | some k, some sec =>
      let a := sectorBase sec + t.jrnl.pos
      let words := head ++ pre
      let n := min k (words.length / 16 - 1)
      let place (i : Nat) : Nat := if i < 3 then a + 16 * i else a + 80 + 16 * (i - 3)
      let t1 := (List.range n).foldl (fun (t : State) i =>
        t.flashPut (place i) ((words.drop (16 * i)).take 16)) t
      let t2 := t1.setWs ((place n - 0x10000000) / 16) 1
      ((t2.modJrnl fun j => { j with pos := 0x4000 }).jrnlTake).map fun t => t.jrnlPut slot head pre
    | _, _ => some (t.jrnlPut slot head pre)

/-- CLOSE programmed with an outcome (R326): 1 DONE, 2 RESTORED, 3 DISCARDED, 4 ACKED, 5 NOT_SENT. -/
def State.jrnlClose (s : State) (slot outcome : Nat) : State :=
  match tfind s.jrnl.opens slot with
  | none => s
  | some a =>
    let w := BitVec.ofNat 8 outcome :: List.replicate 7 0 ++ leBytes 8 s.now
    (s.flashPut (a + 64) w).modJrnl fun j => { j with opens := tdel j.opens slot }

/-! ### The scan (R331) -/

/-- A header word of a record reads unreliable or is PARTIAL. -/
def State.headBad (s : State) (a : Nat) : Bool :=
  (List.range 3).any fun i => s.wsAt (a + 16 * i) == 1 || s.wsAt (a + 16 * i) == 2

/-- A sector walked record by record from an offset: the open records found, the highest SEQ + 1, the end,
and whether its rest was closed. -/
def State.jrnlWalk (s : State) (sec off : Nat) (opens : Tbl Nat) (seq fuel : Nat) :
    Tbl Nat × Nat × Nat × Bool :=
  match fuel with
  | 0 => (opens, seq, off, false)
  | k + 1 =>
    let a := sectorBase sec + off
    if 0x4000 < off + 80 then (opens, seq, off, false)
    else if s.wsAt a = 3 then (opens, seq, off, false)
    else
      let h := s.flashBytes a 16
      let kind := leAt h 3 1
      if s.headBad a || h.take 3 != [0x4A, 0x52, 0x01] || !(kind == 1 || kind == 2) then
        (opens, seq, 0x4000, true)
      else
        let len := 80 + (if kind = 1 then 512 * leAt h 5 1 else 0)
        let isOpen := s.wsAt (a + 48) == 0 && s.wsAt (a + 64) != 0
        let opens1 := if isOpen then tset opens (leAt h 4 1) a else opens
        s.jrnlWalk sec (off + len) opens1 (max seq (leAt h 8 8 + 1)) k

/-- Sectors with a valid header, in sector-sequence order. -/
def State.jrnlSectors (s : State) : List (Nat × Nat) :=
  ((List.range 16).filterMap fun i => (s.sectorHeader (496 + i)).map fun q => (q, 496 + i)).foldl
    (fun (t : Tbl Nat) e => tins t e.1 e.2) []

/-- The scan: it follows FLASH.STATUS.READY (R331). -/
def State.jrnlScan (s : State) : State :=
  if !s.flash.scanned || s.jrnl.ready then s
  else
    let step (x : State × JrnlSt) (e : Nat × Nat) : State × JrnlSt :=
      let (opens, seq, pos, bad) := x.1.jrnlWalk e.2 16 x.2.opens x.2.seq 210
      ((if bad then (x.1.cnt pJRNL 0x150).err pJRNL 17 else x.1),
        { x.2 with opens := opens, seq := seq, cur := some e.2, pos := pos, sectSeq := e.1 + 1 })
    let r := s.jrnlSectors.foldl step (s, {})
    r.1.modJrnl fun _ => { r.2 with ready := true }

/-- A block, warm or cold reset (R331, R333). -/
def State.jrnlReset (s : State) : State := s.modJrnl fun _ => {}

/-! ### Commands (R332) -/

/-- JRNL.RESULT and the interrupt of a command. -/
def State.jrnlResult (s : State) (code : Nat) : State :=
  (s.setRg pJRNL 0x13C (wd (code + 0x80000000))).irq pJRNL 0

/-- ACK. -/
def State.jrnlAck (s : State) (slot : Nat) : State :=
  if (tfind s.jrnl.opens slot).isNone then s.jrnlResult 1
  else if slot = 4 then s.jrnlResult 3
  else (s.jrnlClose slot 4).jrnlResult 0

/-- DISCARD: from MCORE alone; a slot that awaited the restore serves its card again. -/
def State.jrnlDiscard (s : State) (a slot : Nat) : State :=
  if a ≠ aMCORE then s.jrnlResult 2
  else if (tfind s.jrnl.opens slot).isNone then s.jrnlResult 1
  else
    let s1 := s.jrnlClose slot 3
    let s2 := if slot = 4 && s1.sdc.st = 5 then
        { s1 with sdc := { s1.sdc with st := if s1.sdc.present then 4 else 0 } }
      else s1
    s2.jrnlResult 0

/-- A write of JRNL.CMD. -/
def State.jrnlCommand (s : State) (a : Nat) (v : Word) : State :=
  if fld v 0 4 = 1 then s.jrnlAck (fld v 8 3)
  else if fld v 0 4 = 2 then s.jrnlDiscard a (fld v 8 3)
  else s

end Sys2Proof.Machine
end

