-- ==== Sys2Proof/Machine/CardCtl.lean ====
section
/-!
DEFINITION. The contact slots (R312–R318, R330, R333) and the SD slot (R319–R323, R327–R329). What a card
answers is an operand of the commands; ATR bytes follow ISO/IEC 7816-3 (notes/assumptions/36.md).
-/
namespace Sys2Proof.Machine

def State.setCard (s : State) (n : Nat) (c : CardSt) : State := { s with cards := tset s.cards n c }

def State.modCard (s : State) (n : Nat) (f : CardSt → CardSt) : State := s.setCard n (f (s.card n))

def State.modCardRun (s : State) (n : Nat) (f : CardRun → CardRun) : State :=
  s.modCard n fun c => { c with run := c.run.map f }

/-! ### ATR -/

/-- What an ATR says (R312–R314). -/
structure AtrInfo where
  ta1 : Nat := 0x11
  ta2 : Option Nat := Option.none
  proto : Option Nat := Option.none
  ifsc : Option Nat := Option.none
  t15 : Option Nat := Option.none
  needTck : Bool := false
  hist : Nat := 0
  rest : List Byte := []
  deriving DecidableEq, Repr

/-- The next interface byte, if its presence bit is set; none when the bytes end. -/
def takeIf (y b : Nat) (bs : List Byte) : Option (Option Nat × List Byte) :=
  if y.testBit b then
    match bs with
    | x :: r => some (some x.toNat, r)
    | [] => none
  else some (none, bs)

/-- The interface bytes of group `i` and up: presence nibble `y`, protocol `t` of the group. -/
def atrGroups (i y t : Nat) (bs : List Byte) (a : AtrInfo) (fuel : Nat) : Option AtrInfo :=
  match fuel with
  | 0 => none
  | k + 1 =>
    match takeIf y 0 bs with
    | none => none
    | some (ta, r1) =>
      match takeIf y 1 r1 with
      | none => none
      | some (_, r2) =>
        match takeIf y 2 r2 with
        | none => none
        | some (_, r3) =>
          match takeIf y 3 r3 with
          | none => none
          | some (td, r4) =>
            let a1 : AtrInfo :=
              match ta with
              | none => a
              | some v =>
                if i = 1 then { a with ta1 := v }
                else if i = 2 then { a with ta2 := some v }
                else if t = 1 && a.ifsc.isNone then { a with ifsc := some v }
                else if t = 15 && a.t15.isNone then { a with t15 := some v }
                else a
            match td with
            | none => some { a1 with rest := r4 }
            | some d =>
              let p := d % 16
              let a2 := { a1 with proto := some (a1.proto.getD p), needTck := a1.needTck || p != 0 }
              atrGroups (i + 1) (d / 16) p r4 a2 k

/-- A valid ATR: TS of either convention, at most 33 bytes, the historical bytes whole, and TCK right when
it is present. -/
def parseAtr (bs : List Byte) : Option AtrInfo :=
  match bs with
  | ts :: t0 :: r =>
    if !(ts == 0x3B || ts == 0x3F) || 33 < bs.length then none
    else
      match atrGroups 1 (t0.toNat / 16) 0 r { hist := t0.toNat % 16 } 9 with
      | none => none
      | some a =>
        if a.rest.length ≠ a.hist + b01 a.needTck then none
        else if a.needTck && (bs.drop 1).foldl (· ^^^ ·) 0 != 0 then none
        else some a
  | _ => none

/-- fmax of FI in units of 0.5 MHz, 0 for a reserved value. -/
def atrFmax (fi : Nat) : Nat := [8, 10, 12, 16, 24, 32, 40, 0, 0, 10, 15, 20, 30, 40].getD fi 0

/-- Fi and Di within R312. -/
def ta1Ok (v : Nat) : Bool :=
  atrFmax (v / 16) != 0 && [1, 2, 3, 4, 5, 6, 8, 9].contains (v % 16)

/-- The divider of R314: the smallest of 12 or above with 240 MHz / divider at most fmax. -/
def effDiv (fi : Nat) : Nat := max 12 ((480 + atrFmax fi - 1) / max 1 (atrFmax fi))

/-! ### Completion -/

/-- RXBUF and RXLEN take an answer (R316). -/
def State.cardAnswer (s : State) (n : Nat) (bs : List Byte) : State :=
  let pg := pCARD n
  let kept := bs.take 1024
  let s1 := { s with regs := tdrop s.regs fun k _ => rkey pg 0x800 ≤ k && k ≤ rkey pg 0xBFC }
  ((List.range ((kept.length + 3) / 4)).foldl (fun (t : State) i =>
    t.setRg pg (0x800 + 4 * i) (wordOf (fitTo 4 (kept.drop (4 * i))))) s1).setRg pg 0x114 (wd kept.length)

/-- A command completes. -/
def State.cardFinish (s : State) (n code : Nat) : State :=
  match (s.card n).run with
  | none => s
  | some u =>
    let s1 := s.setRg (pCARD n) 0x118
      (wd (code + at' u.cmd 8 + flagAt (u.left == 2) 16 + 0x80000000))
    (s1.modCard n fun c => { c with run := none }).irq (pCARD n) 0

/-- A command completes that is outside R312. -/
def State.cardUnsup (s : State) (n : Nat) : State := (s.err (pCARD n) 17).cardFinish n 2

/-- The card is deactivated (R315, R316). -/
def State.cardOff (s : State) (n : Nat) : State := s.modCard n fun c => { c with st := 1, cls := 0 }

/-- The record of an exchange that ends without a complete answer (R330). -/
def State.cardRecord (s : State) (n : Nat) (u : CardRun) : State :=
  if !u.opened then s
  else if u.left = 0 then s.jrnlClose n 5
  else s.irq pJRNL 1

/-- Removal, a timeout, LOST_CARD or ABORT ends the running command (R317, R330). -/
def State.cardEnd (s : State) (n code : Nat) : State :=
  match (s.card n).run with
  | none => s
  | some u =>
    let c := if u.left = 0 then code else if code = 13 && !u.jrn then 13 else 10
    (s.cardRecord n u).cardFinish n c

/-! ### ACTIVATE and WARM (R313, R314) -/

/-- Another slot holds class A. -/
def State.classAHeld (s : State) (n : Nat) : Bool := s.cards.any fun e => e.1 != n && e.2.cls == 1

/-- The card is powered at a class. -/
def State.cardPower (s : State) (n cls : Nat) : State :=
  if cls = 1 && (s.classAHeld n || !s.bstUp) then (s.cardOff n).cardFinish n 12
  else (s.modCard n fun c => { c with st := 2, cls := cls }).modCardRun n fun u => { u with cls := cls }

/-- No valid ATR, or a class the ATR excludes: the next higher class, or the end (R313). -/
def State.cardNextClass (s : State) (n : Nat) : State :=
  match (s.card n).run with
  | none => s
  | some u =>
    if u.cmd = 1 && s.rbit (pCARD n) 0x100 2 && 1 < u.cls then s.cardPower n (u.cls - 1)
    else (s.cardOff n).cardFinish n 3

/-- No valid ATR within 40,000 clocks. -/
def State.cardAtrTimeout (s : State) (n : Nat) : State :=
  match (s.card n).run with
  | some u => if u.cmd = 1 || u.cmd = 3 then s.cardNextClass n else s
  | none => s

/-- The slot becomes ACTIVE with its parameters (R314). -/
def State.cardActive (s : State) (n : Nat) (a : AtrInfo) (bs : List Byte) (ta1 eff proto : Nat) : State :=
  let x := (a.t15.getD 0) / 64
  let params := wd (eff / 16 + at' (eff % 16) 4 + flagAt (proto == 1) 8 + at' (s.card n).cls 9 + at' x 11 +
    at' (if proto = 1 then a.ifsc.getD 32 else 0) 16 + at' (effDiv (ta1 / 16)) 24)
  let s1 := (s.setRg (pCARD n) 0x11C params).setRg (pCARD n) 0x120 (wd bs.length)
  ((s1.modCard n fun c => { c with st := 3, atr := bs.take 16 }).cardAnswer n bs).cardFinish n 0

/-- The class indicator of an ATR excludes a class (1 A, 2 B, 3 C). -/
def AtrInfo.excludes (a : AtrInfo) (cls : Nat) : Bool :=
  match a.t15 with
  | some v => !v.testBit (cls - 1)
  | none => false

/-- The card answers to reset. -/
def State.cardAtr (s : State) (n : Nat) (x : CardAtr) : State :=
  match (s.card n).run with
  | none => s
  | some u =>
    if !(u.cmd = 1 || u.cmd = 3) then s
    else
      match parseAtr x.bytes with
      | none => s.cardNextClass n
      | some a =>
        if u.cmd = 1 && s.rbit (pCARD n) 0x100 2 && a.excludes u.cls then s.cardNextClass n
        else
          match a.ta2 with
          | some t2 =>
            if ta1Ok a.ta1 && t2 % 16 ≤ 1 then s.cardActive n a x.bytes a.ta1 a.ta1 (t2 % 16)
            else (s.cardOff n).cardUnsup n
          | none =>
            let proto := a.proto.getD 0
            if 1 < proto then (s.cardOff n).cardUnsup n
            else if s.rbit (pCARD n) 0x100 4 && a.ta1 ≠ 0x11 then
              (if !ta1Ok a.ta1 then (s.cardOff n).cardUnsup n
               else
                 let req : List Byte := [0xFF, BitVec.ofNat 8 (0x10 + proto), BitVec.ofNat 8 a.ta1]
                 let pps := req ++ [req.foldl (· ^^^ ·) 0]
                 if x.pps = some pps then s.cardActive n a x.bytes a.ta1 a.ta1 proto
                 else (s.cardOff n).cardFinish n 4)
            else s.cardActive n a x.bytes a.ta1 0x11 proto

/-- A command starts. -/
def State.cardStart (s : State) (n : Nat) (u : CardRun) : State :=
  s.modCard n fun c => { c with run := some u }

/-- ACTIVATE (R313). -/
def State.cardActivate (s : State) (n : Nat) : State :=
  let s1 := s.cardStart n { cmd := 1 }
  let cls := fld (s.rg (pCARD n) 0x100) 0 2
  let div := fld (s.rg (pCARD n) 0x104) 0 8
  if (s.card n).st ≠ 1 then s1.cardFinish n 17
  else if div < 12 || 240 < div then s1.cardUnsup n
  else s1.cardPower n (if cls = 0 then 3 else cls)

/-- WARM. -/
def State.cardWarm (s : State) (n : Nat) : State :=
  let s1 := s.cardStart n { cmd := 3, cls := (s.card n).cls }
  if (s.card n).st = 3 || (s.card n).st = 4 then s1.modCard n fun c => { c with st := 2 }
  else s1.cardFinish n 17

/-! ### APDU (R317, R318, R330) -/

/-- A C-APDU's case is extended: Lc or Le of more than one byte. -/
def apduExtended (bs : List Byte) : Bool := 7 ≤ bs.length && byteAt bs 4 == 0

/-- Lc of a C-APDU, and whether Le is present. -/
def apduLc (bs : List Byte) : Nat × Bool :=
  let n := bs.length
  let b4 := (byteAt bs 4).toNat
  let lc := (byteAt bs 5).toNat * 256 + (byteAt bs 6).toNat
  if n ≤ 4 then (0, false)
  else if n = 5 then (0, true)
  else if b4 ≠ 0 then (b4, n == 6 + b4)
  else if n = 7 then (0, true)
  else (lc, n == 9 + lc)

/-- TXBUF under TXLEN. -/
def State.cardTx (s : State) (n : Nat) : List Byte :=
  let len := fld (s.rg (pCARD n) 0x110) 0 11
  ((List.range ((len + 3) / 4)).flatMap fun i => leBytes 4 (s.rg (pCARD n) (0x400 + 4 * i)).toNat).take len

/-- The protocol in force is T=1. -/
def State.cardT1 (s : State) (n : Nat) : Bool := s.rbit (pCARD n) 0x11C 8

/-- APDU (R316, R317). -/
def State.cardApdu (s : State) (n : Nat) : State :=
  let pg := pCARD n
  let jrn := s.rbit pg 0x10C 0
  let s1 := s.cardStart n { cmd := 2, cls := (s.card n).cls, jrn := jrn }
  let len := fld (s.rg pg 0x110) 0 11
  let tx := s.cardTx n
  if !((s.card n).st = 3 || (s.card n).st = 4) then s1.cardFinish n 17
  else if len < 4 || 1024 < len then s1.cardFinish n 5
  else if !apduOk tx then s1.cardFinish n 6
  else if apduExtended tx && !s.cardT1 n then s1.cardUnsup n
  else if jrn && (tfind s.jrnl.opens n).isSome then s1.cardFinish n 16
  else s1.modCard n fun c => { c with st := 3 }

/-- The contact record of a journalled APDU is opened before its first byte leaves (R330). None while the
journal is not ready. -/
def State.cardOpen (s : State) (n : Nat) (u : CardRun) (vfail : Option Nat) : Option State :=
  if !u.jrn || u.opened then some s
  else if !s.jrnl.ready || s.tamp.halted then none
  else
    let tx := s.cardTx n
    let lc := apduLc tx
    match s.jrnlOpen 2 n 0 (s.card n).atr (tx.take 4 ++ leBytes 3 lc.1 ++ [if lc.2 then 1 else 0]) [] vfail with
    | some t => some (t.modCardRun n fun u => { u with opened := true })
    | none => some ((s.irq pJRNL 3).cardFinish n 15)

/-- The answers of T=0 under T0AUTO (R317): 61xx is followed by GET RESPONSE and 6Cxx by one re-send; the
data of the answers in order, then the last status. None while a further answer is awaited. -/
def t0Answer (auto resent : Bool) (parts : List (List Byte)) : Option (List Byte) :=
  match parts with
  | [] => none
  | p :: r =>
    let sw1 := byteAt p (p.length - 2)
    if auto && (sw1 == 0x61 || (sw1 == 0x6C && !resent)) then
      (t0Answer auto (resent || sw1 == 0x6C) r).map fun x => p.take (p.length - 2) ++ x
    else some p

/-- Errors counted, saturating. -/
def State.cardErrs (s : State) (n k : Nat) : State :=
  s.modRg (pCARD n) 0x128 fun v => wd (min 0xFFFFFFFF (v.toNat + k))

/-- What the I/O line carried while an APDU runs. -/
def State.cardLine (s : State) (n : Nat) (x : CardLine) (vfail : Option Nat) : State :=
  match (s.card n).run with
  | none => s
  | some u =>
    if u.cmd ≠ 2 || x = .silent then s
    else
      match s.cardOpen n u vfail with
      | none => s
      | some t =>
        if (t.card n).run.isNone then t
        else
          match x with
          | .silent => t
          | .left all => t.modCardRun n fun u => { u with left := if all then 2 else max 1 u.left }
          | .answer parts errs =>
            let t1 := (t.cardErrs n errs).modCardRun n fun u => { u with left := 2 }
            let auto := s.rbit (pCARD n) 0x100 5 && !s.cardT1 n
            (match t0Answer auto false parts with
             | none => t1
             | some bs =>
               let t2 := if u.jrn then t1.jrnlClose n 1 else t1
               (t2.cardAnswer n bs).cardFinish n (if 1024 < bs.length then 14 else 0))
          | .lost errs => ((t.cardErrs n errs).cardOff n).cardEnd n 9
          | .parity errs =>
            (match (t.card n).run with
             | some w => ((t.cardErrs n errs).cardRecord n w).cardFinish n 8
             | none => t)

/-- CLK stops after an exchange (R318). -/
def State.cardClockStop (s : State) (n : Nat) : State :=
  let c := s.card n
  if c.st = 3 && c.run.isNone && s.rbit (pCARD n) 0x100 6 && fld (s.rg (pCARD n) 0x11C) 11 2 != 0 then
    s.modCard n fun c => { c with st := 4 }
  else s

/-! ### Events -/

/-- A waiting time expires. -/
def State.cardTimeout (s : State) (n : Nat) : State :=
  match (s.card n).run with
  | none => s
  | some u =>
    let s1 := s.cnt (pCARD n) 0x124
    if u.cmd = 2 then s1.cardEnd n 7 else (s1.cardOff n).cardEnd n 7

/-- ABORT (R316, R317). -/
def State.cardAbort (s : State) (n : Nat) : State :=
  match (s.card n).run with
  | none => s
  | some u => if u.cmd = 2 then s.cardEnd n 13 else (s.cardOff n).cardEnd n 13

/-- Insertion and removal recognised (R315). -/
def State.cardInsert (s : State) (n : Nat) : State :=
  if s.pdOn 49 && (s.card n).st = 0 then (s.modCard n fun c => { c with st := 1 }).irq (pCARD n) 1 else s

def State.cardRemove (s : State) (n : Nat) : State :=
  if !s.pdOn 49 || (s.card n).st = 0 then s
  else ((s.cardEnd n 1).modCard n fun c => { c with st := 0, cls := 0 }).irq (pCARD n) 2

/-- Supply current above the class's limit (R313). -/
def State.cardOvercurrent (s : State) (n : Nat) : State :=
  if (s.card n).cls = 0 then s
  else
    let s1 := (s.cardOff n).err (pCARD n) 18
    match (s.card n).run with
    | some u => (s1.cardRecord n u).cardFinish n 11
    | none => s1

/-- A write of CARDn.CMD (R316). -/
def State.cardCommand (s : State) (n : Nat) (v : Word) : State :=
  let cmd := fld v 0 4
  if cmd = 15 then s.cardAbort n
  else if (s.card n).run.isSome then s.err (pCARD n) 16
  else
    match cmd with
    | 1 => s.cardActivate n
    | 2 => s.cardApdu n
    | 3 => s.cardWarm n
    | 4 =>
      let s1 := s.cardStart n { cmd := 4 }
      if (s.card n).st = 0 then s1.cardFinish n 17 else (s1.cardOff n).cardFinish n 0
    | c => (s.cardStart n { cmd := c }).cardUnsup n

/-- A contact-slot page's own writes: CMD, ARG, TXLEN and TXBUF (R316). -/
def State.cardWrite (s : State) (n off : Nat) (v : Word) : State :=
  if off = 0x108 then s.cardCommand n v
  else if (s.card n).run.isSome then s.err (pCARD n) 16
  else s.setRg (pCARD n) off (if off = 0x10C then v &&& 1 else if off = 0x110 then v &&& 0x7FF else v)

/-- A block, warm or cold reset of a contact slot (R333). -/
def State.cardReset (s : State) (n : Nat) : State :=
  let s1 := match (s.card n).run with
    | some u => s.cardRecord n u
    | none => s
  { s1 with cards := tdel s1.cards n }

/-- PD49 may be switched off (R311). -/
def State.cardsIdle (s : State) : Bool := !(s.cards.any fun e => e.2.st == 3 || e.2.st == 4)

/-! ### SD slot -/

def State.modSd (s : State) (f : SdSt → SdSt) : State := { s with sdc := f s.sdc }

def State.modSdRun (s : State) (f : SdRun → SdRun) : State :=
  s.modSd fun c => { c with run := c.run.map f }

/-- RESULT of a command; one the slot started itself leaves RESULT as it stands. -/
def State.sdResult (s : State) (r : SdRun) (code : Nat) : State :=
  if r.auto then s
  else (s.setRg pSDC 0x11C (wd (code + at' r.cmd 8 + flagAt (2 ≤ r.stage) 16 + 0x80000000))).irq pSDC 0

/-- GATE or DATA for a refused access. -/
def sdFault : BusFault → Nat
  | .data => 14
  | _ => 13

/-- CAPACITY in blocks. -/
def State.sdBlocks (s : State) : Nat := (s.rg pSDC 0x124).toNat

/-- The code a READ, WRITE or SWITCH completes with at once, if any (R322, R326, R329). -/
def State.sdRefuses (s : State) (r : SdRun) : Option Nat :=
  if !s.sdc.present then some 1
  else if s.sdc.st = 5 then some 12
  else if s.sdc.st ≠ 4 then some 3
  else if r.cmd = 4 then none
  else if r.count = 0 || (r.jrn && 31 < r.count) then some 5
  else if s.sdBlocks < r.lba + r.count then some 6
  else if r.cmd = 3 && s.sdc.wp then some 7
  else if r.cmd = 3 && r.jrn && (tfind s.jrnl.opens 4).isSome then some 12
  else none

/-- A command begins. -/
def State.sdStart (s : State) (r : SdRun) : State :=
  let go (t : State) (r : SdRun) : State := t.modSd fun c => { c with run := some r }
  match r.cmd with
  | 1 =>
    if !s.sdc.present then s.sdResult r 1
    else if s.sdc.st = 5 && !r.auto then s.sdResult r 12
    else (go s r).modSd fun c => { c with st := 2 }
  | 5 =>
    if !s.sdc.present then s.sdResult r 1
    else ((s.modSd fun c => { c with st := 1 }).setRg pSDC 0x120 0).sdResult r 0
  | 2 =>
    (match s.sdRefuses r with
     | some c => s.sdResult r c
     | none => go s r)
  | 3 =>
    (match s.sdRefuses r with
     | some c => s.sdResult r c
     | none =>
       if r.jrn then
         let x := s.engRead r.agent r.addr (512 * r.count)
         if x.fault = .none then go x.st { r with data := x.data } else x.st.sdResult r (sdFault x.fault)
       else go s r)
  | 4 =>
    (match s.sdRefuses r with
     | some c => s.sdResult r c
     | none => if 5 < r.mode then (s.err pSDC 17).sdResult r 2 else go s r)
  | _ => (s.err pSDC 17).sdResult r 2

/-- A command completes; one that waited begins. -/
def State.sdFinish (s : State) (code : Nat) : State :=
  match s.sdc.run with
  | none => s
  | some r =>
    let s1 := (s.modSd fun c => { c with run := none, restoring := false, wait := none }).sdResult r code
    match s.sdc.wait with
    | some w => s1.sdStart w
    | none => s1

/-- INIT that the slot starts itself (R323). -/
def State.sdAutoInit (s : State) : State := s.sdStart { cmd := 1, agent := aCARD, auto := true }

/-- A restore begins; the running command completes with `after` once it has ended (R329). -/
def State.sdRestoreStart (s : State) (after : Nat) : State :=
  (s.modSd fun c => { c with st := 3, restoring := true }).modSdRun fun r => { r with after := after }

/-- The speed switch (R320): the mode then in force, and whether it succeeded. -/
def sdSpeed (cur mode : Nat) (w : SdSwitch) : Nat × Bool :=
  if !w.check || !w.switched then (cur, false)
  else if 4 ≤ mode && !w.tuned then (3, false)
  else (mode, true)

/-- The card answers INIT (R320, R321, R329); INIT waits for the journal's scan (R331). -/
def State.sdInit (s : State) (x : SdInit) : State :=
  match s.sdc.run with
  | none => s
  | some r =>
    if r.cmd ≠ 1 || s.sdc.restoring || !s.jrnl.ready then s
    else if !x.answers then (s.modSd fun c => { c with st := 6 }).sdFinish 3
    else if !x.supported then ((s.err pSDC 17).modSd fun c => { c with st := 6 }).sdFinish 2
    else
      let cfg := s.rg pSDC 0x100
      let asked := bitAt cfg 5 && x.s18a
      let v18 := asked && x.v18
      let want := if asked && !x.v18 then min 1 (fld cfg 0 3) else fld cfg 0 3
      if 5 < want then ((s.err pSDC 17).modSd fun c => { c with st := 6 }).sdFinish 2
      else
        let sp := sdSpeed 0 want x.speed
        let cid := fitTo 16 x.cid
        let s1 := (List.range 4).foldl (fun (t : State) i =>
          t.setRg pSDC (0x128 + 4 * i) (wordOf (cid.drop (4 * i)))) s
        let s2 := (s1.setRg pSDC 0x124 (wd x.blocks)).setRg pSDC 0x120
          (wd (sp.1 + flagAt (bitAt cfg 4) 4 + flagAt v18 5))
        let code := if sp.2 then 0 else 4
        match tfind s.jrnl.opens 4 with
        | some a =>
          if s.flashBytes (a + 16) 16 = cid then s2.sdRestoreStart code
          else (s2.modSd fun c => { c with st := 4 }).sdFinish code
        | none => (s2.modSd fun c => { c with st := 4 }).sdFinish code

/-- A restore (R329): `good` that the write, CMD13 and the comparison held. -/
def State.sdRestore (s : State) (good : Bool) : State :=
  if !s.sdc.restoring || s.tamp.halted then s
  else
    match tfind s.jrnl.opens 4, s.sdc.run with
    | some a, some r =>
      let count := leAt (s.flashBytes a 16) 5 1
      let pre := s.flashBytes (a + 80) (512 * count)
      let whole := !((codeWords a (80 + 512 * count)).any fun w =>
        w != (a + 64 - 0x10000000) / 16 && s.wordFlagged w)
      if good && whole && !s.sdc.wp && crc32 pre = leAt (s.flashBytes (a + 32) 16) 4 4 then
        let lba := leAt (s.flashBytes (a + 32) 16) 0 4
        let s1 := (((s.modSd fun c => { c with st := 4, sent := some (lba, pre) }).jrnlClose 4 2).cnt
          pJRNL 0x14C).irq pJRNL 2
        s1.sdFinish r.after
      else ((s.modSd fun c => { c with st := 5 }).err pJRNL 16).sdFinish 16
    | _, _ => (s.modSd fun c => { c with st := 4 }).sdFinish ((s.sdc.run.map (·.after)).getD 0)

/-- A READ's blocks arrive (R322). -/
def State.sdRead (s : State) (x : SdData) : State :=
  match s.sdc.run with
  | none => s
  | some r =>
    if r.cmd ≠ 2 || s.tamp.halted then s
    else
      let s1 := s.modSdRun fun r => { r with stage := 2 }
      match x with
      | .blocks bs =>
        let y := s1.engWrite r.agent r.addr (fitTo (512 * r.count) bs)
        y.st.sdFinish (if y.fault = .none then 0 else sdFault y.fault)
      | .crc => (s1.cnt pSDC 0x13C).sdFinish 8
      | .timeout => (s.cnt pSDC 0x140).sdFinish 9
      | .cardError => s1.sdFinish 17

/-- Step 4 of a journalled WRITE: the record opened over the pre-image (R327). -/
def State.sdOpen (s : State) (r : SdRun) (pre : List Byte) (vfail : Option Nat) : State :=
  if r.stage ≠ 0 then s
  else if !r.jrn then s.modSdRun fun r => { r with stage := 1 }
  else if !s.jrnl.ready || s.tamp.halted then s
  else
    let old := fitTo (512 * r.count) pre
    let cid := (List.range 4).flatMap fun i => leBytes 4 (s.rg pSDC (0x128 + 4 * i)).toNat
    match s.jrnlOpen 1 4 r.count cid (leBytes 4 r.lba ++ leBytes 4 (crc32 old)) old vfail with
    | some t => t.modSdRun fun r => { r with stage := 1 }
    | none => (s.irq pJRNL 3).sdFinish 11

/-- Step 5: the data phase (R322, R327). -/
def State.sdData (s : State) (r : SdRun) : State :=
  if r.stage ≠ 1 || (!r.jrn && s.tamp.halted) then s
  else
    let s1 := s.modSdRun fun r => { r with stage := 2 }
    if r.jrn then s1.modSd fun c => { c with sent := some (r.lba, r.data) }
    else
      let x := s1.engRead r.agent r.addr (512 * r.count)
      let s2 := x.st.modSd fun c => { c with sent := some (r.lba, x.data) }
      if x.fault = .none then s2 else s2.sdFinish (sdFault x.fault)

/-- Steps 6–8: CMD13 answered (R322, R327). -/
def State.sdStatus (s : State) (r : SdRun) (ok : Bool) : State :=
  if r.stage ≠ 2 || s.sdc.restoring || (r.jrn && s.tamp.halted) then s
  else if ok then (if r.jrn then s.jrnlClose 4 1 else s).sdFinish 0
  else if r.jrn then s.sdRestoreStart 17
  else s.sdFinish 17

/-- A WRITE goes on up to step `upto`: 1 the record is open, 2 the data phase has begun, 3 CMD13 is
answered, without a status error when `ok`. -/
def State.sdWrite (s : State) (pre : List Byte) (upto : Nat) (ok : Bool) (vfail : Option Nat) : State :=
  let stepIf (k : Nat) (f : State → SdRun → State) (t : State) : State :=
    match t.sdc.run with
    | some r => if r.cmd = 3 && k ≤ upto then f t r else t
    | none => t
  stepIf 3 (fun t r => t.sdStatus r ok)
    (stepIf 2 (fun t r => t.sdData r) (stepIf 1 (fun t r => t.sdOpen r pre vfail) s))

/-- SWITCH (R320). -/
def State.sdSwitch (s : State) (w : SdSwitch) : State :=
  match s.sdc.run with
  | none => s
  | some r =>
    if r.cmd ≠ 4 then s
    else
      let v := s.rg pSDC 0x120
      let sp := sdSpeed (fld v 0 3) r.mode w
      (s.setRg pSDC 0x120 (putFld v 0 3 sp.1)).sdFinish (if sp.2 then 0 else 4)

/-- ABORT (R323). -/
def State.sdAbort (s : State) : State :=
  match s.sdc.run with
  | none => s
  | some r =>
    if s.sdc.restoring then s
    else if r.cmd = 2 then s.sdFinish 15
    else if r.cmd = 3 && r.jrn then (if r.stage = 0 then s.sdFinish 15 else s.sdRestoreStart 15)
    else s

/-- A busy phase longer than TIM.BUSY (R323). -/
def State.sdBusyTimeout (s : State) : State :=
  match s.sdc.run with
  | none => s
  | some r =>
    if r.cmd = 3 && r.stage = 2 && !s.sdc.restoring then
      ((s.cnt pSDC 0x140).sdFinish 10).sdAutoInit
    else s

/-- Insertion (R323), with the write-protect switch as it stands. -/
def State.sdInsert (s : State) (wp : Bool) : State :=
  if !s.pdOn 50 || s.sdc.present then s
  else
    let s1 := (s.modSd fun c => { c with present := true, wp := wp, st := 1 }).irq pSDC 1
    if s.rbit pSDC 0x100 6 then s1.sdAutoInit else s1

/-- Removal (R323, R328). -/
def State.sdRemove (s : State) : State :=
  if !s.pdOn 50 || !s.sdc.present then s
  else
    let cut := match s.sdc.run with
      | some r => r.cmd == 3 && r.stage == 2
      | none => false
    let open' := cut && (tfind s.jrnl.opens 4).isSome
    let s1 := (s.modSd fun c => { c with present := false, wp := false, st := if open' then 5 else 0 }).sdFinish
      (if cut then 10 else 1)
    s1.irq pSDC 2

/-- A write of SDC.CMD: a command while one runs is discarded, one during a restore the slot started
itself waits (R322, R329). -/
def State.sdCommand (s : State) (a : Nat) (v : Word) : State :=
  let arg := s.rg pSDC 0x108
  let r : SdRun :=
    { cmd := fld v 0 4, agent := a, jrn := bitAt arg 31, mode := fld arg 0 3,
      lba := (s.rg pSDC 0x10C).toNat, count := fld (s.rg pSDC 0x110) 0 16,
      addr := (s.rg pSDC 0x114).toNat + fld (s.rg pSDC 0x118) 0 8 * 2 ^ 32 }
  if r.cmd = 15 then s.sdAbort
  else
    match s.sdc.run with
    | none => s.sdStart r
    | some x =>
      if x.auto && s.sdc.wait.isNone then s.modSd fun c => { c with wait := some r } else s.err pSDC 16

/-- A block, warm or cold reset of SDC (R333). -/
def State.sdReset (s : State) : State := s.modSd fun _ => {}

/-- PD50 may be switched off (R311). -/
def State.sdIdle (s : State) : Bool := s.sdc.run.isNone && s.sdc.st != 2 && s.sdc.st != 3

end Sys2Proof.Machine
end

