-- ==== Sys2Proof/Machine/LegalCtl.lean ====
section
/-!
DEFINITION. The legal metrology island (R334–R364): its partition of flash, the cellar book, reading
records, the mailbox, the AFE and LRTC, and its two reset kinds.
-/
namespace Sys2Proof.Machine

def State.modLegal (s : State) (f : LegalSt → LegalSt) : State := { s with legal := f s.legal }

/-- All code words of a range are PROGRAMMED (R346). -/
def State.allProgrammed (s : State) (addr n : Nat) : Bool :=
  (List.range (n / 16)).all fun i => s.wsAt (addr + 16 * i) == 0

/-- Some code word of a range is not ERASED. -/
def State.anyWritten (s : State) (addr n : Nat) : Bool :=
  (List.range (n / 16)).any fun i => s.wsAt (addr + 16 * i) != 3

/-- The next place of a ring whose sector holds `per` entries of `size` bytes from sector `first`: the
sector is erased when it is entered (R350, R360). -/
def State.ringEnter (s : State) (first per pos : Nat) : State :=
  let sec := first + pos / per
  if pos % per = 0 && !s.sectorEmpty sec then s.flashWipe sec else s

/-- MSTATE changes (IRQ_RAW.STATE). -/
def State.setMstate (s : State) (m : Nat) : State :=
  if s.legal.mstate = m then s else (s.modLegal fun l => { l with mstate := m }).irq pLEGAL 2

/-! ### The cellar book (R361, R362) -/

/-- A cellar-book entry. -/
def LegalSt.bookEntry (l : LegalSt) (lc kind : Nat) (audited : Bool) (old new arg : Nat) : List Byte :=
  let b := leBytes 2 (l.bookNo % 4096) ++
    [BitVec.ofNat 8 kind, BitVec.ofNat 8 (b01 audited + flagAt l.sealOn 1 + flagAt l.ovfNext 2)] ++
    leBytes 8 l.time ++ leBytes 4 (l.audit + at' lc 13) ++ leBytes 4 old ++ leBytes 4 new ++ leBytes 4 arg
  b ++ leBytes 4 (crc32 b)

def bookBase : Nat := 0x103E0000

/-- An entry programmed after the last. -/
def State.bookPut (s : State) (kind : Nat) (audited : Bool) (old new arg : Nat) : State :=
  (s.flashPut (bookBase + 32 * s.legal.bookNo) (s.legal.bookEntry s.islandLc kind audited old new arg)).modLegal
    fun l => { l with bookNo := l.bookNo + 1, ovfNext := false }

/-- An event entry: dropped when 64 or fewer places are free. -/
def State.bookEvent (s : State) (kind old new arg : Nat) : State :=
  if 4032 ≤ s.legal.bookNo then
    s.modLegal fun l =>
      { l with bookOvf := min 0xFFFF (l.bookOvf + 1), ovfNext := true, ovfRec := true }
  else s.bookPut kind false old new arg

/-- The code an audited change stops with, if any (R356 step 1). -/
def State.auditRefuses (s : State) (lcOk : Bool) : Option Nat :=
  if !s.legal.sealOn then some 4
  else if !lcOk then some 6
  else if 4096 ≤ s.legal.bookNo then some 8
  else if 4096 ≤ s.legal.audit then some 7
  else none

/-- One audit bit is blown and the entry programmed (R356 steps 3 and 4). -/
def State.auditEntry (s : State) (kind old new arg : Nat) : State :=
  (s.modLegal fun l => { l with audit := l.audit + 1 }).bookPut kind true old new arg

/-! ### Parameters (R356, R364) -/

/-- Parameter ids in order. -/
def paramIds : List Nat :=
  (List.range 10).map (1 + ·) ++ (List.range 10).map (0x11 + ·) ++ (List.range 8).map (0x21 + ·) ++
    [0x30, 0x31, 0x32, 0x33, 0x34]

/-- The value of a parameter in force. -/
def State.paramVal (s : State) (id : Nat) : Word :=
  if id ≤ 0x0A then s.rg pAFE (0x110 + 4 * (id - 1))
  else if id ≤ 0x1A then s.rg pAFE (0x140 + 4 * (id - 0x11))
  else if id ≤ 0x28 then s.rg pAFE (0x170 + 4 * (id - 0x21))
  else if id = 0x30 then wd (fld (s.rg pAFE 0x100) 16 2)
  else if id = 0x31 then s.rg pAFE 0x104
  else if id = 0x32 then s.rg pAFE 0x108
  else if id = 0x33 then wd s.legal.recint
  else s.rg pLRTC 0x114

/-- A parameter put into force. -/
def State.paramSet (s : State) (id : Nat) (v : Word) : State :=
  if id ≤ 0x0A then s.setRg pAFE (0x110 + 4 * (id - 1)) v
  else if id ≤ 0x1A then s.setRg pAFE (0x140 + 4 * (id - 0x11)) v
  else if id ≤ 0x28 then s.setRg pAFE (0x170 + 4 * (id - 0x21)) v
  else if id = 0x30 then s.modRg pAFE 0x100 fun w => putFld w 16 2 v.toNat
  else if id = 0x31 then s.setRg pAFE 0x104 (v &&& 3)
  else if id = 0x32 then s.setRg pAFE 0x108 v
  else if id = 0x33 then s.modLegal fun l => { l with recint := v.toNat }
  else s.setRg pLRTC 0x114 v

/-- Bytes of a parameter copy ahead of its CRC word (notes/assumptions/37.md). -/
def State.paramBytes (s : State) (seq : Nat) : List Byte :=
  fitTo 144 (leBytes 8 seq ++ paramIds.flatMap fun id => leBytes 4 (s.paramVal id).toNat)

def commitWord : List Byte := fitTo 16 [0x43, 0x4F, 0x4D, 0x54]

/-- A parameter copy whose check passes: its sequence. -/
def State.paramCopy (s : State) (sec : Nat) : Option Nat :=
  let a := sectorBase sec
  if s.allProgrammed a 160 && leNat (s.flashBytes (a + 144) 4) == crc32 (s.flashBytes a 144) then
    some (leNat (s.flashBytes a 8))
  else none

/-- Such a copy with COMMIT. -/
def State.paramCommitted (s : State) (sec : Nat) : Option Nat :=
  if s.wsAt (sectorBase sec + 160) = 0 then s.paramCopy sec else none

/-- The governing copy's sector and sequence (R356). -/
def State.paramGoverning (s : State) : Option (Nat × Nat) :=
  match s.paramCommitted 228, s.paramCommitted 229 with
  | some a, some b => some (if a > b then (228, a) else (229, b))
  | some a, none => some (228, a)
  | none, some b => some (229, b)
  | none, none => none

/-- The governing copy's values put into force. -/
def State.paramLoad (s : State) : State :=
  match s.paramGoverning with
  | none => s
  | some (sec, seq) =>
    let bs := s.flashBytes (sectorBase sec) 144
    let s1 := (List.range paramIds.length).foldl (fun (t : State) i =>
      t.paramSet (paramIds.getD i 0) (wordOf (bs.drop (8 + 4 * i)))) s
    s1.modLegal fun l => { l with pseq := seq, pcsum := crc32 bs }

/-- A PARAM change in the order of R356. -/
def State.paramChange (s : State) (id : Nat) (v : Word) : State :=
  let old := (s.paramVal id).toNat
  let seq := s.legal.pseq + 1
  let sec := match s.paramGoverning with | some (228, _) => 229 | _ => 228
  let t := s.paramSet id v
  let bs := t.paramBytes seq
  let s1 := (s.flashWipe sec).flashPut (sectorBase sec) (bs ++ fitTo 16 (leBytes 4 (crc32 bs)))
  let s2 := (s1.auditEntry 0x05 old v.toNat id).flashPut (sectorBase sec + 160) commitWord
  let s3 := s2.paramLoad
  if s3.legal.mstate = 3 then s3.setMstate 1 else s3

/-! ### The signing key and records (R357–R360) -/

/-- A secret from its two shares. -/
def unshare (x : List Byte × List Byte) : List Byte := xorBytes x.1 x.2

/-- The public key's coordinates, 32 bytes each. -/
def keyPoint (d : List Byte) : List Byte :=
  let q := p256.publicKey (beNat d)
  beBytes 32 q.1 ++ beBytes 32 q.2

/-- KEYID (R357). -/
def keyId (d : List Byte) : List Byte := (sha256.hash (0x04 :: keyPoint d)).take 8

/-- The nonce of a signature (R359): the first in range (notes/assumptions/38.md). -/
def recordNonce (nkey h : List Byte) (recno : Nat) (hedge : List Byte) (ctr fuel : Nat) : Nat :=
  match fuel with
  | 0 => 1
  | k + 1 =>
    let x := beNat (sha256.hmac nkey (h ++ leBytes 4 recno ++ hedge ++ leBytes 4 ctr))
    if 1 ≤ x && x < p256.n then x else recordNonce nkey h recno hedge (ctr + 1) k

/-- Bytes 0–127 of a record (R358). -/
def State.recordBody (s : State) (typ : Nat) (context kid : List Byte) : List Byte :=
  let l := s.legal
  let flags := b01 l.sealOn + flagAt l.timeUnset 1 + flagAt l.estimated 2 + flagAt l.ovfRec 3 + flagAt l.recCut 4
  [0x4C, 0x52, 0x01, BitVec.ofNat 8 typ] ++ leBytes 4 l.recno ++ leBytes 8 l.time ++ leBytes 8 s.now ++
    leBytes 4 l.swid ++ leBytes 4 l.csum ++ leBytes 4 (l.audit + at' s.islandLc 13 + at' flags 16) ++
    leBytes 4 (if l.bookNo = 0 then 0xFFFFFFFF else l.bookNo - 1) ++
    (l.energy.flatMap fun e => leBytes 8 e.1) ++ fitTo 16 context ++ kid ++ List.replicate 16 0

def recordBase (pos : Nat) : Nat := sectorBase (230 + pos / 85) + 192 * (pos % 85)

/-- A record is signed and programmed (R359, R360); the record's bytes, or a code. `good` that the check on
STAVE-L held. -/
def State.makeRecord (s : State) (typ : Nat) (context hedge : List Byte) (good : Bool) :
    State × (Nat ⊕ List Byte) :=
  match s.legal.key with
  | none => (s, .inl 12)
  | some (d2, n2) =>
    let d := unshare d2
    let body := s.recordBody typ context (keyId d)
    let h := sha256.hash body
    if !good then (s, .inl 13)
    else
      let sg := p256.sign h (beNat d) (recordNonce (unshare n2) h s.legal.recno hedge 0 8)
      let bs := body ++ beBytes 32 sg.1 ++ beBytes 32 sg.2
      let s1 := (s.ringEnter 230 85 s.legal.recPos).flashPut (recordBase s.legal.recPos) bs
      ((s1.modLegal fun l =>
        { l with recno := l.recno + 1, recPos := (l.recPos + 1) % 1360, recCut := false,
                 ovfRec := false }).irq pLEGAL 3, .inr bs)

/-- Whether records are made: MEASURING and LC MAKER, INTEGRATOR or FIELDED (R360). -/
def State.recordsOn (s : State) : Bool := s.legal.mstate == 1 && s.islandLc ≤ 2

/-- A record the ring still holds (R360). -/
def State.recordAt (s : State) (no : Nat) : Option (List Byte) :=
  let l := s.legal
  if l.recno ≤ no || 1360 < l.recno - no then none
  else
    let a := recordBase ((l.recPos + 1360 - (l.recno - no)) % 1360)
    let bs := s.flashBytes a 192
    if s.allProgrammed a 192 && bs.take 3 == [0x4C, 0x52, 0x01] && leAt bs 4 4 == no then some bs else none

/-! ### The mailbox (R363, R364) -/

def State.mbCode (s : State) : Nat := fld (s.rg pLEGAL 0x128) 0 8

def State.mbArg (s : State) : Nat := fld (s.rg pLEGAL 0x128) 16 16

def State.mbLen (s : State) : Nat := fld (s.rg pLEGAL 0x12C) 0 9

/-- Request bytes. -/
def State.mbReq (s : State) (i n : Nat) : List Byte :=
  (((List.range 64).flatMap fun k => leBytes 4 (s.rg pLEGAL (0x400 + 4 * k)).toNat).drop i).take n

/-- MB_RSP cleared. -/
def State.mbClear (s : State) : State :=
  { s with regs := tdrop s.regs fun k _ => rkey pLEGAL 0x800 ≤ k && k ≤ rkey pLEGAL 0x8FC }

/-- A write of MB_DOOR (R363). -/
def State.mbDoor (s : State) (a : Nat) (v : Word) : State :=
  if !bitAt v 0 then s
  else if s.legal.mb ≠ 0 then s.err pLEGAL 16
  else (s.mbClear.setRg pLEGAL 0x134 0).modLegal fun l => { l with mb := 1, mbAgent := a }

/-- MB_REQ, MB_LEN and MB_CMD written. -/
def State.mbWrite (s : State) (a off : Nat) (v : Word) : State :=
  if off = 0x130 then s.mbDoor a v
  else if s.legal.mb ≠ 0 then s.err pLEGAL 16
  else s.setRg pLEGAL off (if off = 0x128 then v &&& 0xFFFF00FF else if off = 0x12C then v &&& 0x1FF else v)

/-- The response: MB_RSP and MB_RESULT on one edge. -/
def State.mbFinish (s : State) (code : Nat) (rsp : List Byte) : State :=
  let s1 := (List.range ((rsp.length + 3) / 4)).foldl (fun (t : State) i =>
    t.setRg pLEGAL (0x800 + 4 * i) (wordOf (fitTo 4 (rsp.drop (4 * i))))) s
  ((s1.setRg pLEGAL 0x134 (wd (code + at' s.legal.mbAgent 8 + at' rsp.length 16 + 0x80000000))).modLegal
    fun l => { l with mb := 0 }).irq pLEGAL 0

/-- The island takes a posted request; an unlisted code, or an application code outside MEASURING, ends at
once (R364). -/
def State.mbTake (s : State) : State :=
  if s.legal.mb ≠ 1 || s.legal.mstate = 0 then s
  else
    let s1 := (s.modRg pLEGAL 0x138 (· + 1)).modLegal fun l => { l with mb := 2 }
    let c := s.mbCode
    if c = 0 || (0x0F ≤ c && c < 0x80) then s1.mbFinish 1 []
    else if 0x80 ≤ c && s.legal.mstate ≠ 1 then s1.mbFinish 5 []
    else s1

/-- A service of the taken request: only while its code is the one posted, and after its length check. -/
def State.mbServe (s : State) (code : Nat) (lens : List Nat) (f : State → State × Nat × List Byte) : State :=
  if s.legal.mb ≠ 2 || s.mbCode ≠ code then s
  else if !lens.contains s.mbLen then s.mbFinish 2 []
  else
    let r := f s
    r.1.mbFinish r.2.1 (if r.2.1 = 0 then r.2.2 else [])

/-- STATUS 0x01. -/
def State.mbStatus (s : State) : State :=
  s.mbServe 1 [0] fun s => (s, 0, (List.range 16).flatMap fun i => leBytes 4 (s.rg pAFE (0x240 + 4 * i)).toNat)

/-- READING 0x02. -/
def State.mbReading (s : State) (good : Bool) : State :=
  s.mbServe 2 [48] fun s =>
    if !(1 ≤ s.mbArg && s.mbArg ≤ 3) then (s, 3, [])
    else if s.legal.mstate ≠ 1 then (s, 5, [])
    else if 2 < s.islandLc then (s, 6, [])
    else
      match s.makeRecord s.mbArg (s.mbReq 0 16) (s.mbReq 16 32) good with
      | (t, .inl c) => (t, c, [])
      | (t, .inr bs) => (t, 0, bs)

/-- GETREC 0x03. -/
def State.mbGetrec (s : State) : State :=
  s.mbServe 3 [4] fun s =>
    match s.recordAt (leNat (s.mbReq 0 4)) with
    | some bs => (s, 0, bs)
    | none => (s, 3, [])

/-- GETBOOK 0x04. -/
def State.mbGetbook (s : State) : State :=
  s.mbServe 4 [4] fun s =>
    let i := leNat (s.mbReq 0 4)
    if s.mbArg = 0 || 8 < s.mbArg || s.legal.bookNo < i + s.mbArg then (s, 3, [])
    else (s, 0, s.flashBytes (bookBase + 32 * i) (32 * s.mbArg))

/-- Qx, Qy and KEYID. -/
def keyAnswer (d : List Byte) : List Byte := keyPoint d ++ keyId d

/-- GETKEY 0x05. -/
def State.mbGetkey (s : State) : State :=
  s.mbServe 5 [0] fun s =>
    match s.legal.key with
    | some (d, _) => (s, 0, keyAnswer (unshare d))
    | none => (s, 12, [])

/-- The time is set. -/
def State.setTime (s : State) (t : Nat) : State :=
  s.modLegal fun l => { l with time := t % 2 ^ 64, timeUnset := false, frac := 0 }

/-- SETTIME 0x06 (R353). -/
def State.mbSettime (s : State) : State :=
  s.mbServe 6 [8] fun s =>
    let new := leNat (s.mbReq 0 8)
    let cur := s.legal.time
    let o := cur / 65536
    let n := new / 65536
    let delta := (n + 2 ^ 32 - o % 2 ^ 32) % 2 ^ 32
    if s.legal.sealOn then
      match s.auditRefuses true with
      | some c => (s, c, [])
      | none => ((s.auditEntry 0x04 o n delta).setTime new, 0, [])
    else
      let near := apart new cur ≤ 30 * 65536
      let free := match s.legal.lastSet with
        | some t => t + 86400 ≤ o
        | none => true
      if near && free then
        (((s.bookEvent 0x04 o n delta).setTime new).modLegal fun l => { l with lastSet := some n }, 0, [])
      else (s, 9, [])

/-- PARAM 0x07. -/
def State.mbParam (s : State) : State :=
  s.mbServe 7 [4] fun s =>
    if !paramIds.contains s.mbArg then (s, 3, [])
    else
      match s.auditRefuses true with
      | some c => (s, c, [])
      | none => (s.paramChange s.mbArg (wordOf (s.mbReq 0 4)), 0, [])

/-- UPDATE_BEGIN 0x08. -/
def State.mbUpdateBegin (s : State) : State :=
  s.mbServe 8 [0] fun s =>
    if !s.legal.sealOn then (s, 4, [])
    else (([224, 225, 226, 227].foldl (fun (t : State) x => t.flashWipe x) s).setMstate 4, 0, [])

/-- UPDATE_DATA 0x09. -/
def State.mbUpdateData (s : State) : State :=
  s.mbServe 9 [256] fun s =>
    let a := 0x10380000 + 256 * s.mbArg
    if !s.legal.sealOn then (s, 4, [])
    else if s.legal.mstate ≠ 4 then (s, 5, [])
    else if 255 < s.mbArg then (s, 3, [])
    else if s.anyWritten a 256 then (s, 10, [])
    else (s.flashPut a (s.mbReq 0 256), 0, [])

/-- The image header (R344): SWID, LEN, CRC and entry offset; none if it is bad. -/
def State.imageHead (s : State) : Option (Nat × Nat × Nat × Nat) :=
  let h := s.flashBytes 0x10380000 64
  if s.allProgrammed 0x10380000 64 && h.take 3 == [0x4C, 0x49, 0x01] && byteAt h 3 == 0 &&
      leAt h 8 4 ≤ 49152 && (h.drop 20).all (· == 0) then
    some (leAt h 4 4, leAt h 8 4, leAt h 12 4, leAt h 16 4)
  else none

/-- The image's CRC-32 as it stands. -/
def State.imageCrc (s : State) (len : Nat) : Nat := crc32 (s.flashBytes 0x10380040 len)

/-! ### Resets of the island (R339, R341) -/

/-- LCORE, island SRAM and STAVE-L reset. -/
def State.islandCoreReset (s : State) : State :=
  ({ s.coreToReset 10 with mem := memClear s.mem 0x26010000 0x10000 }).staveFresh 4

/-- An island warm reset; `cause` as in the ISLAND_RESET entry. A request in progress ends ABANDONED; a
response that stands in MB_RSP and MB_RESULT is kept (R363; notes/assumptions/39.md). -/
def State.islandWarm (s : State) (cause : Nat) : State :=
  let s1 := s.bookEvent 0x03 0 0 cause
  let res := s1.rg pLEGAL 0x134
  let s2 := s1.islandCoreReset
  let kept := s2.regs.filter fun e => rkey pLEGAL 0x800 ≤ e.1 && e.1 ≤ rkey pLEGAL 0x8FC
  let s3 := [0x80, 0x81, 0x82, 0x83, 0x84].foldl (fun (t : State) p => t.pageWarm p) s2
  let s4 := (kept.foldl (fun (t : State) e => { t with regs := tset t.regs e.1 e.2 }) s3).setRg pLEGAL 0x134 res
  let s5 := if s.legal.mb = 2 then s4.mbFinish 14 [] else s4
  (s5.modLegal fun l => { l with mstate := 0, mb := 0, cold := false, lfl := none, lirq := 0 }).modFlash fun f =>
    { f with islandReq := false }

/-- An island cold reset; `vbat` that the LRTC held. -/
def State.islandCold (s : State) (vbat : Bool) : State :=
  let l := s.legal
  let s1 := s.islandCoreReset
  let s2 := { s1 with
    regs := s1.regs.filter fun e => !(0x80 ≤ e.1 / 0x1000 && e.1 / 0x1000 ≤ 0x84),
    aregs := s1.aregs.filter fun e => !(0x80 ≤ e.1 % 0x1000000 / 0x1000 && e.1 % 0x1000000 / 0x1000 ≤ 0x84),
    flash := { s1.flash with islandReq := false } }
  let base : LegalSt := { audit := l.audit, key := l.key, sealOn := l.sealOn, bookOvf := l.bookOvf, lc := l.lc,
                          ovfNext := l.ovfNext, ovfRec := l.ovfRec }
  s2.modLegal fun _ =>
    if vbat then { base with time := l.time, frac := l.frac, comp := l.comp, timeUnset := l.timeUnset,
                             lastSet := l.lastSet }
    else base

/-- UPDATE_END 0x0A: the check, then the audited change, then the island warm reset. -/
def State.mbUpdateEnd (s : State) : State :=
  let t := s.mbServe 0x0A [0] fun s =>
    if !s.legal.sealOn then (s, 4, [])
    else if s.legal.mstate ≠ 4 then (s, 5, [])
    else
      match s.imageHead with
      | none => (s.setMstate 2, 11, [])
      | some (swid, len, crc, _) =>
        if s.imageCrc len ≠ crc then (s.setMstate 2, 11, [])
        else
          match s.auditRefuses true with
          | some c => (s, c, [])
          | none => (s.auditEntry 0x06 s.legal.swid swid crc, 0, [])
  if s.legal.mb = 2 && s.mbCode = 0x0A && t.legal.audit ≠ s.legal.audit then t.islandWarm 4 else t

/-- A run of 81 identical samples (R151). -/
def longRun (bs : List Bool) (last : Option Bool) (n : Nat) : Bool :=
  match bs with
  | [] => false
  | b :: r =>
    let m := if last == some b then n + 1 else 1
    if 81 ≤ m then true else longRun r (some b) m

/-- KEYGEN 0x0B (R357): `samples` are the 2,048 samples of the noise source, and `mask` the shares' masks. -/
def State.mbKeygen (s : State) (samples : List Bool) (mask : List Byte) : State :=
  s.mbServe 0x0B [32] fun s =>
    match s.auditRefuses (s.islandLc ≤ 1) with
    | some c => (s, c, [])
    | none =>
      if s.legal.key.isSome then (s, 12, [])
      else if longRun samples none 0 then (s, 11, [])
      else
        let base := fitTo 256 (bytesOfBits samples) ++ s.mbReq 0 32
        let h (j : Byte) : List Byte := sha256.hash (j :: base)
        let d := beBytes 32 (beNat (h 1 ++ (h 2).take 16) % (p256.n - 1) + 1)
        let m := fitTo 64 mask
        let key := ((m.take 32, xorBytes (m.take 32) d), (m.drop 32, xorBytes (m.drop 32) (h 3)))
        let s1 := s.modLegal fun l => { l with key := some key }
        (s1.auditEntry 0x0C 0 0 (leNat ((keyId d).take 4)), 0, keyAnswer d)

/-- RESET 0x0C: it completes before its own reset. -/
def State.mbReset (s : State) : State :=
  let t := s.mbServe 0x0C [0] fun s => if s.legal.sealOn then (s, 0, []) else (s, 4, [])
  if s.legal.mb = 2 && s.mbCode = 0x0C && s.mbLen = 0 && s.legal.sealOn then t.islandWarm 3 else t

/-- HARMONICS 0x0D. -/
def State.mbHarmonics (s : State) : State :=
  s.mbServe 0x0D [0] fun s =>
    if 7 < s.mbArg then (s, 3, [])
    else
      let hs := s.legal.harm.getD s.mbArg []
      (s, 0, (List.range 40).flatMap fun i => leBytes 2 (hs.getD i 0))

/-- CLEARBOOK 0x0E (R362). -/
def State.mbClearbook (s : State) : State :=
  s.mbServe 0x0E [0] fun s =>
    match s.auditRefuses (s.islandLc == 0) with
    | some c => (s, c, [])
    | none =>
      let before := s.legal.bookNo
      let s1 := (List.range 8).foldl (fun (t : State) i => t.flashWipe (248 + i)) s
      ((s1.modLegal fun l => { l with bookNo := 0 }).auditEntry 0x10 0 0 before, 0, [])

/-- A request the application serves, with what it answers. -/
def State.mbApp (s : State) (code : Nat) (rsp : List Byte) : State :=
  if s.legal.mb = 2 && 0x80 ≤ s.mbCode then s.mbFinish (code % 256) (rsp.take 256) else s

/-- CTRL.SRST of page 0x80 (R364): the request registers take their W values, and a request that is posted
and not taken ends ABANDONED. -/
def State.mbSrst (s : State) : State :=
  let gone (k : Nat) : Bool :=
    k == rkey pLEGAL 0x128 || k == rkey pLEGAL 0x12C || (rkey pLEGAL 0x400 ≤ k && k ≤ rkey pLEGAL 0x4FC)
  let s1 := { s with regs := tdrop s.regs fun k _ => gone k }
  if s.legal.mb = 1 then s1.mbFinish 14 [] else s1

/-! ### Energy (R348–R351) -/

/-- Energy added to an accumulator, its residual kept (R349). -/
def addEnergy (e : Nat × Nat) (x : Nat) : Nat × Nat :=
  let t := e.2 + x
  ((e.1 + t / 2 ^ 32) % 2 ^ 64, t % 2 ^ 32)

/-- Growth of the quantity of PULSE_CFG.QTY over a block (R351). -/
def pulseGrowth (qty : Nat) (b : AfeBlock) : Nat :=
  match qty with
  | 0 => b.p.toNat
  | 1 => b.p.natAbs
  | 2 => b.q.toNat
  | _ => 0

/-- Mean power in tenths from a block's energy: 1 mWh each second is 3.6 W. -/
def tenths (x : Int) : Word := BitVec.ofInt 32 (x * 36 / (2 ^ 32 : Int))

/-- PULSE_CONST in units of 2^-32 µWh. -/
def State.pulseConst (s : State) : Nat := (s.rg pAFE 0x108).toNat * 2 ^ 32

/-- The end of a one-second block (R348): the energies, the measured values, the pulses due. -/
def State.afeBlock (s : State) (b : AfeBlock) : State :=
  if !s.legal.dsp then s
  else
    let grow := pulseGrowth (fld (s.rg pAFE 0x104) 0 2) b * 1000
    let s1 := s.modLegal fun l =>
      let e (i : Nat) : Nat × Nat := l.energy.getD i (0, 0)
      let es := [addEnergy (e 0) b.p.toNat, addEnergy (e 1) (-b.p).toNat, addEnergy (e 2) b.q.toNat,
        addEnergy (e 3) (-b.q).toNat, addEnergy (e 4) b.sApp, addEnergy (e 5) b.dc.toNat]
      { l with
        energy := es,
        pulseAcc := l.pulseAcc + grow,
        harm := b.harm.map fun h => h.map (·.toNat),
        lirq := l.lirq ||| 0x10 }
    let put (t : State) (off : Nat) (v : Word) : State := t.setRg pAFE off v
    let s2 := (List.range 4).foldl (fun (t : State) i =>
      put (put t (0x240 + 4 * i) (b.urms.getD i 0)) (0x250 + 4 * i) (b.irms.getD i 0)) s1
    let s3 := put (put (put (put s2 0x260 (tenths b.p)) 0x264 (tenths b.q)) 0x268 (tenths b.sApp)) 0x26C b.freq
    let s4 := put (put (put (put s3 0x270 b.udc) 0x274 b.idc) 0x278 b.temp) 0x27C b.flags
    if 0 < s.pulseConst && s.pulseConst * 2000 < grow then s4.err pAFE 16 else s4

/-- A pulse of LPULSE (R351). -/
def State.lpulse (s : State) : State :=
  if 0 < s.pulseConst && s.pulseConst ≤ s.legal.pulseAcc then
    s.modLegal fun l => { l with pulseAcc := l.pulseAcc - s.pulseConst, pulses := l.pulses + 1 }
  else s

/-- An energy journal entry (R350). -/
def State.energySave (s : State) (cause : Nat) : State :=
  let l := s.legal
  let b := [0x4C, 0x45, 0x01, BitVec.ofNat 8 cause] ++ leBytes 4 l.jseq ++
    (l.energy.flatMap fun e => leBytes 8 e.1) ++ leBytes 4 (l.time / 65536)
  ((s.ringEnter 246 256 l.jpos).flashPut (sectorBase 246 + 64 * l.jpos) (b ++ leBytes 4 (crc32 b))).modLegal
    fun l => { l with jseq := (l.jseq + 1) % 2 ^ 32, jpos := (l.jpos + 1) % 512 }

/-- The power-fail save (R337, R350). -/
def State.lvwarnSave (s : State) : State :=
  let s1 := s.energySave 1
  (s1.bookEvent 0x01 ((s1.legal.energy.getD 0 (0, 0)).1 % 2 ^ 32) 0 0).modLegal fun l => { l with lvwarn := true }

/-! ### The start logic (R344, R346, R350, R356) -/

/-- Valid energy journal entries with their place: SEQ, place. -/
def State.journalLast (s : State) : Option (Nat × Nat) :=
  (List.range 512).foldl (fun (best : Option (Nat × Nat)) i =>
    let a := sectorBase 246 + 64 * i
    let bs := s.flashBytes a 64
    if s.allProgrammed a 64 && bs.take 3 == [0x4C, 0x45, 0x01] && leAt bs 60 4 == crc32 (bs.take 60) then
      match best with
      | some (q, _) => if q ≤ leAt bs 4 4 then some (leAt bs 4 4, i) else best
      | none => some (leAt bs 4 4, i)
    else best) none

/-- The highest record number of a valid record, with its place. -/
def State.recordLast (s : State) (kid : List Byte) : Option (Nat × Nat) :=
  (List.range 1360).foldl (fun (best : Option (Nat × Nat)) i =>
    let a := recordBase i
    let bs := s.flashBytes a 192
    if s.allProgrammed a 192 && bs.take 3 == [0x4C, 0x52, 0x01] && leAt bs 3 1 ≤ 4 &&
        (bs.drop 104).take 8 == kid then
      match best with
      | some (q, _) => if q ≤ leAt bs 4 4 then some (leAt bs 4 4, i) else best
      | none => some (leAt bs 4 4, i)
    else best) none

/-- One place past the last one written in the book, and the AUDIT of the last valid entry. -/
def State.bookLast (s : State) : Nat × Nat :=
  (List.range 4096).foldl (fun (r : Nat × Nat) i =>
    let a := bookBase + 32 * i
    if s.anyWritten a 32 then
      let bs := s.flashBytes a 32
      if s.allProgrammed a 32 && leAt bs 28 4 == crc32 (bs.take 28) then (i + 1, leAt bs 12 4 % 0x2000)
      else (i + 1, r.2)
    else r) (0, 0)

/-- The image copied and checked (R344): true when it may run. -/
def State.loadImage (s : State) : State × Bool :=
  match s.imageHead with
  | none => (s.modLegal fun l => { l with swid := 0, csum := 0 }, false)
  | some (swid, len, crc, _) =>
    let c := s.imageCrc len
    ((s.poke 0x26010000 (s.flashBytes 0x10380040 len)).modLegal fun l => { l with swid := swid, csum := c },
      c == crc)

/-- The record ring scanned; a cut record keeps its number (R360). -/
def State.scanRecords (s : State) : State :=
  let kid := match s.legal.key with | some (d, _) => keyId (unshare d) | none => []
  let (no, pos) := match s.recordLast kid with | some (n, i) => (n + 1, (i + 1) % 1360) | none => (0, 0)
  if pos % 85 != 0 && s.anyWritten (recordBase pos) 192 then
    (s.bookEvent 0x0D 0 0 no).modLegal fun l =>
      { l with recno := no + 1, recPos := (pos + 1) % 1360, recCut := true }
  else s.modLegal fun l => { l with recno := no, recPos := pos }

/-- A change cut between its entry and COMMIT is completed; one without an entry is abandoned, and a count
ahead of the book is named (R356). -/
def State.finishCut (s : State) (bookAudit : Nat) : State :=
  let cut := [228, 229].find? fun sec =>
    (s.paramCommitted sec).isNone && (match s.paramCopy sec with | some q => q == s.legal.pseq + 1 | none => false)
  match cut with
  | some sec =>
    if s.legal.audit = bookAudit then (s.flashPut (sectorBase sec + 160) commitWord).paramLoad
    else s.bookEvent 0x0F bookAudit s.legal.audit 0
  | none => if bookAudit < s.legal.audit then s.bookEvent 0x0F bookAudit s.legal.audit 0 else s

/-- The accumulators loaded at an island cold start, with the POWER_UP entry (R350, R361). -/
def State.loadEnergy (s : State) : State :=
  match s.journalLast with
  | none => (s.modLegal fun l => { l with jseq := 0, jpos := 0 }).bookEvent 0x02 0 (s.legal.time / 65536) 0
  | some (q, i) =>
    let bs := s.flashBytes (sectorBase 246 + 64 * i) 64
    let s1 := s.modLegal fun l =>
      { l with jseq := (q + 1) % 2 ^ 32, jpos := (i + 1) % 512, estimated := byteAt bs 3 == 0,
               energy := (List.range 6).map fun k => (leAt bs (8 + 8 * k) 8, 0) }
    s1.bookEvent 0x02 (leAt bs 56 4) (s.legal.time / 65536) (leAt bs 3 1)

/-- The start logic (R344, R346): the partition scanned, the image copied and checked, LCORE released with
its tables in island ROM (notes/assumptions/40.md); a cold start makes its POWER_UP record. -/
def State.islandStart (s : State) : State :=
  if s.legal.mstate ≠ 0 && !(s.legal.mstate = 5 && s.legal.held = 0) then s
  else
    let bl := s.bookLast
    let s1 := s.modLegal fun l => { l with bookNo := bl.1 }
    let s2 := (s1.paramLoad.finishCut bl.2).scanRecords
    let s3 := if s.legal.cold then s2.loadEnergy else s2
    let im := s3.loadImage
    let m := if !im.2 then 2 else if im.1.paramGoverning.isNone then 3 else 1
    let s4 := if s.legal.mstate = 5 then im.1.modLegal fun l => { l with held := m }
      else (im.1.setMstate m).modLegal fun l => { l with dsp := true }
    let s5 := ((((s4.setRg pLCORE 0x100 (wd (0x26000000 + 16 * (Config.islandTable % 505)))).setRg pLCORE 0x108 8).setRg
      pLCORE 0x10C 0).setRg pLCORE 0x124 (wd (0x26000000 + 128 * (Config.islandVectors % 64)))).setRg pLCORE 0x12C
      (wd (4 * (Config.islandEscape % 2048)))
    let s6 := s5.coreRelease 10
    let s7 := s6.modLegal fun l => { l with cold := false }
    if s.legal.cold && s7.recordsOn then (s7.makeRecord 4 [] (List.replicate 32 0) true).1 else s7

/-! ### Events -/

/-- LX32 or LPLL fails (R338). -/
def State.islandClockFault (s : State) : State :=
  let m := s.legal.mstate
  if m = 5 then s
  else ((s.modLegal fun l => { l with held := m, dsp := false }).setMstate 5).bookEvent 0x0A m 5 0

/-- Accumulation resumes (R338). -/
def State.islandClockResume (s : State) : State :=
  if s.legal.mstate = 5 then (s.setMstate s.legal.held).modLegal fun l => { l with dsp := true } else s

/-- An AFE fault. -/
def State.afeFault (s : State) : State :=
  let m := s.legal.mstate
  if m = 6 then s else (s.setMstate 6).bookEvent 0x0B m 6 0

/-- LEGAL_SEAL counts as asserted or released (R354). -/
def State.sealChange (s : State) (on : Bool) : State :=
  if s.legal.sealOn = on then s
  else ((s.modLegal fun l => { l with sealOn := on, lirq := l.lirq ||| 0x80 }).irq pLEGAL 1).bookEvent
    (if on then 0x07 else 0x08) 0 0 0

/-- An alarm notice makes an entry and nothing else (R335). -/
def State.takeNotice (s : State) : State :=
  match s.notices with
  | [] => s
  | n :: r => { s with notices := r }.bookEvent 0x09 0 0 n

/-- The LC input has changed (R361). -/
def State.lcNotice (s : State) : State :=
  if s.legal.lc = s.islandLc then s
  else (s.bookEvent 0x0E s.legal.lc s.islandLc 0).modLegal fun l => { l with lc := s.islandLc }

/-- A RECINT boundary (R360). -/
def State.periodicRecord (s : State) : State :=
  if s.legal.recint ≠ 0 && s.recordsOn then (s.makeRecord 0 [] (List.replicate 32 0) true).1 else s

/-- COMP and the temperature term applied over 10 s (R352): `temp` in 0.01 ppm. -/
def State.lrtcComp (s : State) (temp : Int) : State :=
  let l := s.legal
  let x := l.comp + (sext (s.rg pLRTC 0x114).toNat 32 + temp) * 65536
  let whole := x / 10000000
  s.modLegal fun l =>
    { l with time := ((l.time : Int) + whole).toNat % 2 ^ 64, comp := x - whole * 10000000 }

/-- LRTC counts with the island's crystal: `ns` nanoseconds pass (R352). -/
def LegalSt.tick (l : LegalSt) (ns : Nat) : LegalSt :=
  let x := l.frac + ns * 65536
  { l with time := (l.time + x / 1000000000) % 2 ^ 64, frac := x % 1000000000 }

/-! ### LCORE's writes (R342, R345, R354) -/

/-- The storing instruction of LCORE was fetched from island ROM. -/
def State.lcoreRom (s : State) : Bool :=
  let c := s.core 10
  let a := (c.seg 0).base + c.pc.toNat
  0x26000000 ≤ a && a ≤ 0x26001FFF

/-- A write of LRTC.SETCMD (R342, R352). -/
def State.lrtcSetcmd (s : State) (v : Word) : State :=
  if !s.lcoreRom then s.err pLRTC 3
  else if bitAt v 0 then
    s.setTime ((s.rg pLRTC 0x108).toNat + (s.rg pLRTC 0x10C).toNat * 2 ^ 32)
  else s

/-- A calibration or configuration register of pages 0x82 and 0x83 is written (R342, R354). -/
def State.calWrite (s : State) (pg off : Nat) (v : Word) : State :=
  if !s.lcoreRom || !s.legal.sealOn then s.err pg 3 else s.setRg pg off v

/-- An island flash command (R345): it waits for a boundary of channel 0; one for sectors 224–229 and
246–255 needs a ROM-marked store. -/
def State.lflCommand (s : State) (v : Word) : State :=
  let sec := fld (s.rg pLEGAL 0x204) 14 9
  let cmd := fld v 0 8
  if (sec ≤ 229 || 246 ≤ sec) && 224 ≤ sec && sec ≤ 255 && !s.lcoreRom then s.err pLEGAL 3
  else if s.legal.lfl.isSome then s
  else
    ((s.setRg pLEGAL 0x21C (wd (at' cmd 8 + 0x40000000))).modLegal fun l => { l with lfl := some cmd }).modFlash
      fun f => { f with islandReq := true }

/-- LFL_RESULT of a command that has ended. -/
def State.lflDone (s : State) (cmd code count : Nat) : State :=
  ((s.setRg pLEGAL 0x21C (wd (code + at' cmd 8 + at' count 16 + 0x80000000))).modLegal fun l =>
    { l with lfl := none, lirq := l.lirq ||| 0x100 }).modFlash fun f => { f with islandReq := false }

/-- The island's request is served at a boundary of channel 0 (R147): PROGRAM, ERASE_SECTOR or BLANK_CHECK. -/
def State.lflServe (s : State) : State :=
  match s.legal.lfl with
  | none => s
  | some cmd =>
    let off := fld (s.rg pLEGAL 0x204) 0 23
    let sec := off / 0x4000
    let w := off / 16
    if s.flashWaits 0x10380000 then s.flashWant 0x10380000
    else if !(cmd = 1 || cmd = 2 || cmd = 5) then s.lflDone cmd 13 0
    else if !(224 ≤ sec && sec ≤ 255) then s.lflDone cmd 5 0
    else if cmd = 1 then
      (if off % 16 ≠ 0 then s.lflDone 1 4 0
       else if s.pwr.vinLow then s.lflDone 1 7 0
       else if tget 3 s.flash.ws w ≠ 3 || s.flash.sectState sec = 1 then s.lflDone 1 1 0
       else
         (s.flashPut (0x10000000 + off)
           ((List.range 4).flatMap fun i => leBytes 4 (s.rg pLEGAL (0x208 + 4 * i)).toNat)).lflDone 1 0 0)
    else if cmd = 2 then (if s.pwr.vinLow then s.lflDone 2 7 0 else (s.flashWipe sec).lflDone 2 0 0)
    else
      match firstBelow 1024 fun i => tget 3 s.flash.ws (1024 * sec + i) != 3 with
      | some i => s.lflDone 5 10 i
      | none => s.lflDone 5 0 0

/-- A write of LCORE to offsets 0x200–0x3FF of page 0x80 (R345). -/
def State.lflWrite (s : State) (off : Nat) (v : Word) : State :=
  if off = 0x200 then s.lflCommand v
  else if off = 0x204 then s.setRg pLEGAL off (v &&& 0x7FFFFF)
  else if 0x208 ≤ off && off ≤ 0x214 then s.setRg pLEGAL off v
  else s

/-! ### The island's interrupt controller (R342) -/

/-- Levels of the twelve sources. -/
def State.lirqLevel (s : State) : Nat :=
  let l := s.legal
  flagAt l.lvwarn 0 + flagAt (l.mstate == 6) 1 + flagAt (l.mstate == 5) 2 + flagAt (s.irqLine pSTAVEL 1) 3 +
    flagAt (l.lirq.testBit 4) 4 + flagAt ((s.irqStat pSTAVEL &&& ~~~ (2 : Word)) != 0) 5 +
    flagAt (l.mb == 1) 6 + flagAt (l.lirq.testBit 7) 7 + flagAt (l.lirq.testBit 8) 8 +
    flagAt (s.notices != []) 9 + flagAt (l.lc != s.islandLc) 10

/-- Their fixed priorities. -/
def lirqPrio (i : Nat) : Nat := [15, 14, 13, 12, 10, 9, 8, 7, 6, 5, 4, 3].getD i 0

/-- The source presented to LCORE with its priority. -/
def State.lirqTop (s : State) : Option (Nat × Nat) :=
  (firstBelow 12 fun i => s.lirqLevel.testBit i && s.rbit pLCORE 0x144 i).map fun i => (lirqPrio i, i)

/-- LIRQ_LEVEL and LIRQ_PEND. -/
def State.lirqView (s : State) (off : Nat) : Option Nat :=
  if off = 0x140 then some s.lirqLevel
  else if off = 0x148 then
    some (match s.lirqTop with
      | some (p, i) => i + at' p 16 + 0x80000000
      | none => 0)
  else none

end Sys2Proof.Machine
end

