-- ==== Sys2Proof/Machine/StrmCtl.lean ====
section
/-!
DEFINITION. The stream port (R384–R399): its link and credits, flows, and the frames it seals and opens.
An arriving frame is an operand, byte for byte as the link delivered it.
-/
namespace Sys2Proof.Machine

def State.modStrm (s : State) (f : StrmSt → StrmSt) : State := { s with strm := f s.strm }

/-- Credits of a frame (R394). -/
def creditsOf (len : Nat) : Nat := (len + 255) / 256

/-- A frame with its header, padding, HCRC and FCS (R387). -/
def mkFrame (typ op flow bin seq credit : Nat) (body : List Byte) : List Byte :=
  let len := max 64 (body.length + 36)
  let h := [BitVec.ofNat 8 (typ + 0x10), BitVec.ofNat 8 op] ++ leBytes 2 flow ++ leBytes 2 len ++
    leBytes 2 bin ++ leBytes 8 seq ++ leBytes 2 body.length ++ leBytes 2 credit ++ List.replicate 8 0
  let f := h ++ leBytes 4 (crc32 h) ++ fitTo (len - 36) body
  f ++ leBytes 4 (crc32 f)

/-- A frame is sent: it carries the credits owed (R394). -/
def State.strmSend (s : State) (f : Nat → List Byte) : State :=
  let o := min 0xFFFF s.strm.owed
  s.modStrm fun t => { t with out := t.out ++ [f o], owed := t.owed - o, granted := t.granted + o }

/-- Waiting ERROR frames go as the partner's credits allow, one credit each (R394). -/
def State.strmErrs (s : State) : State :=
  s.strm.errs.foldl (fun (u : State) e =>
    if u.strm.credits = 0 then u
    else
      (u.modStrm fun t => { t with credits := t.credits - 1, errs := t.errs.drop 1 }).strmSend fun o =>
        mkFrame 3 (leAt e 1 1) (leAt e 2 2) (leAt e 6 2) (leAt e 8 8) o []) s

/-! ### Flows (R388, R389) -/

/-- A flow command completes. -/
def State.flowDone (s : State) (a code : Nat) : State :=
  (s.setArg a pSTRM 0x118 (wd (code + 0x80000000))).irq pSTRM 3

/-- A flow from its configuration words. -/
def flowOf (a : Nat) (c0 c1 : Word) : StrmFlow :=
  { mode := fld c0 0 2, unit := fld c0 4 1, inst := fld c0 8 7, key := fld c0 16 10,
    bin := fld c1 0 16, rflow := fld c1 16 12, agent := a }

/-- Reserved fields of the configuration words. -/
def flowReserved (c0 c1 : Word) : Bool :=
  fld c0 2 2 != 0 || fld c0 5 3 != 0 || fld c0 15 1 != 0 || fld c0 26 6 != 0 || fld c1 28 4 != 0

/-- The code ADD completes with, if any. A bin number that the arena does not back, which R16 and R252 answer with
NO_BACKING, has no code of its own in FLOW_RESULT (R388) and completes with BIN (DESIGN CHOICE;
notes/assumptions/75.md). -/
def State.flowRefuses (s : State) (n : Nat) (c0 c1 : Word) : Option Nat :=
  let f := flowOf 0 c0 c1
  let b := s.binRec f.bin
  if (tfind s.strm.flows n).isSome then some 1
  else if f.mode = 0 || f.mode = 3 || flowReserved c0 c1 then some 6
  else if b.st = .free || b.st = .lost || b.inst ≠ f.inst then some 3
  else if f.inst < 64 && fld (s.rg pSTRM (0x200 + 4 * f.inst)) 0 13 ≤ s.strm.used f.inst then some 4
  else none

/-- FLAGS.STREAM of a bin and its pin count changed. -/
def State.binStream (s : State) (b : Nat) (on : Bool) : State :=
  let r := s.binRec b
  if r.st = .free then s
  else
    let more := s.strm.flows.any fun e => e.2.bin == b
    let fl := (r.flags &&& 0xEF) + flagAt (on || more) 4
    let r1 := { r with flags := fl, pins := if on then r.pins + 1 else r.pins - 1 }
    ((s.setBin b { r1 with vis := if r1.vis = [] then [] else binVisible b r1 (binTwinSeq r1.vis) r1.vis }).touchBin
      b).noteBin b

/-- The pin of an ADD can be held now: the bin is hot and INST_PINS allows it (R262). -/
def State.flowPinReady (s : State) (f : StrmFlow) : Bool :=
  (s.binRec f.bin).st == .hot && !s.pinWaits f.bin f.inst

/-- The pin is held: the flow is configured. -/
def State.flowConfigure (s : State) (a n : Nat) (c0 c1 : Word) : State :=
  let f := flowOf a c0 c1
  ((s.modStrm fun t => { t with flows := tset t.flows n f }).binStream f.bin true).flowDone a 0

/-- ADD. -/
def State.flowAdd (s : State) (a n : Nat) : State :=
  let c0 := s.arg a pSTRM 0x10C
  let c1 := s.arg a pSTRM 0x110
  match s.flowRefuses n c0 c1 with
  | some c => s.flowDone a c
  | none =>
    let f := flowOf a c0 c1
    if (s.binRec f.bin).pins = 255 then s.flowDone a 3
    else if s.flowPinReady f then s.flowConfigure a n c0 c1
    else
      (((s.setArg a pSTRM 0x118 0x40000000).modStrm fun t =>
        { t with adds := t.adds ++ [{ agent := a, flow := n, cfg0 := c0, cfg1 := c1 }] }).binEnqueue
          { who := .flow n, cmd := 0, bin := f.bin } s.noFrame)

/-- A waiting pin is granted. -/
def State.flowPinGranted (s : State) : State :=
  match s.strm.adds.find? fun x => s.flowPinReady (flowOf x.agent x.cfg0 x.cfg1) with
  | none => s
  | some x =>
    let s1 := s.modStrm fun t => { t with adds := t.adds.filter (· != x) }
    let s2 := s1.modBin fun g => { g with waits := g.waits.filter fun w => w.who != .flow x.flow }
    match s2.flowRefuses x.flow x.cfg0 x.cfg1 with
    | some c => s2.flowDone x.agent c
    | none => s2.flowConfigure x.agent x.flow x.cfg0 x.cfg1

/-- A frame of a flow past step 2 of R390 remains. -/
def StrmSt.flowBusy (t : StrmSt) (bin agent : Nat) : Bool :=
  t.frames.any fun x => match x.flow with | some f => f.bin == bin && f.agent == agent | none => false

/-- Removals whose last frame has ended complete (R396). -/
def State.flowRetire (s : State) : State :=
  s.strm.removing.foldl (fun (u : State) e =>
    let f := e.2.2
    if u.strm.flowBusy f.bin f.agent then u
    else
      ((u.modStrm fun t => { t with removing := t.removing.filter (· != e) }).binStream f.bin false).flowDone
        e.1 0) s

/-- REMOVE (R396). -/
def State.flowRemove (s : State) (a n : Nat) : State :=
  match tfind s.strm.flows n with
  | none => s.flowDone a 2
  | some f =>
    ((s.setArg a pSTRM 0x118 0x40000000).modStrm fun t =>
      { t with flows := tdel t.flows n, removing := t.removing ++ [(a, n, f)] }).flowRetire

/-- READ. -/
def State.flowRead (s : State) (a n : Nat) : State :=
  match tfind s.strm.flows n with
  | none => s.flowDone a 2
  | some f =>
    ((s.setArg a pSTRM 0x10C (wd (f.mode + at' f.unit 4 + at' f.inst 8 + at' f.key 16))).setArg a pSTRM 0x110
      (wd (f.bin + at' f.rflow 16))).flowDone a 0

/-- A write of FLOW_CMD. -/
def State.flowCommand (s : State) (a : Nat) (v : Word) : State :=
  let n := fld (s.arg a pSTRM 0x108) 0 12
  if (s.strm.adds.any fun x => x.agent == a) || s.strm.removing.any fun e => e.1 == a then s.err pSTRM 16
  else if !(classOf a == .sys || classOf a == .keyd) then s.flowDone a 5
  else
    match fld v 0 4 with
    | 1 => s.flowAdd a n
    | 2 => s.flowRemove a n
    | 3 => s.flowRead a n
    | _ => s.flowDone a 6

/-! ### Serving a frame (R390–R393) -/

/-- A frame fails after step 2 of R390 (R392). -/
def State.strmFail (s : State) (x : StrmFrame) (code : Nat) : State :=
  let e := mkFrame 3 code (leAt x.bytes 2 2 % 4096) (leAt x.bytes 6 2) x.seq 0 []
  (((s.modStrm fun t => { t with errs := t.errs ++ [e] }).cnt pSTRM 0x13C).irq pSTRM 2).strmErrs

/-- A frame's last byte leaves the receive buffer: its credits are owed (R394). -/
def State.strmRelease (s : State) (x : StrmFrame) : State :=
  s.modStrm fun t => { t with owed := t.owed + creditsOf x.bytes.length, frames := t.frames.erase x }

/-- Steps 3 and 4 of R390: the code a frame fails with. -/
def frameRefuses (f : StrmFlow) (b : List Byte) : Option Nat :=
  let len := leAt b 4 2
  let plen := leAt b 16 2
  if len < 64 || 16384 < len || len < plen + 36 then some 1
  else if leAt b 6 2 ≠ f.bin then some 2
  else if leAt b 1 1 ≠ f.mode then some 3
  else if f.mode = 1 && 16384 < plen + 52 then some 1
  else if f.mode = 2 && plen < 16 then some 1
  else none

/-- Body bytes of the output. -/
def outPlen (f : StrmFlow) (plen : Nat) : Nat := if f.mode = 1 then plen + 16 else plen - 16

/-- COUNTER k of a bin. -/
def State.binCounter (s : State) (b k : Nat) : Nat := leAt (s.binRec b).vis (32 + 8 * k) 8

def State.setCounter (s : State) (b k v : Nat) : State :=
  let r := s.binRec b
  s.setBin b { r with vis := overlay r.vis (32 + 8 * k) (leBytes 8 v) }

/-- The replication record of R398, once in 2^RESV frames of a flow. -/
def State.strmNote (s : State) (n : Nat) (f : StrmFlow) : State :=
  let resv := 2 ^ max 8 (min 20 (fld (s.rg pSTRM 0x104) 16 5))
  let s1 := s.modStrm fun t =>
    { t with flows := if (tfind t.flows n).isSome then tset t.flows n { f with frames := f.frames + 1 }
                      else t.flows }
  if s.twinRepl && f.frames % resv = 0 then
    let r := s.binRec f.bin
    let vis := if f.mode = 1 then overlay r.vis 32 (leBytes 8 (s.binCounter f.bin 0 + resv)) else r.vis
    s1.noteChange 2 f.bin ([BitVec.ofNat 8 r.st.code, BitVec.ofNat 8 r.inst] ++ fitTo 160 vis)
  else s1

/-- Steps 5 and 6 for the frame at the head of those not yet served: credits reserved, SEQ taken. -/
def State.strmStart (s : State) (x : StrmFrame) (f : StrmFlow) : State :=
  let plen := leAt x.bytes 16 2
  let need := creditsOf (max 64 (outPlen f plen + 36))
  let put (u : State) (y : StrmFrame) : State :=
    u.modStrm fun t => { t with frames := t.frames.map fun z => if z == x then y else z }
  if s.strm.credits < need then put s { x with stage := 1, flow := some f }
  else if f.mode = 1 then
    let c := s.binCounter f.bin 0
    if c = 2 ^ 64 - 1 then (s.strmFail x 7).strmRelease x
    else
      let s1 := (s.setCounter f.bin 0 (c + 1)).modStrm fun t => { t with credits := t.credits - need }
      (put s1 { x with stage := 2, flow := some f, need := need, seq := c + 1 }).strmNote
        (leAt x.bytes 2 2 % 4096) f
  else
    put (s.modStrm fun t => { t with credits := t.credits - need })
      { x with stage := 2, flow := some f, need := need, seq := leAt x.bytes 8 8 }

/-- Steps 1–6 of R390 for one frame. -/
def State.strmLook (s : State) (x : StrmFrame) : State :=
  let b := x.bytes
  if leAt b 28 4 ≠ crc32 (b.take 28) then (s.cnt pSTRM 0x12C).strmRelease x
  else
    match tfind s.strm.flows (leAt b 2 2) with
    | none => (s.cnt pSTRM 0x128).strmRelease x
    | some f =>
      let s1 := (s.cnt pSTRM 0x144).modStrm fun t => { t with credits := t.credits + leAt b 18 2 }
      match frameRefuses f b with
      | some c => (s1.strmFail { x with seq := leAt b 8 8 } c).strmRelease x
      | none => s1.strmStart x f

/-- A DATA frame arrives (R390, R395): beyond the credits granted it is dropped; behind a held frame it
waits. -/
def State.strmData (s : State) (b : List Byte) : State :=
  if !s.strm.up then s
  else
    let n := creditsOf b.length
    if s.strm.granted < n then (s.cnt pSTRM 0x140).err pSTRM 17
    else
      let x : StrmFrame := { bytes := b }
      let held := s.strm.frames.any fun y => y.stage == 0 || y.stage == 1
      let s1 := s.modStrm fun t => { t with granted := t.granted - n, frames := t.frames ++ [x] }
      if held then s1 else s1.strmLook x

/-- Frames behind a held one are looked at in order until one is held again. -/
def State.strmNext (s : State) (fuel : Nat) : State :=
  match fuel with
  | 0 => s
  | k + 1 =>
    if s.strm.frames.any fun y => y.stage == 1 then s
    else
      match s.strm.frames.find? fun y => y.stage == 0 with
      | some x => (s.strmLook x).strmNext k
      | none => s

/-- A held output frame starts once the partner's credits cover it (R394). -/
def State.strmHeldStart (s : State) : State :=
  match s.strm.frames.find? fun y => y.stage == 1 with
  | none => s
  | some x =>
    match x.flow with
    | none => s
    | some f =>
      let t := s.strmStart x f
      if t.strm.frames.any fun y => y.stage == 1 then t
      else (t.modStrm fun u => { u with stall := false }).strmNext (t.strm.frames.length + 1)

/-- The window of R391: COUNTER1 and COUNTER2 after an accepted SEQ, none for a replay. -/
def replayWindow (seq top map : Nat) : Option (Nat × Nat) :=
  if seq > top then
    let d := seq - top
    some (seq, ((if d < 64 then map * 2 ^ d else 0) % 2 ^ 64) ||| 1)
  else
    let d := top - seq
    if d ≤ 63 && !map.testBit d then some (top, map ||| 2 ^ d) else none

/-- The output frame of a served frame, sent with the credits owed. -/
def State.strmDeliver (s : State) (x : StrmFrame) (f : StrmFlow) (body : List Byte) : State :=
  (s.strmSend fun o => mkFrame 1 (0x80 + f.mode) f.rflow f.bin x.seq o body).cnt pSTRM 0x148

/-- The key use of a frame (R389). -/
def State.strmKey (s : State) (f : StrmFlow) : UseVerdict :=
  let agent := if f.inst < 64 then 0x40 + f.inst else f.agent
  s.judgeUse agent f.inst f.key (pressType 5 1) (if f.mode = 1 then 0 else 1)

/-- A counted failure. -/
def State.strmCountFail (s : State) (x : StrmFrame) (code cnt : Nat) : State := (s.cnt pSTRM cnt).strmFail x code

/-- A frame sealed or opened under a key (R390, R391). -/
def State.strmCrypt (s : State) (x : StrmFrame) (f : StrmFlow) (key : List Byte) : State :=
  let b := x.bytes
  let plen := leAt b 16 2
  let body := (b.drop 32).take plen
  let salt := ((s.binRec f.bin).vis.drop 64).take 4
  let ptLen := if f.mode = 1 then plen else plen - 16
  let iv := salt ++ leBytes 8 x.seq
  let aad := leBytes 8 x.seq ++ leBytes 4 ptLen
  if f.mode = 1 then
    let c := gcmSeal key iv aad body
    s.strmDeliver x f (c.1 ++ c.2)
  else
    match gcmOpen key iv aad (body.take ptLen) (body.drop ptLen) with
    | none => s.strmCountFail x 4 0x134
    | some pt =>
      match replayWindow x.seq (s.binCounter f.bin 1) (s.binCounter f.bin 2) with
      | none => s.strmCountFail x 5 0x138
      | some (top, map) =>
        (((s.setCounter f.bin 1 top).setCounter f.bin 2 map).strmNote (leAt b 2 2 % 4096) f).strmDeliver x f pt

/-- The context of a frame on its Press unit (R189, R190, R389). -/
def flowCtx (f : StrmFlow) (mat : List Byte) : Ctx :=
  { mode := 5, alg := 1, dir := f.mode == 2, agent := if f.inst < 64 then 0x40 + f.inst else f.agent,
    inst := f.inst, key := f.key, mats := some (mat, []) }

/-- The segments of frames that have ended leave PRESS2 and PRESS3. -/
def State.flowWorkEnd (s : State) : State :=
  let runs (w : OwnWork) : Bool :=
    match w with
    | .flow n => !(s.strm.frames.any fun y => y.stage == 3 && leAt y.bytes 2 2 == n)
    | _ => false
  [2, 3].foldl (fun (t : State) u =>
    let gone := (t.unit u).segs.filter fun g => g.own.any runs
    let t1 := if (t.unit u).wants.any runs then
        t.modUnit u fun x => { x with wants := x.wants.filter fun w => !runs w }
      else t
    gone.foldl (fun (v : State) g => match g.own with | some w => v.ownDrop w | none => v) t1) s

/-- A whole frame is one segment on its flow's unit (R190, R389): it is sealed or opened once the unit has run it, and
waits in the receive buffer until then. `fault` is a mismatch in it (R207). A key dropped meanwhile is asked for anew
(R204), and its use is judged anew. -/
def State.strmRun (s : State) (x : StrmFrame) (f : StrmFlow) (fault : Bool) : State :=
  let n := leAt x.bytes 2 2
  let y := { x with stage := 3 }
  if (s.ownAt (.flow n)).isNone && s.strmKey f ≠ .ok then
    (((s.strmFail x 6).strmRelease x).flowWorkEnd.flowRetire).strmNext (s.strm.frames.length + 1)
  else
  let s1 := s.modStrm fun t => { t with frames := t.frames.map fun z => if z == x then y else z }
  let r := s1.ownRun (.flow n) [2 + f.unit] (flowCtx f (s.slotMat f.key)) (leAt x.bytes 16 2) fault
  let fin (t : State) : State := ((t.strmRelease y).flowRetire).strmNext (s.strm.frames.length + 1)
  match r.2 with
  | .waits => r.1
  | .fault => fin (r.1.strmFail y 9)
  | .ran (some m) => fin (r.1.strmCrypt y f m)
  | .ran none => fin (if r.1.strmKey f ≠ .ok then r.1.strmFail y 6 else r.1.strmCrypt y f (r.1.slotMat f.key))

/-- The input's terminate block arrives for the oldest served frame of a flow (R392, R393); `fault` that the
unit's own check failed (R207). Frames of a flow are served one at a time (R391). -/
def State.strmEnd (s : State) (n : Nat) (fault : Bool) : State :=
  match s.strm.frames.find? fun y => 2 ≤ y.stage && leAt y.bytes 2 2 == n with
  | none => s
  | some x =>
    match x.flow with
    | none => s
    | some f =>
      let b := x.bytes
      let len := leAt b 4 2
      let fin (t : State) : State := ((t.strmRelease x).flowRetire).strmNext (s.strm.frames.length + 1)
      if x.stage = 3 then s.strmRun x f fault
      else if b.length ≠ len then fin (s.strmCountFail x 1 0x124)
      else if leAt b (len - 4) 4 ≠ crc32 (b.take (len - 4)) then fin (s.strmCountFail x 8 0x130)
      else if s.strmKey f ≠ .ok then fin (s.strmFail x 6)
      else if (s.binRec f.bin).st = .lost then fin (s.strmFail x 10)
      else s.strmRun x f fault

/-- Frames that wait for their Press unit go on, in the order of their arrival (R190). -/
def State.strmServe (s : State) : State :=
  (s.strm.frames.filter fun y => y.stage == 3).foldl (fun (t : State) x =>
    if t.strm.frames.contains x then
      match x.flow with
      | some f => t.strmRun x f false
      | none => t
    else t) s

/-! ### Link and credits -/

/-- A CREDIT frame is sent (R387, R394). -/
def State.strmCredit (s : State) : State := s.strmSend fun o => mkFrame 2 0 0 0 0 o []

/-- All four lanes are aligned (R386). -/
def State.strmUp (s : State) : State :=
  if !s.en pSTRM || s.strm.up || !s.pdOn 37 then s
  else
    ((s.modStrm fun t => { t with up := true, owed := 256, granted := 0, credits := 0 }).irq pSTRM 0).strmCredit

/-- The link goes down: frames in flight end, credits return to zero (R386). -/
def State.strmDown (s : State) : State :=
  (s.modStrm fun t =>
    { t with up := false, credits := 0, owed := 0, granted := 0, frames := [], errs := [], stall := false }).flowRetire.flowWorkEnd

/-- Alignment lost for 4 µs (R386). -/
def State.strmLost (s : State) : State :=
  if s.strm.up then (s.strmDown.err pSTRM 18).irq pSTRM 0 else s

/-- A CREDIT frame arrives (R394). -/
def State.strmCreditIn (s : State) (b : List Byte) : State :=
  if !s.strm.up then s
  else if leAt b 28 4 ≠ crc32 (b.take 28) then s.cnt pSTRM 0x12C
  else (s.modStrm fun t => { t with credits := t.credits + leAt b 18 2 }).strmErrs

/-- Owed credits are returned in a CREDIT frame; `due` that 1 µs has passed (R394). -/
def State.strmReturn (s : State) (due : Bool) : State :=
  if s.strm.up && 0 < s.strm.owed && (due || 16 ≤ s.strm.owed) then s.strmCredit else s

/-- A frame has been held for CRED_TO (R395). -/
def State.strmStall (s : State) : State :=
  if s.strm.frames.any fun y => y.stage == 1 then
    (s.modStrm fun t => { t with stall := true }).irq pSTRM 1
  else s

/-! ### Teardown and resets (R397, R399) -/

/-- ADDs of an instance that wait for their pin complete with BIN: its bins are about to be freed. -/
def State.strmAddsEnd (s : State) (nn : Nat) : State :=
  let mine := s.strm.adds.filter fun x => (flowOf 0 x.cfg0 x.cfg1).inst == nn
  let s1 := (s.modStrm fun t => { t with adds := t.adds.filter fun x => (flowOf 0 x.cfg0 x.cfg1).inst != nn }).modBin
    fun g => { g with waits := g.waits.filter fun w => !(mine.any fun x => w.who == .flow x.flow) }
  mine.foldl (fun (t : State) x => t.flowDone x.agent 3) s1

/-- Every flow of an instance is removed at once; its running frames end GONE. -/
def State.strmDrain (s : State) (nn : Nat) : State :=
  let mine := s.strm.flows.filter fun e => e.2.inst == nn
  let gone := s.strm.frames.filter fun x => match x.flow with | some f => f.inst == nn | none => false
  let s1 := (s.strmAddsEnd nn).modStrm fun t => { t with flows := t.flows.filter fun e => e.2.inst != nn }
  let s2 := (gone.foldl (fun (u : State) x => (u.strmFail x 11).strmRelease x) s1).flowWorkEnd
  ((mine.foldl (fun (u : State) e => u.binStream e.2.bin false) s2).flowRetire).strmNext
    (s.strm.frames.length + 1)

/-- A block reset: the link down, every flow removed, its bin unpinned. -/
def State.strmBlockReset (s : State) : State :=
  let bins := s.strm.flows.map (·.2.bin) ++ s.strm.removing.map (·.2.2.bin)
  let s1 := (s.modStrm fun _ => {}).flowWorkEnd
  bins.foldl (fun (u : State) b => u.binStream b false) s1

/-- A warm or cold reset. -/
def State.strmReset (s : State) : State := (s.modStrm fun _ => {}).flowWorkEnd

/-- PD37 may be switched off (R384). -/
def State.strmIdle (s : State) : Bool := !s.en pSTRM && s.strm.flows == []

end Sys2Proof.Machine
end

