-- ==== Sys2Proof/Machine/HostCtl.lean ====
section
/-!
DEFINITION. The host interface and the virtual instances (R365–R383): the mediator, queues and doorbells,
DMA, teardown, and the PCIe link. What the host's memory answers is an operand of the commands.
-/
namespace Sys2Proof.Machine

def State.modHost (s : State) (f : HostSt → HostSt) : State := { s with host := f s.host }

def State.modInst (s : State) (nn : Nat) (f : InstSt → InstSt) : State :=
  s.modHost fun h => { h with insts := tset h.insts nn (f (tget {} h.insts nn)) }

/-! ### Instance-table records (R369, R431) -/

/-- The body of an INSTANCE record: state, PASID, CFG, RING, the queue blocks, ARG1–ARG5. -/
def State.instBody (s : State) (nn : Nat) : List Byte :=
  let pg := pINST nn
  let w (off : Nat) : List Byte := leBytes 4 (s.rg pg off).toNat
  leBytes 4 (s.inst nn).st ++ w 0x104 ++ w 0x100 ++ w 0x108 ++ w 0x10C ++
    ((List.range 8).flatMap fun q => (List.range 5).flatMap fun k => w (0x300 + 0x20 * q + 4 * k)) ++
    ((List.range 5).flatMap fun k => leBytes 4 ((s.inst nn).args.getD (k + 1) 0).toNat)

def State.noteInst (s : State) (nn : Nat) : State := s.noteChange 3 nn (s.instBody nn)

/-- An instance changes state. -/
def State.setInstSt (s : State) (nn st : Nat) : State := (s.modInst nn fun i => { i with st := st }).noteInst nn

/-! ### Messages to the host (R376, R379) -/

/-- A posted request leaves. -/
def State.hostPost (s : State) (pasid : Option Nat) (addr : Nat) (data : List Byte) : State :=
  s.modHost fun h => { h with out := h.out ++ [{ pasid := pasid, addr := addr, data := data }] }

/-- MSI-X vector: sent, or pending while masked. -/
def State.msix (s : State) (vec : Nat) : State :=
  let w (k : Nat) : Nat := (tget (if k = 3 then 1 else 0) s.host.msix (4 * vec + k)).toNat
  if w 3 % 2 = 1 then s.modHost fun h => { h with pba := if h.pba.contains vec then h.pba else vec :: h.pba }
  else s.hostPost none (w 0 + w 1 * 2 ^ 32) (leBytes 4 (w 2))

/-- The PASID of an instance. -/
def State.instPasid (s : State) (nn : Nat) : Nat := fld (s.rg (pINST nn) 0x104) 0 20

/-! ### DMA (R377, R378) -/

def DmaRun.len (d : DmaRun) : Nat := leAt d.desc 4 4
def DmaRun.irq (d : DmaRun) : Bool := (byteAt d.desc 1).getLsbD 0
def DmaRun.order (d : DmaRun) : Bool := (byteAt d.desc 1).getLsbD 1

/-- RESULT and DONE_LEN written with the submitter's ID, RESULT last; then the interrupt. -/
def State.dmaResult (s : State) (d : DmaRun) (code moved : Nat) : State :=
  let s1 := (s.engWrite d.agent (d.addr + 28) (leBytes 4 moved)).st
  let s2 := (s1.engWrite d.agent (d.addr + 24) (leBytes 4 (code + 0x80000000))).st
  if d.irq then s2.irq pHOST 1 else s2

/-- FORMAT of a descriptor. -/
def DmaRun.bad (d : DmaRun) : Bool :=
  1 < leAt d.desc 0 1 || 4 ≤ leAt d.desc 1 1 || (64 ≤ d.inst && d.inst != 0x7F) || byteAt d.desc 3 != 0 ||
    d.len = 0 || 16777216 < d.len || 2 ^ 40 ≤ leAt d.desc 16 8

/-- The code a descriptor is refused with at submission (R378). -/
def State.dmaRefuses (s : State) (d : DmaRun) : Option Nat :=
  if d.bad then some 1
  else if d.inst < 64 && !(classOf d.agent == .sys || classOf d.agent == .keyd) then some 9
  else if d.inst < 64 && (s.inst d.inst).st ≠ 2 then some 2
  else none

/-- Queued descriptors start, oldest first, up to 16 at once; one with ORDER waits for the earlier ones of
its instance. -/
def State.dmaStart (s : State) (fuel : Nat) : State :=
  match fuel with
  | 0 => s
  | k + 1 =>
    if 16 ≤ (s.host.running.filter fun d => !d.squashed).length || s.tamp.halted then s
    else
      match s.host.queue with
      | [] => s
      | d :: r =>
        if d.order && s.host.running.any fun x => x.inst == d.inst && !x.squashed then s
        else if s.host.link.isNone then
          ((s.modHost fun h => { h with queue := r }).dmaResult d 7 0).dmaStart k
        else (s.modHost fun h => { h with queue := r, running := h.running ++ [d] }).dmaStart k

/-- A submitted descriptor is fetched as its submitter (R377, R194): what is to be queued. One that cannot be
fetched is dropped. -/
def State.dmaFetch (s : State) (d : DmaRun) : State × List DmaRun :=
  let x := s.engRead d.agent d.addr 32
  let g := { d with desc := x.data }
  if x.fault ≠ .none then (x.st, [])
  else
    match x.st.dmaRefuses g with
    | some c => (x.st.dmaResult g c 0, [])
    | none => (x.st, [g])

/-- A descriptor joins the queue. -/
def State.dmaQueue (s : State) (d : DmaRun) : State := s.modHost fun h => { h with queue := h.queue ++ [d] }

/-- A write of DMA_SUBMIT (R377, R194). While HALT is in force its fetch waits (R443). -/
def State.dmaSubmit (s : State) (a : Nat) (v : Word) : State :=
  let code :=
    if fld v 0 5 ≠ 0 then 2 else if !s.en pHOST then 3 else if 256 ≤ s.host.queue.length then 1 else 0
  let s1 := s.setArg a pHOST 0x118 (wd (code + 0x80000000))
  if code ≠ 0 then s1
  else
    let d : DmaRun := { addr := v.toNat + fld (s.arg a pHOST 0x110) 0 8 * 2 ^ 32, agent := a, desc := [] }
    if s.tamp.halted then s1.dmaQueue d
    else
      match s1.dmaFetch d with
      | (t, g :: _) => (t.dmaQueue g).dmaStart 257
      | (t, []) => t

/-- HALT ends: what was submitted meanwhile is fetched, and descriptors start again (R443). -/
def State.dmaResume (s : State) : State :=
  (s.host.queue.foldl (fun (t : State) d =>
    if d.desc = [] then
      (match t.dmaFetch d with
       | (u, g :: _) => u.dmaQueue g
       | (u, []) => u)
    else t.dmaQueue d)
    (s.modHost fun h => { h with queue := [] })).dmaStart 257

/-- The code of a device-side access that failed. -/
def dmaFault : BusFault → Nat
  | .data | .parity => 4
  | _ => 3

/-- The agent of a descriptor's device side. -/
def DmaRun.side (d : DmaRun) : Nat := if d.inst < 64 then 0x40 + d.inst else d.agent

/-- A running descriptor ends (R378): `data` is what the host delivered, `ok` that it answered without UR or
CA. The late completion of a squashed descriptor is discarded. -/
def State.dmaComplete (s : State) (k : Nat) (data : List Byte) (ok : Bool) : State :=
  match s.host.running[k]? with
  | none => s
  | some d =>
    if s.tamp.halted then s else
    let s1 := s.modHost fun h => { h with running := h.running.eraseIdx k }
    if d.squashed then s1
    else
      let haddr := leAt d.desc 8 8
      let daddr := leAt d.desc 16 5
      let s2 :=
        if d.reads then
          let bs := if ok then fitTo d.len data else data.take d.len
          let x := s1.engWrite d.side daddr bs
          if x.fault ≠ .none then x.st.dmaResult d (dmaFault x.fault) (bs.length - x.data.length)
          else x.st.dmaResult d (if ok then 0 else 5) bs.length
        else
          let x := s1.engRead d.side daddr d.len
          let y := x.st.hostPost (if d.inst < 64 then some (s.instPasid d.inst) else none) haddr x.data
          if x.fault ≠ .none then y.dmaResult d (dmaFault x.fault) x.data.length
          else y.dmaResult d 0 d.len
      s2.dmaStart 257

/-- What a running descriptor had moved when it is cut short: `got` is what the host had delivered of a read, and its
length how many bytes of a write had left. -/
def State.dmaPart (s : State) (d : DmaRun) (got : List Byte) : State × Nat :=
  let bs := got.take d.len
  let daddr := leAt d.desc 16 5
  if bs.isEmpty then (s, 0)
  else if d.reads then
    let x := s.engWrite d.side daddr bs
    (x.st, if x.fault = .none then bs.length else bs.length - x.data.length)
  else
    let x := s.engRead d.side daddr bs.length
    (x.st.hostPost (if d.inst < 64 then some (s.instPasid d.inst) else none) (leAt d.desc 8 8) x.data, x.data.length)

/-- A running descriptor ends with a code before its end. -/
def State.dmaCut (s : State) (d : DmaRun) (code : Nat) (got : List Byte) : State :=
  let r := s.dmaPart d got
  r.1.dmaResult d code r.2

/-- Descriptors cut short in order, with what each had moved. -/
def State.dmaCuts (s : State) (code : Nat) (ds : List DmaRun) (got : List (List Byte)) (count : Bool) : State :=
  match ds with
  | [] => s
  | d :: r =>
    let t := s.dmaCut d code (got.headD [])
    (if count then t.cnt pHOST 0x120 else t).dmaCuts code r got.tail count

/-- A host read exceeds CPL_TO. -/
def State.dmaTimeout (s : State) (k : Nat) (got : List Byte) : State :=
  match s.host.running[k]? with
  | none => s
  | some d =>
    if !d.reads || s.tamp.halted then s
    else
      let s1 := s.modHost fun h => { h with running := h.running.eraseIdx k }
      (if d.squashed then s1 else s1.dmaCut d 6 got).dmaStart 257

/-! ### The mediator (R370–R373) -/

/-- The mediator's command completes. -/
def State.medDone (s : State) (cmd code : Nat) (rsp : List Word) : State :=
  let s1 := (List.range 8).foldl (fun (t : State) i => t.setRg pHOST (0x82C + 4 * i) (rsp.getD i 0)) s
  ((s1.setRg pHOST 0x828 (wd (code + at' cmd 8 + 0x80000000))).modHost fun h => { h with med := none }).msix 0

/-- The lowest FREE instance. -/
def State.freeInst (s : State) : Option Nat := firstBelow 64 fun nn => (s.inst nn).st == 0

def State.medArg (s : State) (i : Nat) : Word := s.rg pHOST (0x804 + 4 * i)

/-- The Press and digest units report an instance drained (R209, R225, R380 step 2), once every clearing has had its draw. -/
def State.instDrain (s : State) (nn : Nat) : State :=
  let i := s.inst nn
  if !(i.st = 3 || i.st = 4) || i.drained then s
  else
    let r := s.unitsDrain nn
    if r.2 then r.1.modInst nn fun i => { i with drained := true } else r.1

/-- T0 of a teardown (R380): RESETTING (3) or REMOVING (4). Press and digest units drain, the key store, the
RNG and the stream port follow; queued descriptors end SQUASHED. -/
def State.teardown (s : State) (nn st : Nat) : State :=
  let s1 := (s.modInst nn fun i =>
    { i with drained := false, binsDone := false, limit := false, slots := s.instSlots nn }).setInstSt nn st
  let s2 := (((s1.instDrain nn).zeroizeInst nn).rngDrop nn).strmDrain nn
  let gone := s2.host.queue.filter fun d => d.inst == nn
  let s3 := s2.modHost fun h => { h with queue := h.queue.filter fun d => d.inst != nn }
  let s4 := gone.foldl (fun (t : State) d => (t.dmaResult d 8 0).cnt pHOST 0x120) s3
  s4.dmaStart 257

/-- A removal meets an instance: a teardown under way turns into it (R382). -/
def State.removeInst (s : State) (nn : Nat) : State :=
  let st := (s.inst nn).st
  if st = 3 then s.setInstSt nn 4
  else if st = 4 || st = 0 then s
  else s.teardown nn 4

/-- CREATE (R371). -/
def State.medCreate (s : State) : State :=
  let q := fld (s.medArg 4) 0 4
  match s.freeInst with
  | none => s.medDone 1 1 []
  | some nn =>
    if s.role ≠ 2 || q < 1 || 8 < q then s.medDone 1 1 []
    else
      let args := (List.range 6).map s.medArg
      ((((s.modInst nn fun i => { i with args := args }).setInstSt nn 1).setRg pHOST 0x82C (wd nn)).modHost fun h =>
        { h with med := some { cmd := 1, inst := nn } }).irq pHOST 0

/-- REMOVE. -/
def State.medRemove (s : State) : State :=
  let nn := fld (s.medArg 0) 0 6
  if (s.inst nn).st = 0 then s.medDone 2 3 []
  else (s.modHost fun h => { h with med := some { cmd := 2, inst := nn } }).removeInst nn

/-- RESET. -/
def State.medReset (s : State) : State :=
  let nn := fld (s.medArg 0) 0 6
  let st := (s.inst nn).st
  let s1 := s.modHost fun h => { h with med := some { cmd := 3, inst := nn } }
  if st = 2 then s1.teardown nn 3 else if st = 3 then s1 else s.medDone 3 3 []

/-- QUERY. -/
def State.medQuery (s : State) : State :=
  let i := s.inst (fld (s.medArg 0) 0 6)
  s.medDone 4 0 (wd i.st :: i.args.drop 1)

/-- A write of MED_DOOR (R370). -/
def State.medDoor (s : State) (v : Word) : State :=
  if !bitAt v 0 then s
  else if s.host.med.isSome then s.err pHOST 16
  else
    match fld (s.rg pHOST 0x800) 0 8 with
    | 1 => s.medCreate
    | 2 => s.medRemove
    | 3 => s.medReset
    | 4 => s.medQuery
    | c => s.medDone c 5 []

/-- Writes of the mediator window. -/
def State.medWrite (s : State) (off : Nat) (v : Word) : State :=
  if off = 0x824 then s.medDoor v
  else if s.host.med.isSome then s.err pHOST 16
  else s.setRg pHOST off (if off = 0x800 then v &&& 0xFF else v)

/-- The queue blocks pass the checks of R374. -/
def State.queuesOk (s : State) (nn : Nat) : Bool :=
  let pg := pINST nn
  let n := fld (s.rg pg 0x100) 0 4
  1 ≤ n && n ≤ 8 && (List.range n).all fun q =>
    let c := s.rg pg (0x310 + 0x20 * q)
    bitAt c 31 && 4 ≤ fld c 0 4 && fld c 0 4 ≤ 12 && 4 ≤ fld c 8 4 && fld c 8 4 ≤ 12 &&
      fld (s.rg pg (0x300 + 0x20 * q)) 0 12 == 0 && fld (s.rg pg (0x308 + 0x20 * q)) 0 12 == 0

/-- An OK that may be accepted (R372). -/
def State.createOk (s : State) (nn : Nat) : Bool :=
  s.rbit (pINST nn) 0x104 31 && s.queuesOk nn &&
    !((List.range 64).any fun m => m != nn && (s.inst m).st != 0 && s.instPasid m == s.instPasid nn)

/-- A CREATE is refused or has timed out: the instance enters REMOVING, and the code is kept. -/
def State.createFail (s : State) (nn code : Nat) : State :=
  (s.modHost fun h => { h with med := h.med.map fun m => { m with code := code } }).removeInst nn

/-- A write of FW_ANSWER (R372, R373). -/
def State.fwAnswer (s : State) (v : Word) : State :=
  let nn := fld v 8 6
  if (s.inst nn).st ≠ 1 then s.err pHOST 17
  else if fld v 0 2 = 0 && s.createOk nn then (s.setInstSt nn 2).medDone 1 0 [wd nn]
  else s.createFail nn (if fld v 0 2 = 1 then 1 else 2)

/-- MED_TO expires without an answer (R373). -/
def State.createTimeout (s : State) : State :=
  match s.host.med with
  | some m => if m.cmd = 1 && (s.inst m.inst).st = 1 then s.createFail m.inst 4 else s
  | none => s

/-! ### Teardown (R380, R381) -/

/-- T0 + 100 µs: descriptors still running are squashed; `got` is what each had moved. -/
def State.drainLimit (s : State) (nn : Nat) (got : List (List Byte)) : State :=
  let st := (s.inst nn).st
  if !(st = 3 || st = 4) || (s.inst nn).limit then s
  else
    let mine := s.host.running.filter fun d => d.inst == nn && !d.squashed
    let s1 := s.modHost fun h =>
      { h with running := (h.running.filter fun d => d.inst != nn || d.squashed || d.reads).map fun d =>
          if d.inst == nn then { d with squashed := true } else d }
    let s2 := s1.dmaCuts 8 mine got true
    (s2.modInst nn fun i => { i with limit := true }).dmaStart 257

/-- The bin store clears a drained instance's bins and reports (R269, R380 step 3). -/
def State.instBins (s0 : State) (nn : Nat) : State :=
  let s := s0.instDrain nn
  let i := s.inst nn
  if (i.st = 3 || i.st = 4) && i.drained && !i.binsDone then
    let t := s.binInstanceClear nn
    if t.bin.scrubs.any fun x => x.inst == nn then t else t.modInst nn fun i => { i with binsDone := true }
  else s

/-- Doorbells, heads, tails and phases of an instance page at zero; its configuration too in a removal. -/
def State.instClear (s : State) (nn : Nat) (config : Bool) : State :=
  let lo := rkey (pINST nn) 0
  let gone (k : Nat) : Bool :=
    lo ≤ k && k < lo + 0x1000 &&
      (let o := k - lo
       (0x200 ≤ o && o ≤ 0x23C) || (0x300 ≤ o && o < 0x400 && (config || 0x14 ≤ o % 0x20)) ||
         (config && 0x100 ≤ o && o ≤ 0x10C))
  { s with regs := tdrop s.regs fun k _ => gone k }

/-- The device rings and the pending MSI-X bits of an instance cleared (R380 step 5). -/
def State.instRings (s : State) (nn : Nat) : State :=
  let pg := pINST nn
  let base := (s.rg pg 0x108).toNat + fld (s.rg pg 0x10C) 0 8 * 2 ^ 32
  let s1 := (List.range (fld (s.rg pg 0x100) 0 4)).foldl (fun (t : State) q =>
    let n := 64 * 2 ^ fld (s.rg pg (0x310 + 0x20 * q)) 0 4
    (t.engWrite (0x40 + nn) (base + q * 0x40000) (List.replicate n 0)).st) s
  s1.modHost fun h => { h with pba := h.pba.filter fun v => !(16 + 4 * nn ≤ v && v < 20 + 4 * nn) }

/-- MED_RSP at zero (R381). -/
def State.medRspClear (s : State) : State :=
  (List.range 8).foldl (fun (t : State) i => t.setRg pHOST (0x82C + 4 * i) 0) s

/-- RESET_DONE (R381): the reports are in, its zeroized slots have left nothing behind (R187), and INFLIGHT is zero. -/
def State.instResetDone (s0 : State) (nn : Nat) : State :=
  let s := s0.keyScrub
  let i := s.inst nn
  if !((i.st = 3 || i.st = 4) && i.drained && i.binsDone && s.slotsGone i.slots && s.inflight nn = 0) then s
  else
    let removal := i.st == 4
    let s1 := (s.instRings nn).instClear nn removal
    let s2 := s1.modHost fun h => { h with insts := tset h.insts nn (if removal then {} else
      { i with drained := false, binsDone := false, limit := false, stopped := [], slots := [] }) }
    let s3 := ((if removal then s2.medRspClear else s2).setInstSt nn (if removal then 0 else 2)).irq (pINST nn) 1
    let s4 := match s3.host.med with
      | some m =>
        if m.inst = nn then
          s3.medDone m.cmd (if m.cmd = 3 then (if removal then 3 else 0) else if m.cmd = 1 then m.code else 0) []
        else s3
      | none => s3
    if s4.host.flr && (List.range 64).all fun k => (s4.inst k).st == 0 then
      (s4.pageWarm pHOST).modHost fun h => { h with flr := false }
    else s4

/-- CTRL.SRST of an instance page (R382). -/
def State.instSrst (s : State) (a nn : Nat) : State :=
  if !(classOf a == .sys || classOf a == .keyd) then s
  else if (s.inst nn).st = 2 then s.teardown nn 3
  else s

/-! ### Queues (R374–R376) -/

/-- A doorbell (R375, R380). -/
def State.doorbell (s : State) (nn q : Nat) (tail : Bool) (v : Word) : State :=
  let pg := pINST nn
  let c := s.rg pg (0x310 + 0x20 * q)
  let st := (s.inst nn).st
  if st = 3 || st = 4 then s.cnt pg 0x114
  else if 2 ^ (if tail then fld c 0 4 else fld c 8 4) ≤ v.toNat then s.err pg 16
  else s.setRg pg (0x200 + 8 * q + (if tail then 0 else 4)) v

/-- Ring slots that may be filled from SQHEAD. -/
def State.sqWork (s : State) (nn q : Nat) : Nat :=
  let pg := pINST nn
  let o := 0x20 * q
  let size := 2 ^ fld (s.rg pg (0x310 + o)) 0 4
  let head := (s.rg pg (0x314 + o)).toNat
  let tail := (s.rg pg (0x200 + 8 * q)).toNat
  let fw := (s.rg pg (0x31C + o)).toNat
  if (s.inst nn).st ≠ 2 || fld (s.rg pg 0x100) 0 4 ≤ q || (s.inst nn).stopped.contains q then 0
  else min 8 (min ((tail + size - head) % size) ((fw + size - head - 1) % size))

/-- The next queue in round-robin order that has work. -/
def State.sqNext (s : State) : Option Nat :=
  ((List.range 512).map fun i => (s.host.next + i) % 512).find? fun k => s.sqWork (k / 8) (k % 8) != 0

/-- Entries written to the ring one after another; the count written. -/
def State.sqStore (s : State) (nn q : Nat) (es : List (List Byte)) (n : Nat) : State × Nat :=
  match es with
  | [] => (s, n)
  | e :: r =>
    let pg := pINST nn
    let size := 2 ^ fld (s.rg pg (0x310 + 0x20 * q)) 0 4
    let head := (s.rg pg (0x314 + 0x20 * q)).toNat
    let base := (s.rg pg 0x108).toNat + fld (s.rg pg 0x10C) 0 8 * 2 ^ 32 + q * 0x40000
    let x := s.engWrite (0x40 + nn) (base + 64 * ((head + n) % size)) (fitTo 64 e)
    if x.fault = .none then x.st.sqStore nn q r (n + 1) else (x.st, n)

/-- A burst of submission entries is fetched (R375): `data` is what the host delivered, none for a failed
read. -/
def State.sqFetch (s : State) (data : Option (List Byte)) : State :=
  if s.host.link.isNone then s
  else
    match s.sqNext with
    | none => s
    | some k =>
      let nn := k / 8
      let q := k % 8
      let pg := pINST nn
      let n := s.sqWork nn q
      let s0 := s.modHost fun h => { h with next := (k + 1) % 512 }
      let stop (t : State) : State := (t.modInst nn fun i => { i with stopped := q :: i.stopped }).err pg 17
      match data with
      | none => stop s0
      | some bs =>
        let es := (List.range n).map fun i => (bs.drop (64 * i)).take 64
        let r := s0.sqStore nn q es 0
        let size := 2 ^ fld (s.rg pg (0x310 + 0x20 * q)) 0 4
        let s1 := r.1.modRg pg (0x314 + 0x20 * q) fun h => wd ((h.toNat + r.2) % size)
        let s2 := if r.2 = 0 then s1 else s1.irq pg 0
        if r.2 < n then stop s2 else s2

/-- A write of CPL_POST (R376). -/
def State.cplPost (s : State) (a nn : Nat) (v : Word) : State :=
  let pg := pINST nn
  let q := fld v 0 3
  let o := 0x20 * q
  let cfg := s.rg pg (0x310 + o)
  let size := 2 ^ fld cfg 8 4
  let t := s.rg pg (0x318 + o)
  let tail := fld t 0 12
  let done (u : State) (c : Nat) : State := u.setArg a pg 0x414 (wd (c + 0x80000000))
  if !(classOf a == .sys || classOf a == .keyd) then s.err pg 3
  else if (s.inst nn).st ≠ 2 then done s 2
  else if s.host.link.isNone then done s 3
  else if fld (s.rg pg 0x100) 0 4 ≤ q then done s 4
  else if (tail + 1) % size = (s.rg pg (0x204 + 8 * q)).toNat % size then done s 1
  else
    let w (i : Nat) : Nat := (s.arg a pg (0x400 + 4 * i)).toNat
    let phase := b01 (!bitAt t 16)
    let e := leBytes 4 (w 0) ++ leBytes 4 (w 1) ++ leBytes 2 (s.rg pg (0x314 + o)).toNat ++ leBytes 2 q ++
      leBytes 2 (w 2) ++ leBytes 2 (w 3 / 2 * 2 + phase)
    let base := (s.rg pg (0x308 + o)).toNat + (s.rg pg (0x30C + o)).toNat * 2 ^ 32
    let s1 := s.hostPost (some (s.instPasid nn)) (base + 16 * tail) e
    let s2 := s1.setRg pg (0x318 + o)
      (wd ((tail + 1) % size + flagAt (xor (bitAt t 16) (tail + 1 == size)) 16))
    let s3 := if bitAt cfg 18 then s2.msix (16 + 4 * nn + fld cfg 16 2) else s2
    done s3 0

/-- A write to a block-specific register of an instance page (R368, R374–R376). -/
def State.instWrite (s : State) (a nn off : Nat) (v : Word) : State :=
  let pg := pINST nn
  let priv := classOf a == .sys || classOf a == .keyd
  if 0x200 ≤ off && off ≤ 0x23C then s.doorbell nn ((off - 0x200) / 8) ((off - 0x200) % 8 == 0) (v &&& 0xFFF)
  else if (instOf a).isSome then s.err pg 3
  else if off = 0x410 then s.cplPost a nn v
  else if 0x400 ≤ off then s.setArg a pg off v
  else if 0x300 ≤ off && (off - 0x300) % 0x20 = 0x1C then
    (if priv then s.setRg pg off (v &&& 0xFFF) else s.err pg 3)
  else if !priv then s.err pg 3
  else if (s.inst nn).st ≠ 1 then s.err pg 18
  else
    let o := (off - 0x300) % 0x20
    let m : Word :=
      if off = 0x100 then 0xF else if off = 0x104 then 0x800FFFFF else if off = 0x108 then 0xFFFFF000
      else if off = 0x10C then 0xFF else if o = 0x10 then 0x80070F0F
      else if o = 0 || o = 8 then 0xFFFFF000 else 0xFFFFFFFF
    s.setRg pg off (v &&& m)

/-! ### The link and resets (R383) -/

/-- The link trains up. -/
def State.linkUp (s : State) (speed width : Nat) : State :=
  if !s.pdOn 36 then s else (s.modHost fun h => { h with link := some (speed, width) }).irq pHOST 2

/-- The link goes down: running descriptors complete with LINK_DOWN, `got` what each had moved. -/
def State.linkDown (s : State) (got : List (List Byte)) : State :=
  if s.host.link.isNone then s
  else
    let gone := s.host.running.filter fun d => !d.squashed
    let s1 := s.modHost fun h => { h with link := none, running := [] }
    (s1.dmaCuts 7 gone got false).irq pHOST 2

/-- A function-level reset removes every instance. -/
def State.flr (s : State) : State :=
  let s1 := (List.range 64).foldl (fun (t : State) nn => t.removeInst nn) s
  if (List.range 64).all fun k => (s1.inst k).st == 0 then s1.pageWarm pHOST
  else s1.modHost fun h => { h with flr := true }

/-- A warm, cold or tamper reset: the link down, every instance FREE without teardown. -/
def State.hostReset (s : State) : State := s.modHost fun _ => {}

/-- A block reset of the host interface (R10): DMA_QLEVEL and MED_RESULT take their W values, so the descriptors
queued and running and the mediator's command end, with no RESULT (DESIGN CHOICE: no rule says what becomes of them).
The link and the instances are not its own: LINK and INST_STATE go on reporting them (notes/assumptions/75.md). -/
def State.hostBlockReset (s : State) : State :=
  s.modHost fun h => { h with med := none, queue := [], running := [] }

/-- Every instance FREE: PD36 may be switched off. -/
def State.hostIdle (s : State) : Bool := s.host.insts.all fun e => e.2.st == 0

/-- An INSTANCE record applied by a standby (R432). -/
def State.instApply (s : State) (nn : Nat) (b : List Byte) : State :=
  let pg := pINST nn
  let w (i : Nat) : Word := wd (leAt b (4 * i) 4)
  let s1 := (((s.setRg pg 0x104 (w 1)).setRg pg 0x100 (w 2)).setRg pg 0x108 (w 3)).setRg pg 0x10C (w 4)
  let s2 := (List.range 40).foldl (fun (t : State) i =>
    t.setRg pg (0x300 + 0x20 * (i / 5) + 4 * (i % 5)) (w (5 + i))) s1
  s2.modInst nn fun i => { i with st := leAt b 0 4 % 8, args := 0 :: (List.range 5).map fun k => w (45 + k) }

end Sys2Proof.Machine
end

