-- ==== Sys2Proof/Machine/VineCtl.lean ====
section
/-!
DEFINITION. The Vine link (R400–R421): ports, packets and credits, the tree, messages, system time and
the site snapshot. Requests that reach register pages are in `VineRx.lean`.
-/
namespace Sys2Proof

/-- CLASS of a packet (R403, R424): 0 CTL, 1 REQ, 2 RSP, 3 MSG. -/
def VBody.cls : VBody → Nat
  | .join .. | .leave _ | .rread .. | .rwrite .. | .snapreq => 1
  | .assign .. | .rresp .. | .msgack .. => 2
  | .msg .. => 3
  | .twin t _ _ => t - 2
  | _ => 0

/-- LEN of a packet where it can exceed one credit (R402). -/
def VBody.len : VBody → Nat
  | .msg _ _ _ p => p.length
  | .twin _ _ p => p.length
  | _ => 0

/-- Credits a packet takes (R403). -/
def VPkt.cost (p : VPkt) : Nat := if p.body.cls = 0 then 0 else (p.body.len + 20 + 63) / 64

/-- What a REDUNDANT port carries (R411). -/
def VBody.onRedundant : VBody → Bool
  | .hello .. | .credit .. => true
  | _ => false

end Sys2Proof

namespace Sys2Proof.Machine

def State.modVine (s : State) (f : VineSt → VineSt) : State := { s with vine := f s.vine }

def State.modVport (s : State) (n : Nat) (f : VPort → VPort) : State :=
  s.modVine fun v => { v with ports := tset v.ports n (f (tget {} v.ports n)) }

def State.modTime (s : State) (f : TimeSt → TimeSt) : State := { s with time := f s.time }

/-! ### Packets and classes -/

/-- MODE of a port (R401). -/
def State.vMode (s : State) (n : Nat) : Nat := fld (s.rg (pVPORT n) 0x100) 0 2

/-- LINK.UP of a port. -/
def State.vUp (s : State) (n : Nat) : Bool := s.rbit (pVPORT n) 0x104 3

/-- The Vine is enabled and the device has a role (R15, R401). -/
def State.vineRun (s : State) : Bool := s.en pVINE && s.role != 0

/-- Member, root, own ID and upstream port as VINE.ID holds them. -/
def State.vMember (s : State) : Bool := s.rbit pVINE 0x100 16
def State.vRoot (s : State) : Bool := s.rbit pVINE 0x100 17
def State.vId (s : State) : Nat := fld (s.rg pVINE 0x100) 0 10
def State.vDepth (s : State) : Nat := fld (s.rg pVINE 0x100) 24 3
def State.vUpPort (s : State) : Option Nat :=
  if s.vMember && !s.vRoot then some (fld (s.rg pVINE 0x100) 28 3) else none

/-- The ports. -/
def vPorts : List Nat := List.range 6

/-- STATE of a port set; a change sets IRQ_RAW.LINK (R401). -/
def State.vState (s : State) (n st : Nat) : State :=
  if (s.vport n).state = st then s
  else (s.modVport n fun p => { p with state := st }).irq (pVPORT n) 0

/-- A packet is handed to the neighbour: LSEQ, credits and retention for credited classes (R403, R404). -/
def State.vEmit (s : State) (n : Nat) (k : VPkt) : State :=
  let p := s.vport n
  let c := k.body.cls
  let q := if c = 0 then k else { k with lseq := tget 0 p.txSeq c }
  let p1 := { p with sent := p.sent ++ [q] }
  let p2 := if c = 0 then p1
    else { p1 with kept := p.kept ++ [q],
                   txSeq := tset p.txSeq c ((tget 0 p.txSeq c + 1) % 256),
                   spent := tset p.spent c (tget 0 p.spent c + k.cost) }
  (s.modVport n fun _ => p2).cnt (pVPORT n) 0x114

/-- The credits of a packet go back as it leaves the buffer of the port it came in on (R403). -/
def State.vReturn (s : State) (src : Option Nat) (k : VPkt) : State :=
  match src with
  | some m =>
    let share (c : Nat) : Nat := if k.body.cls = c then k.cost else 0
    if s.vUp m && k.body.cls != 0 then
      s.vEmit m { body := .credit (share 1) (share 2) (share 3) none none }
    else s
  | none => s

/-- A port holds credits for the whole packet (R403). -/
def State.vFits (s : State) (n : Nat) (k : VPkt) : Bool :=
  k.body.cls == 0 || tget 0 (s.vport n).spent k.body.cls + k.cost ≤ vineBuffer k.body.cls

/-- A packet is sent on a port, or waits for credits behind its class (R403, R411). -/
def State.vPut (s : State) (n : Nat) (k : VPkt) (src : Option Nat) : State :=
  if !s.vUp n || ((s.vport n).state == 4 && !k.body.onRedundant) then
    (s.vReturn src k).cnt (pVPORT n) 0x120
  else if s.vFits n k && (k.body.cls == 0 || (s.vport n).wait.all fun w => w.pkt.body.cls != k.body.cls) then
    (s.vEmit n k).vReturn src k
  else s.modVport n fun p => { p with wait := p.wait ++ [{ pkt := k, src := src }] }

/-- The waiting packet that goes next: RSP first, then REQ and MSG by age, each class in order (R403). -/
def State.vNextWait (s : State) (n : Nat) : Option VWait :=
  let w := (s.vport n).wait
  let head (c : Nat) : Option VWait :=
    match w.find? fun x => x.pkt.body.cls == c with
    | some x => if s.vFits n x.pkt then some x else none
    | none => none
  match head 2 with
  | some x => some x
  | none => w.find? fun x => some x == head 1 || some x == head 3

/-- Waiting packets leave while credits last. -/
def State.vFlush (s : State) (n fuel : Nat) : State :=
  match fuel with
  | 0 => s
  | k + 1 =>
    match s.vNextWait n with
    | none => s
    | some x =>
      (((s.modVport n fun p => { p with wait := p.wait.erase x }).vEmit n x.pkt).vReturn x.src x.pkt).vFlush n k

/-- An LSEQ lies in the half of the numbers up to another (R404). -/
def seqLe (a b : Nat) : Bool := (b + 256 - a % 256) % 256 < 128

/-- A CREDIT packet (R403, R404): credits come back, kept packets are acknowledged, a NAK has everything
from the expected LSEQ sent again. -/
def State.vCredit (s : State) (n req rsp msg : Nat) (ack nak : Option (Nat × Nat)) : State :=
  let back (sp : Tbl Nat) : Tbl Nat :=
    [(1, req), (2, rsp), (3, msg)].foldl (fun t e => tset t e.1 (tget 0 t e.1 - e.2)) sp
  let s1 := s.modVport n fun p => { p with spent := back p.spent }
  let s2 := match ack with
    | some (c, q) =>
      let left (ks : List VPkt) : List VPkt := ks.filter fun k => !(k.body.cls == c && seqLe k.lseq q)
      s1.modVport n fun p => { p with kept := left p.kept }
    | none => s1
  let s3 := match nak with
    | some (c, q) =>
      let back := (s2.vport n).kept.filter fun (k : VPkt) => k.body.cls == c && seqLe q k.lseq
      back.foldl (fun (t : State) _ => t.cnt (pVPORT n) 0x114)
        (s2.modVport n fun p => { p with sent := p.sent ++ back })
    | none => s2
  s3.vFlush n ((s3.vport n).wait.length + 1)

/-- A received packet is taken in order, or discarded (R404): bad CRCs are counted and a credited one is
answered with a NAK. -/
def State.vTake (s : State) (n : Nat) (k : VPkt) (intact : Bool) : State × Bool :=
  let c := k.body.cls
  let want := tget 0 (s.vport n).rxSeq c
  if !intact then
    let s1 := s.cnt (pVPORT n) 0x11C
    (if c = 0 then s1 else s1.vEmit n { body := .credit 0 0 0 none (some (c, want)) }, false)
  else if c = 0 then (s.cnt (pVPORT n) 0x118, true)
  else if k.lseq % 256 ≠ want then (s.cnt (pVPORT n) 0x120, false)
  else
    let s1 := (s.cnt (pVPORT n) 0x118).modVport n fun p => { p with rxSeq := tset p.rxSeq c ((want + 1) % 256) }
    (s1.vEmit n { body := .credit 0 0 0 (some (c, want)) none }, true)

/-! ### Completions at the originator -/

/-- The bus fault of an RRESP status (R412). -/
def rrespFault (st : Nat) : BusFault := if st = 0 then .none else if st = 2 then .range else .gate

/-- An RRESP completes a window access (R412): data or a fault to the agent, RFAULT on the first failure. -/
def State.vRresp (s : State) (tag st data : Nat) : State :=
  let others (rs : List VRemote) : List VRemote := rs.filter fun r => r.flight != tag
  match s.flights.find? fun f => f.id == tag && !f.timedOut with
  | none =>
    let s1 := s.modVine fun v => { v with remotes := others v.remotes }
    (match s.flights.find? fun f => f.id == tag with
     | some f => (s1.dropFlight f).cnt pFAB 0x10C
     | none => s1)
  | some f =>
    let s1 := (s.modVine fun v => { v with remotes := others v.remotes }).dropFlight f
    let s2 := s1.answer f { data := if st = 0 && !f.write then data else 0, fault := rrespFault st }
    if st = 0 then s2
    else
      let d := (f.addr - 0x40000000) / 0x100000
      let s3 := if s2.rbit pVINE 0x16C 31 then s2
        else s2.setRg pVINE 0x16C (wd (st % 16 + at' d 16 + 0x80000000))
      s3.irq pVINE 5

/-- A message completes with a code (R414). -/
def State.vSendDone (s : State) (a code : Nat) : State :=
  let others (ms : List VSend) : List VSend := ms.filter fun m => m.agent != a
  ((s.modVine fun v => { v with sends := others v.sends }).setArg a pVINE 0x140
    (wd (code + 0x80000000))).irq pVINE 2

/-- A MSGACK completes the send with its tag (R414). -/
def State.vMsgAck (s : State) (tag code : Nat) : State :=
  match s.vine.sends.find? fun m => m.tag == tag with
  | some m => s.vSendDone m.agent code
  | none => s

/-! ### Routing -/

/-- The port towards an ID: the route table, else upstream (R406). -/
def State.vNext (s : State) (d : Nat) : Option Nat :=
  match tfind s.vine.routes d with
  | some p => some p
  | none => s.vUpPort

/-- A response towards the device that asked: delivered here when this device is it, discarded when it
cannot be forwarded (R410). -/
def State.vRespond (s : State) (k : VPkt) (src : Option Nat) : State :=
  if k.dst = s.vId then
    (match k.body with
     | .rresp t st d => s.vRresp t st d
     | .msgack t c => s.vMsgAck t c
     | _ => s).vReturn src k
  else
    match s.vNext k.dst with
    | some p => s.vPut p k src
    | none => s.vReturn src k

/-- A request that cannot be delivered is answered: RRESP status or MSGACK code 4 NO_ROUTE, 7 LINK_DOWN
(R406, R410, R412, R414). -/
def State.vReject (s : State) (k : VPkt) (down : Bool) (src : Option Nat) : State :=
  let s1 := s.vReturn src k
  match k.body with
  | .rread t _ _ | .rwrite t _ _ _ =>
    s1.vRespond { dst := k.src, src := s.vId, body := .rresp t (if down then 3 else 2) 0 } none
  | .msg t _ _ _ => s1.vRespond { dst := k.src, src := s.vId, body := .msgack t (if down then 7 else 4) } none
  | _ => s1

/-- A request or message is routed: towards its destination, or answered NO_ROUTE at the root (R406). -/
def State.vForward (s : State) (k : VPkt) (src : Option Nat) : State :=
  match s.vNext k.dst with
  | some p => s.vPut p k src
  | none => s.vReject k false src

/-- A packet sent to the upstream neighbour. -/
def State.vUpstream (s : State) (k : VPkt) (src : Option Nat) : State :=
  match s.vUpPort with
  | some p => s.vPut p k src
  | none => s.vReturn src k

/-- Remote accesses leave while fewer than 32 are outstanding (R412), each once those it must follow are answered
(R106). -/
def State.vPump (s : State) : State :=
  (s.vine.remotes.filter fun r => !r.sent).foldl (fun (t : State) r =>
    if 32 ≤ (t.vine.remotes.filter (·.sent)).length then t
    else
      match t.flights.find? fun f => f.id == r.flight with
      | none => t
      | some f =>
        if t.heldBack f then t
        else
        let mark (x : VRemote) : VRemote := if x.flight == r.flight then { x with sent := true } else x
        let t1 := t.modVine fun v => { v with remotes := v.remotes.map mark }
        let off := (f.addr - 0x40000000) % 0x100000
        t1.vForward { dst := (f.addr - 0x40000000) / 0x100000, src := t.vId,
                      body := if f.write then .rwrite f.id off f.size (leAt f.data 0 4)
                        else .rread f.id off f.size } none) s

/-- An access admitted by GATE22 becomes a remote access (R412). -/
def State.vRemoteStart (s : State) (flight : Nat) : State :=
  (s.modVine fun v => { v with remotes := v.remotes ++ [{ flight := flight, sent := false }] }).vPump

/-! ### Membership -/

/-- Ports send HELLO (R407): every TREE port whose link is up. A device that is not enabled sends none. -/
def State.vHelloSend (s : State) : State :=
  if !s.vineRun then s
  else
    vPorts.foldl (fun (t : State) n =>
      if t.vUp n && t.vMode n == 1 then
        t.vEmit n { src := t.vId, body := .hello (leNat serialBytes) t.vId t.vDepth t.vMember (t.vUpPort == some n) }
      else t) s

/-- VINE.ID changes: IRQ_RAW.MEMBER. -/
def State.vSetId (s : State) (v : Nat) : State :=
  if s.rg pVINE 0x100 = wd v then s else (s.setRg pVINE 0x100 (wd v)).irq pVINE 3

/-- A manager takes ID 0 (R407, R427): it is the root, and its own serial is the first in use. -/
def State.vTakeRoot (s : State) : State :=
  (s.vSetId 0x30000).modVine fun v => { v with members := tset v.members 0 (leNat serialBytes) }

/-- LOCKED changes (R417): IRQ_RAW.LOCK. -/
def State.timeLock (s : State) (on : Bool) : State :=
  if s.time.locked = on then s else (s.modTime fun t => { t with locked := on }).irq pTIME 16

/-- The upstream link is lost (R418). -/
def State.timeHoldover (s : State) : State := (s.timeLock false).modTime fun t => { t with holdover := true, good := 0 }

/-- The device ceases to be a member (R410): PREF_ID stays, its routes go, its ports idle. -/
def State.vCease (s : State) : State :=
  if !s.vMember then s else
  let s1 := if s.vRoot then s else s.timeHoldover
  let s2 := (s1.vSetId 0).modVine fun v => { v with routes := [], members := [], held := [], joins := [] }
  vPorts.foldl (fun (t : State) n =>
    if [2, 3, 4, 5].contains (t.vport n).state then t.vState n (if t.vUp n then 1 else 0) else t) s2

/-- An ID is freed at the root and reserved for its serial (R410). -/
def State.vFree (s : State) (id : Nat) : State :=
  match tfind s.vine.members id with
  | some sn => if id = 0 then s else
    s.modVine fun v => { v with members := tdel v.members id, held := tset v.held id sn }
  | none => s

/-- A LEAVE for an ID (R410): its route is cleared, the root frees it, others pass it on. -/
def State.vLeave (s : State) (id : Nat) (src : Option Nat) : State :=
  let k : VPkt := { src := s.vId, body := .leave id }
  let s1 := s.modVine fun v => { v with routes := tdel v.routes id }
  if s1.vRoot then (s1.vFree id).vReturn src k else s1.vUpstream k src

/-- Membership across a port ends (R410): upstream the device ceases, downstream every ID behind it
leaves; held requests are answered LINK_DOWN and held responses are discarded. -/
def State.vPortEnd (s : State) (n : Nat) : State :=
  let p := s.vport n
  let lost := (p.kept.map fun k => { pkt := k : VWait }) ++ p.wait
  let s1 := s.modVport n fun p => { p with kept := [], wait := [], spent := [], txSeq := [], rxSeq := [], sent := [] }
  let s2 :=
    if s1.vUpPort = some n then s1.vCease
    else ((s1.vine.routes.filter fun e => e.2 == n).map (·.1)).foldl (fun (t : State) id => t.vLeave id none) s1
  let s3 := lost.foldl (fun (t : State) w =>
    if w.pkt.body.cls = 2 then t.vReturn w.src w.pkt else t.vReject w.pkt true w.src) s2
  s3.modVport n fun p => { p with nmember := false, nid := 0, nserial := 0, nup := false, ndepth := 0 }

/-- Alignment is lost, or the port stops (R401, R410). -/
def State.vLinkDown (s : State) (n : Nat) : State :=
  if !s.vUp n then s
  else
    let s1 := (s.setRg (pVPORT n) 0x104 0).irq (pVPORT n) 0
    (s1.vPortEnd n).vState n 0

/-- Both lanes are aligned (R401): LINK with the polarity and swap found. -/
def State.vLinkUp (s : State) (n polarity : Nat) (swap : Bool) : State :=
  if !s.vineRun || s.vMode n = 0 || s.vUp n then s
  else
    let s1 := (s.setRg (pVPORT n) 0x104 (wd (15 + at' (polarity % 4) 4 + flagAt swap 6))).irq (pVPORT n) 0
    s1.vState n (if s.vMode n = 2 then 10 else 1)

/-- The best candidate for joining: lowest depth, then lowest port (R407). -/
def State.vBest (s : State) : Option Nat :=
  (vPorts.filter fun n => s.vUp n && s.vMode n == 1 && (s.vport n).nmember).foldl (fun b n =>
    match b with
    | none => some n
    | some m => if (s.vport n).ndepth < (s.vport m).ndepth then some n else some m) none

/-- JOIN is sent on a port (R407). -/
def State.vJoinSend (s : State) (n : Nat) : State :=
  (s.vPut n { body := .join (leNat serialBytes) ((s.rg pVINE 0x108).toNat) 0 0 } none).vState n 5

/-- A device that is no member looks for a member neighbour and joins (R407). Managers never join. -/
def State.vSeek (s : State) : State :=
  if s.vMember || s.role == 2 || vPorts.any (fun n => (s.vport n).state == 5) then s
  else
    match s.vBest with
    | some n => if (s.vport n).state = 1 || (s.vport n).state = 4 then s.vJoinSend n else s
    | none => s

/-- A HELLO arrives (R407, R410, R411). -/
def State.vHello (s : State) (n serial id depth : Nat) (member up : Bool) : State :=
  let s1 := s.modVport n fun p => { p with
    nid := id % 1024, nmember := member, ndepth := depth, nserial := serial, nup := up }
  if s1.vUpPort = some n then (if member then s1 else (s1.vCease).vSeek)
  else if s1.vMember then
    (if member then (if up then s1.vState n 3 else s1.vState n 4)
     else if (s1.vport n).state = 4 then s1.vState n 1 else s1)
  else s1.vSeek

/-- An ASSIGN goes down the path of a join: `tag` with `hops` entries (R408). -/
def State.vAssignSend (s : State) (n id code tag hops : Nat) : State :=
  let s1 := if code = 0 then (s.modVine fun v => { v with routes := tset v.routes id n }) else s
  let s2 := if code = 0 && hops = 0 then s1.vState n 3 else s1
  s2.vPut n { src := s.vId, body := .assign id code tag hops } none

/-- The root answers a join (R408): code 0 with the ID, or the STATE code of the refusal. -/
def State.vAnswer (s : State) (j : VJoin) (id code : Nat) : State :=
  let others (h : Tbl Nat) : Tbl Nat := h.filter fun e => e.2 != j.serial
  let s1 := if code = 0 then
      s.modVine fun v => { v with members := tset v.members id j.serial, held := others v.held } else s
  s1.vAssignSend j.port id code j.tag j.hops

/-- An ID that is in use or reserved. -/
def State.vTaken (s : State) (id : Nat) : Bool :=
  (tfind s.vine.members id).isSome || (tfind s.vine.held id).isSome

/-- The root judges a join in the order of R408. -/
def State.vJudge (s : State) (j : VJoin) : State :=
  if 1024 ≤ s.vine.members.length + s.vine.held.length then s.vAnswer j 0 6
  else if s.rbit pVINE 0x104 0 then
    (if 16 ≤ s.vine.joins.length then s.vAnswer j 0 9
     else (s.modVine fun v => { v with joins := v.joins ++ [j] }).irq pVINE 0)
  else
    match s.vine.held.find? fun e => e.2 == j.serial with
    | some e => s.vAnswer j e.1 0
    | none =>
      let want := j.pref % 1024
      if j.pref.testBit 15 && !s.vTaken want then s.vAnswer j want 0
      else
        match firstBelow 1023 fun i => !s.vTaken (i + 1) with
        | some i => s.vAnswer j (i + 1) 0
        | none => s.vAnswer j 0 6

/-- A JOIN arrives on a port (R407, R408): refused at depth 6, judged at the root, else passed upstream
with the port appended. -/
def State.vJoin (s : State) (n serial pref tag hops : Nat) : State :=
  let k : VPkt := { body := .join serial pref tag hops }
  if !s.vMember then s.vReturn (some n) k
  else if s.vDepth = 6 then (s.vReturn (some n) k).vAssignSend n 0 7 tag hops
  else if s.vRoot then
    (s.vReturn (some n) k).vJudge { serial := serial, pref := pref, tag := tag, hops := hops, port := n }
  else s.vUpstream { body := .join serial pref (tag + at' n (3 * hops)) (hops + 1) } (some n)

/-- An ASSIGN arrives on a port (R408): passed down the path, or this device's own answer. -/
def State.vAssign (s : State) (n id code tag hops : Nat) : State :=
  let s1 := s.vReturn (some n) { body := .assign id code tag hops }
  if hops ≠ 0 then s1.vAssignSend (nfld tag (3 * (hops - 1)) 3) id code tag (hops - 1)
  else if (s1.vport n).state ≠ 5 then s1
  else if code ≠ 0 then s1.vState n code
  else
    let d := ((s1.vport n).ndepth + 1) % 8
    ((s1.vSetId (id % 1024 + 0x10000 + at' d 24 + at' n 28)).setRg pVINE 0x108 (wd (id % 1024 + 0x8000))).vState n 2

/-- JANSWER answers the oldest queued join (R409). -/
def State.vJanswer (s : State) (a : Nat) (v : Word) : State :=
  if classOf a != .sys && classOf a != .keyd then s.err pVINE 3
  else
    match s.vine.joins with
    | [] => s
    | j :: r =>
      let id := fld v 0 10
      let s1 := s.modVine fun x => { x with joins := r }
      if !bitAt v 16 then s1.vAnswer j 0 8
      else if (tfind s.vine.members id).isSome ||
          (match tfind s.vine.held id with | some sn => sn != j.serial | none => false) then s.err pVINE 17
      else s1.vAnswer j id 0

/-- The oldest join was not answered within JOIN_TO (R409). -/
def State.vJoinTimeout (s : State) : State :=
  match s.vine.joins with
  | [] => s
  | j :: r => (s.modVine fun x => { x with joins := r }).vAnswer j 0 8

/-- A refused newcomer sends JOIN again (R408). -/
def State.vJoinRetry (s : State) (n : Nat) : State :=
  let st := (s.vport n).state
  if 6 ≤ st && st ≤ 9 && s.vUp n && !s.vMember then s.vJoinSend n else s

/-- A reservation ends (R410). -/
def State.vHoldEnd (s : State) (id : Nat) : State := s.modVine fun v => { v with held := tdel v.held id }

/-- A write of VINEn.CFG.MODE (R401, R410). Code 3 is reserved and is discarded. -/
def State.vModeWrite (s : State) (n : Nat) (v : Word) : State :=
  let m := fld v 0 2
  if m = 3 then s
  else if m == 2 && (s.role != 2 || vPorts.any (fun k => k != n && s.vMode k == 2)) then s.err pVINE 16
  else if m = s.vMode n then s
  else (s.vLinkDown n).setRg (pVPORT n) 0x100 (wd m)

/-- Writes of VINE.CTRL.EN (R401, R407): a manager that is not held as standby takes ID 0 at once; EN = 0
takes every port down and ends membership. -/
def State.vCtrl (s : State) (v : Word) (mayRoot : Bool) : State :=
  let s1 := s.setRg pVINE 0x10 (v &&& 1)
  if bitAt v 0 then (if s1.role = 2 && mayRoot && !s1.vMember then s1.vTakeRoot else s1)
  else (vPorts.foldl (fun (t : State) n => t.vLinkDown n) s1).vCease

/-! ### Messages -/

/-- MSG_SEND (R414). -/
def State.vMsgSend (s : State) (a : Nat) (v : Word) : State :=
  if !bitAt v 0 then s
  else if s.vine.sends.any fun m => m.agent == a then s.err pVINE 18
  else
    let len := fld (s.arg a pVINE 0x130) 0 11
    let dst := fld (s.arg a pVINE 0x12C) 0 10
    let addr := (s.arg a pVINE 0x134).toNat + fld (s.arg a pVINE 0x138) 0 8 * 2 ^ 32
    if len = 0 || 1024 < len then s.vSendDone a 1
    else if !s.vMember || dst = s.vId then s.vSendDone a 2
    else
      let r := s.engRead a addr len
      if r.fault ≠ .none then r.st.vSendDone a 3
      else
        let tag := r.st.vine.tagNo + 1
        let s1 := (r.st.modVine fun x => { x with
          tagNo := tag, msgNo := (x.msgNo + 1) % 2 ^ 32,
          sends := x.sends ++ [{ agent := a, dst := dst, tag := tag }] }).setArg a pVINE 0x140 0x40000000
        s1.vForward { dst := dst, src := s.vId,
                      body := .msg tag (fld (s.arg a pVINE 0x12C) 16 4) s1.vine.msgNo r.data } none

/-- No MSGACK within 2 ms (R414). -/
def State.vMsgTimeout (s : State) (a : Nat) : State :=
  if s.vine.sends.any fun m => m.agent == a then s.vSendDone a 8 else s

/-- A message is written into the receive ring (R415): the code of its MSGACK. -/
def State.vRing (s : State) (src chan count : Nat) (payload : List Byte) : State × Nat :=
  let n := fld (s.rg pVINE 0x14C) 0 12
  let w := fld (s.rg pVINE 0x150) 0 12
  if n = 0 || (w + 1) % n = fld (s.rg pVINE 0x154) 0 12 % n then (s, 5)
  else
    let base := (s.rg pVINE 0x144).toNat + fld (s.rg pVINE 0x148) 0 8 * 2 ^ 32
    let head := leBytes 2 src ++ [BitVec.ofNat 8 chan, 0] ++ leBytes 2 payload.length ++ [0, 0] ++ leBytes 4 count ++
      List.replicate 4 0 ++ leBytes 8 s.now ++ List.replicate 8 0
    let r := s.engWrite aVINE (base + 1056 * w) (head ++ payload)
    if r.fault ≠ .none then (r.st, 6)
    else ((r.st.setRg pVINE 0x150 (wd ((w + 1) % n))).irq pVINE 1, 0)

/-- A MSG for this device is delivered and acknowledged (R414, R415). -/
def State.vMsgIn (s : State) (src tag chan count : Nat) (payload : List Byte) : State :=
  let r := s.vRing src chan count payload
  r.1.vRespond { dst := src, src := s.vId, body := .msgack tag r.2 } none

/-- Writes of RXBASE, RXBASE_HI and RXN (R415). -/
def State.vRxWrite (s : State) (off : Nat) (v : Word) : State :=
  if s.en pVINE then s.err pVINE 19
  else s.setRg pVINE off (v &&& (if off = 0x144 then 0xFFFFFFE0 else if off = 0x148 then 0xFF else 0xFFF))

/-! ### System time -/

/-- The value of a compare channel. -/
def State.cmpOf (s : State) (n : Nat) : Nat :=
  (s.rg pTIME (0x200 + 8 * n)).toNat + (s.rg pTIME (0x204 + 8 * n)).toNat * 2 ^ 32

/-- An armed channel whose time has come fires and disarms (R419). -/
def State.timeFire (s : State) (n : Nat) : State :=
  if s.time.armed.testBit n && decide (s.cmpOf n ≤ s.now) then
    (s.modTime fun t => { t with armed := t.armed ^^^ 2 ^ n }).irq pTIME n
  else s

/-- CMPn_HI is written: the channel is armed (R419). -/
def State.timeArm (s : State) (n : Nat) (v : Word) : State :=
  (s.setRg pTIME (0x204 + 8 * n) v).modTime fun t => { t with armed := t.armed ||| 2 ^ n }

/-- NOW is loaded or stepped; compares that it passes fire on that edge (R416, R419). -/
def State.timeLoad (s : State) (now : Nat) : State :=
  (List.range 16).foldl (fun (t : State) n => t.timeFire n) { s with now := now % 2 ^ 64 }

/-- SETCMD (R416). -/
def State.timeSet (s : State) (a : Nat) (v : Word) : State :=
  if !bitAt v 0 then s
  else if (classOf a != .sys && classOf a != .keyd) || (s.vMember && !s.vRoot) then s.err pTIME 16
  else
    (s.modTime fun t => { t with run := true }).timeLoad
      ((s.rg pTIME 0x108).toNat + (s.rg pTIME 0x10C).toNat * 2 ^ 32)

/-- A read of NOW_LO latches NOW_HI for the reading agent (R416). -/
def State.timeRead (s : State) (a : Nat) : State := s.setArg a pTIME 0x104 (wd (s.now / 2 ^ 32))

/-- A free rate correction within ±200 ppm, in parts per billion (R417). -/
def State.timeSteer (s : State) : State :=
  s.draw.modTime fun t => { t with rate := ((Config.freeNat s.free % 400001 : Nat) : Int) - 200000 }

/-- The time a partner sent is taken: offset = sent + DELAY − NOW; beyond ±1 µs NOW steps, else the rate is
steered; LOCKED after 16 offsets within ±10 ns, lost beyond ±50 ns (R417, R418). TIME.OFFSET of an offset
that 32 signed bits do not hold is free. -/
def State.timeTake (s : State) (delayPs sent : Nat) : State :=
  let off : Int := (sent : Int) + ((delayPs / 1000 : Nat) : Int) - (s.now : Int)
  let s1 := if -2147483648 ≤ off && off ≤ 2147483647 then s.setRg pTIME 0x114 (BitVec.ofInt 32 off)
    else s.draw.setRg pTIME 0x114 (Config.freeWord s.free)
  let near : Bool := -10 ≤ off && off ≤ 10
  let s2 := s1.modTime fun t =>
    { t with run := true, holdover := false, good := if near then t.good + 1 else 0 }
  let s3 := if off < -1000 || off > 1000 then
      (s2.timeLoad (off + s.now).toNat).cnt pTIME 0x118
    else s2.timeSteer
  let s4 := if off < -50 || off > 50 then s3.timeLock false else s3
  if 16 ≤ s4.time.good then s4.timeLock true else s4

/-- A TIME packet from the upstream neighbour (R417). -/
def State.vTime (s : State) (n now : Nat) : State :=
  if s.vUpPort = some n then s.timeTake (fld (s.rg (pVPORT n) 0x10C) 0 24) now else s

/-- TIME is sent on the ports whose neighbour is downstream, once the time runs (R417). -/
def State.vTimeSend (s : State) : State :=
  if !s.time.run then s
  else vPorts.foldl (fun (t : State) n =>
    if (t.vport n).state = 3 && t.vUp n then t.vEmit n { src := t.vId, body := .time t.now } else t) s

/-- SYNC is sent upstream (R417), and on a standby's twin port (R425). -/
def State.vSync (s : State) (n : Nat) : State :=
  if s.vUp n && ((s.vport n).state == 2 || (s.vport n).state == 10) then s.vEmit n { body := .sync } else s

/-- A SYNCACK gives the round trip in picoseconds; DELAY holds half (R417). -/
def State.vSyncAck (s : State) (n roundTrip : Nat) : State :=
  if s.vUp n then s.setRg (pVPORT n) 0x10C (wd (roundTrip / 2 % 2 ^ 24)) else s

/-- One MAIN edge of NOW: 2 ns and what the rate correction has gathered (R416, R417). -/
def State.timeTick (s : State) : State :=
  if !s.time.run then s
  else
    let f := s.time.frac + 2 * s.time.rate
    let extra : Int := if f ≥ 1000000000 then 1 else if f ≤ -1000000000 then -1 else 0
    { s with now := ((s.now : Int) + 2 + extra).toNat % 2 ^ 64,
             time := { s.time with frac := f - extra * 1000000000 } }

/-! ### Site snapshot -/

/-- SNAP goes down every downstream port (R420). -/
def State.vSnapDown (s : State) (no t : Nat) : State :=
  vPorts.foldl (fun (x : State) n =>
    if (x.vport n).state = 3 && x.vUp n then x.vEmit n { src := x.vId, body := .snap no t } else x) s

/-- A SNAP is recorded (R420). -/
def State.vSnapRecord (s : State) (no t : Nat) : State :=
  (((s.setRg pVINE 0x160 (wd no)).setRg pVINE 0x164 (wd t)).setRg pVINE 0x168 (wd (t / 2 ^ 32))).irq pVINE 4

/-- The root starts a site snapshot (R420). -/
def State.vSnapStart (s : State) : State :=
  let no := ((s.rg pVINE 0x160).toNat + 1) % 2 ^ 32
  let t := (s.now + fld (s.rg pVINE 0x15C) 0 24) % 2 ^ 64
  if 4 ≤ s.vine.targets.length then (s.vSnapDown no t).cnt pSNAP 0x118
  else ((s.vSnapDown no t).vSnapRecord no t).modVine fun v => { v with targets := v.targets ++ [t] }

/-- SNAP_FIRE (R420). -/
def State.vSnapFire (s : State) (a : Nat) (v : Word) : State :=
  if !bitAt v 0 then s
  else if s.vRoot then
    (if classOf a == .sys || classOf a == .keyd then s.vSnapStart else s.err pVINE 3)
  else s.vUpstream { src := s.vId, body := .snapreq } none

/-- A SNAPREQ: the root starts a snapshot if CFG.SNAPREQ is 1 (R420); another member passes it up. -/
def State.vSnapReq (s : State) (n : Nat) : State :=
  if s.vRoot then
    let s1 := s.vReturn (some n) { body := .snapreq }
    if s.rbit pVINE 0x104 2 then s1.vSnapStart else s1
  else s.vUpstream { src := s.vId, body := .snapreq } (some n)

/-- A SNAP arrives (R420, R421). -/
def State.vSnap (s : State) (no t : Nat) : State :=
  let s1 := s.vSnapDown no t
  if t < s.now || !s.time.locked then ((s1.vSnapRecord no t).snapTrigger 4).err pVINE 20
  else if 4 ≤ s.vine.targets.length then s1.cnt pSNAP 0x118
  else (s1.vSnapRecord no t).modVine fun v => { v with targets := v.targets ++ [t] }

/-- NOW reaches pending targets: the Vine trigger is raised once (R421). -/
def State.vSnapTarget (s : State) : State :=
  if s.vine.targets.any fun t => decide (t ≤ s.now) then
    let left := s.vine.targets.filter fun t => !decide (t ≤ s.now)
    (s.modVine fun v => { v with targets := left }).snapTrigger 4
  else s

/-! ### Resets -/

/-- A port at a reset or with its domain switched off. -/
def State.vPortReset (s : State) (n : Nat) : State :=
  ((s.setRg (pVPORT n) 0x104 0).vPortEnd n).modVport n fun _ => {}

/-- The VINE block and the ports at a chip reset: nothing is sent any more. -/
def State.vineReset (s : State) : State := s.modVine fun _ => {}

/-- A reset of the TIME block's registers: NOW runs through (chapter "Vine link"). -/
def State.timeReset (s : State) (cold : Bool) : State :=
  if cold then { s with now := 0, time := {} } else s.modTime fun t => { t with armed := 0 }

end Sys2Proof.Machine
end

