-- ==== Sys2Proof/Machine/TwinCtl.lean ====
section
/-!
DEFINITION. The twin (R422–R435): pairing, heartbeats, takeover, fence and handover, the replication
journal and its records, monotonic counters, resynchronisation and self-test.
-/
namespace Sys2Proof.Machine

def State.modTwin (s : State) (f : TwinSt → TwinSt) : State := { s with twin := f s.twin }

/-- The port in TWIN mode (R401). -/
def State.twinPort (s : State) : Option Nat := vPorts.find? fun n => s.vMode n == 2

/-- A packet leaves on the twin port (R424). -/
def State.twinPut (s : State) (typ seq : Nat) (bytes : List Byte) : State :=
  match s.twinPort with
  | some n => s.vPut n { body := .twin typ seq bytes } none
  | none => s

/-- STATE changes (R423): IRQ_RAW.STATE. -/
def State.twinState (s : State) (st : Nat) : State :=
  if s.twin.state = st then s else (s.modTwin fun t => { t with state := st }).irq pTWIN 0

/-- A monotonic counter's increment is reported (R433). -/
def State.mcntDone (s : State) (a code : Nat) : State :=
  (s.modTwin fun t => { t with waits := tdel t.waits a }).setArg a pTWIN 0x160 (wd (code + 0x80000000))

/-- What waited for a SEQ is released (R261, R430, R433). -/
def State.twinRelease (s : State) (seq : Nat) : State :=
  ((s.twin.waits.filter fun e => e.2 ≤ seq).foldl (fun (t : State) e => t.mcntDone e.1 0) s).binSynced seq

/-- The device serves alone (R423, R426, R427, R430): the journal is discarded, every change that waits on
it is released, and the manager takes Vine ID 0. -/
def State.twinAlone (s : State) : State :=
  let s1 := { s with twinRepl := false, changes := [] }
  let s2 := (s1.modTwin fun t => { t with ack := s1.twinSeq, bulk := none, due := none, first := none,
                                          handover := false }).twinRelease s1.twinSeq
  let s3 := s2.twinState 3
  if s3.en pVINE && s3.role == 2 && !s3.vMember then s3.vTakeRoot else s3

/-- The device receives a resynchronisation (R423): it holds no ID and waits for a START record. -/
def State.twinSync (s : State) : State :=
  let s1 := { s with twinRepl := false, changes := [] }
  ((s1.modTwin fun t => { t with bulkEnd := false, frag := none, bulk := none, due := none,
                                 first := none }).twinState 4).vCease

/-- STATE where its conditions change (R423): OFF without CTRL.EN, a pair key or a TWIN port, PAIRING when
all three come together. -/
def State.twinPoll (s : State) : State :=
  if !(s.en pTWIN && s.twin.key != [] && s.twinPort.isSome) then
    (if s.twin.state = 6 then s else { s with twinRepl := false, changes := [] }.twinState 0)
  else if s.twin.state = 0 then
    (s.modTwin fun t => { t with heard := false, miss := 0, hbIn := 0, peer := 0 }).twinState 1
  else s

/-- Whether a manager may take ID 0 when its Vine is enabled (R407, R423). -/
def State.mayRoot (s : State) : Bool := [0, 2, 3].contains s.twin.state

/-! ### The journal (R430, R431) -/

/-- The header of a record (R431). -/
def recordHeader (c : TwinChange) : List Byte :=
  [0x54, 0x52, BitVec.ofNat 8 c.kind, BitVec.ofNat 8 c.flags] ++ leBytes 2 c.body.length ++
    leBytes 2 c.target ++ leBytes 8 c.seq ++ zeros 16

/-- The IV of a record (R431). -/
def recordIv (seq : Nat) : List Byte := leBytes 8 seq ++ zeros 4

/-- A record under the pair key (R431). -/
def recordBytes (key : List Byte) (c : TwinChange) : List Byte :=
  let g := gcmSeal key (recordIv c.seq) (recordHeader c) c.body
  recordHeader c ++ g.1 ++ g.2

/-- Slots of the ring (R430). -/
def State.ringSize (s : State) : Nat := min 4096 (max 16 (fld (s.rg pTWIN 0x11C) 0 13))

/-- A change waits on a full ring (R430). -/
def State.ringFull (s : State) : Bool := s.ringSize ≤ s.seqWritten - s.twin.ack

/-- A record is written into its slot of the ring, with agent 0x38, and sent (R430). -/
def State.writeRecord (s : State) (c : TwinChange) : State :=
  let base := fld (s.rg pTWIN 0x114) 11 21 * 0x800 + fld (s.rg pTWIN 0x118) 0 8 * 2 ^ 32
  let bytes := recordBytes s.twin.key c
  (s.engWrite aVINE (base + c.seq % s.ringSize * 0x800) bytes).st.twinPut 3 c.seq bytes

/-- Changes enter the ring in order while it has room, and while the ring's memory does not make their records wait
(R430). -/
def State.twinDrain (s : State) (cs : List TwinChange) : State :=
  match cs with
  | [] => s
  | c :: r =>
    let t := ({ s with changes := r } : State).writeRecord c
    if s.ringFull || (s.held.isNone && t.held.isSome) then s else t.twinDrain r

/-- The records of the changes that a command made are written on its edge (R430). -/
def State.settle (s : State) : State := if s.changes = [] then s else s.twinDrain s.changes

/-- A change has waited 2 ms on a full ring (R430). -/
def State.twinLag (s : State) : State :=
  if s.changes = [] || !s.ringFull then s else (s.err pTWIN 16).twinAlone

/-- A RACK (R430, R432): slots up to its SEQ are free, waiters are released. -/
def State.twinRack (s : State) (seq : Nat) : State :=
  if !s.twinRepl || s.seqWritten < seq || seq ≤ s.twin.ack then s
  else ((s.modTwin fun t => { t with ack := seq }).twinRelease seq).settle

/-! ### Resynchronisation (R434) -/

/-- The targets of a bulk copy: slots, bins, instances that are not empty, and the counters. -/
def State.bulkTargets (s : State) : List (Nat × Nat) :=
  ((s.key.slots.filter fun e => e.1 ≤ 1015).map fun e => (1, e.1)) ++
  ((s.bin.bins.filter fun e => e.2.st != .free).map fun e => (2, e.1)) ++
  ((s.host.insts.filter fun e => e.2.st != 0).map fun e => (3, e.1)) ++
  ((List.range 16).map fun k => (4, k))

/-- The visible part of a bin for a bulk record: of a cold bin, as its cold record decrypts, which the store reads with
its own agent ID (R255, R434). -/
def State.binBody (s : State) (b : Nat) : State × List Byte :=
  let r := s.binRec b
  let body (vis : List Byte) : List Byte := [BitVec.ofNat 8 r.st.code, BitVec.ofNat 8 r.inst] ++ fitTo 160 vis
  if r.st = .cold then
    let m := s.engRead aBIN (s.coldAddr b) 576
    let d := m.data
    (m.st, body (match gcmOpen (s.slotMat 1017) ((d.drop 16).take 12) (d.take 16) ((d.drop 32).take 512)
        ((d.drop 544).take 16) with
      | some p => p.take 64 ++ (p.drop 416).take 96
      | none => []))
  else (s, body r.vis)

/-- The body of a target's record as the target stands (R431). -/
def State.targetBody (s : State) (kind n : Nat) : State × List Byte :=
  if kind = 1 then (s, s.slotBody n)
  else if kind = 2 then s.binBody n
  else if kind = 3 then (s, s.instBody n)
  else (s, leBytes 8 (tget 0 s.twin.counters n))

/-- A pass of the bulk copy begins with a new mark (R434 step 1). -/
def State.bulkStart (s : State) : State :=
  { s with twinRepl := true, changes := [] }.modTwin fun t =>
    { t with bulk := some (s.seqWritten, s.bulkTargets), ack := s.seqWritten }

/-- The next record of the resynchronisation (R434): the pass begins, a target's record, or BULK_END; a
full ring begins the pass again. -/
def State.twinResync (s : State) : State :=
  if !(s.twin.peer = 4 && (s.twin.state = 2 || s.twin.state = 3)) then s
  else
    match s.twin.bulk with
    | none => if s.twinRepl then s else s.bulkStart
    | some (m, []) =>
      ((s.putRecord 5 0 1 (leBytes 8 m)).modTwin fun t => { t with bulk := none }).settle
    | some (m, (k, n) :: r) =>
      if s.ringFull || s.changes != [] then s.bulkStart
      else
        let x := s.targetBody k n
        ((x.1.putRecord k n (1 + flagAt (s.twinSeq == m) 3) x.2).modTwin fun t => { t with bulk := some (m, r) }).settle

/-! ### The standby (R432) -/

/-- A slot record applied. -/
def State.slotApply (s : State) (n : Nat) (b : List Byte) : State :=
  let attr := leAt b 0 4
  if attr.testBit 31 then
    s.putSlot n { typ := nfld attr 0 8, usage := nfld attr 8 9, inst := nfld attr 17 7, owner := leAt b 4 4,
                  len := leAt b 8 4, mat := b.drop 12 }
  else s.zeroizeSlot n

/-- A bin record applied to the own store (R271, R432): a frame is freed by a spill if none is. -/
def State.binApply (s : State) (b : Nat) (d : List Byte) : State :=
  let st := (byteAt d 0).toNat
  let inst := (byteAt d 1).toNat
  if st = 0 then s.binFree b none
  else if st = 3 then s.setBin b { st := .lost, inst := inst }
  else
    let s1 := if (s.binRec b).st == .hot || s.frameFree then s
      else (match s.binVictim with | some v => s.binSpill v | none => s)
    let vis := d.drop 2
    (s1.setBin b { st := .hot, inst := inst, flags := (byteAt vis 3).toNat / 16 * 16, vis := vis }).touchBin b

/-- A complete record applied to its target. -/
def State.recordApply (s : State) (kind n : Nat) (b : List Byte) : State :=
  if kind = 1 then s.slotApply n b
  else if kind = 2 then s.binApply n b
  else if kind = 3 then s.instApply n b
  else if kind = 4 then s.modTwin fun t => { t with counters := tset t.counters (n % 16) (leAt b 0 8) }
  else s

/-- The standby becomes synchronised when SEQ_ACK equals SEQ_TX after BULK_END (R434). -/
def State.twinCaughtUp (s : State) : State :=
  if s.twin.state = 4 && s.twin.bulkEnd && s.twin.ack = s.twin.peerSeq then s.twinState 5 else s

/-- A record in sequence and with a good tag is taken (R432): skipped if a later one set its target. -/
def State.recordTake (s : State) (kind flags n seq : Nat) (body : List Byte) : State :=
  let key := kind * 65536 + n
  let frag := s.twin.frag
  let s1 := { s with twinSeq := max s.twinSeq seq }.modTwin fun t =>
    { t with ack := seq, frag := if flags.testBit 1 then some body else none,
             bulkEnd := t.bulkEnd || kind == 5 }
  let s2 :=
    if flags.testBit 1 || seq ≤ tget 0 s1.twin.applied key then s1
    else
      (s1.recordApply kind n (if flags.testBit 2 then frag.getD [] ++ body else body)).modTwin fun t =>
        { t with applied := tset t.applied key seq }
  (s2.twinPut 4 seq (leBytes 8 seq)).twinCaughtUp

/-- A RECORD arrives (R432, R434). -/
def State.twinRecord (s : State) (bytes : List Byte) : State :=
  if s.twin.state ≠ 4 && s.twin.state ≠ 5 then s
  else
    let h := bytes.take 32
    let len := leAt h 4 2
    let seq := leAt h 8 8
    let flags := leAt h 3 1
    let start := flags.testBit 3
    let s0 := if start then s.modTwin fun t => { t with frag := none, bulkEnd := false } else s
    let body := if h.take 2 = [0x54, 0x52] then
        gcmOpen s0.twin.key (recordIv seq) h ((bytes.drop 32).take len) (bytes.drop (32 + len)) else none
    match body with
    | none => (s0.err pTWIN 18).twinSync
    | some b =>
      if start || seq = s0.twin.ack + 1 then s0.recordTake (leAt h 2 1) flags (leAt h 6 2) seq b
      else (s0.err pTWIN 18).twinSync

/-! ### Heartbeats (R425, R426) -/

/-- A heartbeat's 32 bytes (R425). -/
def heartbeatBytes (key serial : List Byte) (st flags ctr seq now : Nat) : List Byte :=
  let b := [BitVec.ofNat 8 st, BitVec.ofNat 8 flags, 0, 0] ++ leBytes 4 ctr ++ leBytes 8 seq ++ leBytes 8 now
  b ++ (cmacOf key (b ++ serial)).take 8

/-- A heartbeat is sent with FLAGS (R425). -/
def State.heartbeat (s : State) (flags : Nat) : State :=
  let t := s.twin
  let seq := if t.state = 4 || t.state = 5 then t.ack else s.seqWritten
  (s.modTwin fun t => { t with hbOut := t.hbOut + 1 }).twinPut 2 0
    (heartbeatBytes t.key serialBytes t.state (flags + flagAt t.well 1) ((t.hbOut + 1) % 2 ^ 32) seq s.now)

/-- Every 100 µs a heartbeat (R425); one with RELINQUISH while an alarm response waits for it, which is
then carried out (R429). -/
def State.heartbeatSend (s : State) : State :=
  if s.twin.state = 0 || s.twin.state = 6 then s
  else if s.tamp.twinWait ≠ 0 then
    let r := s.tamp.twinWait
    let s1 := s.heartbeat 1
    { s1 with tamp := { s1.tamp with twinWait := 0 } }.respond r
  else s.heartbeat 0

/-- A heartbeat is valid (R425). -/
def State.heartbeatValid (s : State) (b : List Byte) : Bool :=
  b.length == 32 && s.twin.key != [] &&
    (cmacOf s.twin.key (b.take 24 ++ s.twin.pserial)).take 8 == b.drop 24 && s.twin.hbIn < leAt b 4 4

/-- The primary of a pair, else the lower serial, becomes active (R423). `peerPrimary` is the partner's
CFG.PRIMARY. -/
def State.firstActive (s : State) (peerPrimary : Bool) : Bool :=
  let own := s.rbit pTWIN 0x100 0
  if own == peerPrimary then decide (leNat serialBytes < leNat s.twin.pserial) else own

/-- What a valid heartbeat of the partner moves (R423, R426, R427, R434). -/
def State.heartbeatMoves (s : State) (peer flags : Nat) (peerPrimary : Bool) : State :=
  let st := s.twin.state
  if st = 1 then
    (if peer = 2 || peer = 3 then s.twinSync
     else if peer = 1 then (if s.firstActive peerPrimary then s.twinAlone else s.twinSync)
     else s)
  else if st = 3 then
    (if peer = 5 && s.twinRepl && s.twin.bulk.isNone then s.twinState 2
     else if peer = 5 || peer = 4 then s
     else { s with twinRepl := false, changes := [] }.modTwin fun t => { t with bulk := none })
  else if st = 2 then (if peer = 5 then s else s.twinAlone)
  else if st = 4 || st = 5 then
    let s1 := s.twinCaughtUp
    if flags % 2 = 1 then s1.modTwin fun t => { t with due := some 2 }
    else if flags / 4 % 2 = 1 then s1.modTwin fun t => { t with due := some 3 }
    else s1
  else s

/-- A heartbeat arrives (R425, R426). A standby steers its TIME from it (R425). -/
def State.heartbeatTake (s : State) (b : List Byte) (peerPrimary : Bool) : State :=
  if s.twin.state = 0 || s.twin.state = 6 || !s.heartbeatValid b then s
  else
    let peer := (byteAt b 0).toNat
    let flags := (byteAt b 1).toNat
    let s1 := s.modTwin fun t =>
      { t with hbIn := leAt b 4 4, heard := true, miss := 0, peer := peer, peerSeq := leAt b 8 8,
               peerWell := flags.testBit 1 }
    let s2 := s1.heartbeatMoves peer flags peerPrimary
    if s2.twin.state = 4 || s2.twin.state = 5 then
      match s2.twinPort with
      | some n => s2.timeTake (fld (s2.rg (pVPORT n) 0x10C) 0 24) (leAt b 16 8)
      | none => s2
    else s2

/-- A 100 µs window ends (R426). -/
def State.missWindow (s : State) : State :=
  if s.twin.state = 0 || s.twin.state = 6 then s
  else if s.twin.heard then s.modTwin fun t => { t with heard := false, miss := 0 }
  else
    let s1 := s.modTwin fun t => { t with miss := t.miss + 1 }
    if s1.twin.miss < 3 then s1
    else if s1.twin.state = 2 then s1.twinAlone
    else if s1.twin.state = 4 || s1.twin.state = 5 then s1.modTwin fun t => { t with due := some 1 }
    else s1

/-- PAIR_TO passes without a valid heartbeat (R423). -/
def State.pairTimeout (s : State) : State :=
  if s.twin.state = 1 && s.rbit pTWIN 0x100 0 && s.twin.hbIn = 0 then s.twinAlone else s

/-! ### Takeover, fence, handover (R427–R429) -/

/-- The first takeover decision (R427): refused as unfit, or its second is awaited. -/
def State.takeover (s : State) : State :=
  match s.twin.due with
  | none => s
  | some r =>
    let s1 := s.modTwin fun t => { t with due := none }
    if s.twin.state ≠ 5 || !s.twin.well then s1.err pTWIN 17
    else s1.modTwin fun t => { t with first := some r }

/-- The second decision (R427, R440): TAKE_LOG and TWFO when both agree. -/
def State.takeoverSecond (s : State) (agrees : Bool) : State :=
  match s.twin.first with
  | none => s
  | some r =>
    let s1 := s.modTwin fun t => { t with first := none }
    if !agrees then s1.dualAlarm 6
    else
      (s1.modRg pTWIN 0x138 fun v => wd (r + at' ((fld v 16 16 + 1) % 0x10000) 16)).modTwin fun t =>
        { t with taking := some r, twfo := true }

/-- An instance of the replicated table takes up service (R427 step 4). -/
def State.instRevive (s : State) (nn : Nat) : State :=
  if (s.inst nn).st = 2 || (s.inst nn).st = 3 || (s.inst nn).st = 4 then
    (s.instClear nn false).modInst nn fun i =>
      { i with st := 2, drained := false, binsDone := false, limit := false, stopped := [], slots := [] }
  else s

/-- TWFO falls after 1 ms and the device serves (R271, R427 steps 3–5). -/
def State.twfoEnd (s : State) : State :=
  match s.twin.taking with
  | none => s
  | some _ =>
    let s1 := (s.modTwin fun t => { t with taking := none, twfo := false }).twinAlone
    let s2 := s1.modBin fun g => { g with bins := tmap g.bins fun _ r =>
      { r with flags := r.flags / 16 * 16, press := none, digest := none } }
    let s3 := (List.range 64).foldl (fun (t : State) nn => t.instRevive nn) s2
    (s3.msix 0).irq pTWIN 1

/-- TWFI high for 100 µs (R428): an active device is fenced, and asks for a warm reset. -/
def State.twinFence (s : State) : State :=
  if !s.rbit pTWIN 0x100 1 || !(s.twin.state = 2 || s.twin.state = 3) then s
  else
    let s1 := ((s.twinState 6).irq pTWIN 3).linkDown []
    ((vPorts.foldl (fun (t : State) n => t.vLinkDown n) s1).vCease).askReset 8

/-- A paired write of CTRL.HANDOVER (R429). -/
def State.handoverStart (s : State) : State :=
  if s.twin.state = 2 then s.modTwin fun t => { t with handover := true } else s

/-- SEQ_ACK has reached SEQ_TX (R429). -/
def State.handoverDone (s : State) : State :=
  if s.twin.handover && s.changes = [] && s.twin.ack = s.twinSeq then
    let s1 := s.heartbeat 4
    (({ s1 with twinRepl := false }.modTwin fun t => { t with handover := false, bulkEnd := true }).twinState
      5).vCease
  else s

/-! ### Pairing (R422) -/

/-- FORMAT of a pair blob's header (R180, R422). -/
def pairBlobBad (h : List Byte) : Bool :=
  h.take 8 != [0x4B, 0x42, 1, 2, 0x30, 0, 40, 0] || h.drop 8 != zeros 8 ++ [0x7F, 2] ++ zeros 6

/-- A load of the pair key ends with a PAIR_RESULT code. -/
def State.pairEnd (s : State) (code : Nat) : State :=
  ((s.modTwin fun t => { t with pairing := none }).setRg pTWIN 0x110 (wd (code + 0x80000000))).twinPoll

/-- The key store opens a pair blob under slot 1,020 on PRESS0, an ordinary context (R183, R422); it waits for its turn
there. -/
def State.pairTry (s : State) : State :=
  match s.twin.pairing with
  | none => s
  | some b =>
    let h := b.take 24
    let d := b.drop 24
    let r := (s.keyDomain 13 (pPRESS 0)).ownRun .pair [0] (ownCtx 1020 (s.slotMat 1020)) 40
    match r.2 with
    | .ran m =>
      (match r.1.slot 1020, gcmOpen (m.getD (r.1.slotMat 1020)) (d.take 12) h ((d.drop 12).take 40) (d.drop 52) with
       | some _, some x => (r.1.modTwin fun w => { w with key := x.take 32, pserial := x.drop 32 }).pairEnd 0
       | _, _ => r.1.pairEnd 2)
    | _ => r.1

/-- A pair blob is loaded (R422): checked, and then opened. A further load takes the place of one that waits for PRESS0
(DESIGN CHOICE, notes/assumptions/82.md). -/
def State.pairLoad (s : State) : State :=
  if s.twin.state ≠ 0 then s.pairEnd 4
  else
    let r := (s.ownDrop .pair).engRead aVINE ((s.rg pTWIN 0x108).toNat + fld (s.rg pTWIN 0x10C) 0 8 * 2 ^ 32) 92
    if r.fault ≠ .none then r.st.pairEnd 3
    else if pairBlobBad (r.data.take 24) then r.st.pairEnd 1
    else ((r.st.setRg pTWIN 0x110 0).modTwin fun w => { w with pairing := some r.data }).pairTry

/-- A paired write of TWIN.CTRL (R422, R423, R429). -/
def State.twinCtrl (s : State) (v : Word) : State :=
  let s1 := s.setRg pTWIN 0x10 (v &&& 1)
  let s2 := if bitAt v 8 then s1.pairLoad else s1
  let s3 := s2.twinPoll
  if bitAt v 9 then s3.handoverStart else s3

/-! ### Counters (R433) -/

/-- A write of MCNT_INCR. -/
def State.mcntIncr (s : State) (a : Nat) (v : Word) : State :=
  if !bitAt v 0 then s
  else if classOf a != .sys && classOf a != .keyd then s.mcntDone a 2
  else
    let n := fld (s.arg a pTWIN 0x150) 0 4
    let add := (s.arg a pTWIN 0x154).toNat + (s.arg a pTWIN 0x158).toNat * 2 ^ 32
    let x := tget 0 s.twin.counters n + add
    if 2 ^ 64 ≤ x then s.mcntDone a 1
    else
      let s1 := ((s.modTwin fun t => { t with counters := tset t.counters n x }).setArg a pTWIN 0x154
        (wd x)).setArg a pTWIN 0x158 (wd (x / 2 ^ 32))
      let s2 := s1.noteChange 4 n (leBytes 8 x)
      if s.twinRepl && s.twin.state = 2 then
        (s2.setArg a pTWIN 0x160 0).modTwin fun t => { t with waits := tset t.waits a s2.twinSeq }
      else s2.mcntDone a 0

/-! ### Self-test (R435) -/

/-- A self-test ends: its bit of the pass map, and whether it passed. -/
def State.selfTest (s : State) (bit : Nat) (passed : Bool) : State :=
  if s.twin.state ≠ 4 && s.twin.state ≠ 5 then s
  else if passed then s.modTwin fun t => { t with passMap := t.passMap ||| 2 ^ bit }
  else s.modTwin fun t => { t with passMap := t.passMap &&& (0xFFFF ^^^ 2 ^ bit), failed := true,
                                   fails := t.fails + 1 }

/-- A HEALTH packet is sent (R435): HEALTHY when every test since the last one passed. `temp` is the die
temperature in tenths of a degree. -/
def State.healthSend (s : State) (temp : Nat) : State :=
  if s.twin.state ≠ 4 && s.twin.state ≠ 5 then s
  else
    let t := s.twin
    (s.modTwin fun t => { t with well := !t.failed, failed := false }).twinPut 5 0
      (leBytes 4 t.passMap ++ leBytes 4 t.fails ++ leBytes 4 temp ++ leBytes 4 t.ack ++ zeros 16)

/-- The active copies a HEALTH report (R435). -/
def State.healthTake (s : State) (b : List Byte) : State :=
  if s.twin.state ≠ 2 && s.twin.state ≠ 3 then s
  else
    let s1 := (List.range 4).foldl (fun (t : State) i => t.setRg pTWIN (0x140 + 4 * i) (wd (leAt b (4 * i) 4))) s
    if s.twin.peerWell then s1 else s1.irq pTWIN 2

/-- 30 ms without a report (R435). -/
def State.healthGap (s : State) : State :=
  if s.twin.state = 2 || s.twin.state = 3 then s.irq pTWIN 2 else s

/-! ### Resets -/

/-- A reset of the chip (R422, R433, R471): a tamper reset keeps the pair key, and only a cold reset clears
the counters and the count of failures. -/
def State.twinReset (s : State) (cold tamper : Bool) : State :=
  let t := s.twin
  { s with twinRepl := false, twinSeq := 0, changes := [],
           twin := { key := if tamper then t.key else [], pserial := if tamper then t.pserial else [],
                     state := if tamper && t.key != [] then 1 else 0,
                     counters := if cold then [] else t.counters, fails := if cold then 0 else t.fails } }

end Sys2Proof.Machine
end

