-- ==== Sys2Proof/Machine/LcCtl.lean ====
section
/-!
DEFINITION. The life cycle and the debug port (R452–R468): the fuse row and its decode, transitions,
challenge and response, run control, and the trace.
-/
namespace Sys2Proof.Machine

def State.modLc (s : State) (f : LcSt → LcSt) : State := { s with lc := f s.lc }

/-! ### The life-cycle state (R452, R453) -/

/-- The pattern of group `k`, 1 to 4 (R452). -/
def lcPattern (k : Nat) : Nat := [0, 0xA5C3, 0x5A3C, 0x96E1, 0x69D2].getD k 0

/-- What a group reads as (R453). -/
inductive LcRead where
  | blank | full | part | bad
  deriving DecidableEq, Repr

def lcRead (k g : Nat) : LcRead :=
  if g = 0 then .blank
  else if g = lcPattern k then .full
  else if g &&& lcPattern k = g then .part
  else .bad

/-- The reading of group `k` of a fuse row; groups past the fourth are blank. -/
def rowRead (gs : List Nat) (k : Nat) : LcRead := if 4 < k then .blank else lcRead k (gs.getD (k - 1) 0)

/-- The state, INVALID, and the partial group that is to be completed (R453). -/
def lcDecode (gs : List Nat) : Nat × Bool × Option Nat :=
  match rowRead gs 4 with
  | .full => (4, false, none)
  | .part => (4, false, some 4)
  | _ =>
    let k := if rowRead gs 3 = .full then 3 else if rowRead gs 2 = .full then 2
      else if rowRead gs 1 = .full then 1 else 0
    let below := (List.range k).all fun i => rowRead gs (i + 1) == .full
    let next := rowRead gs (k + 1)
    let above := (List.range 4).all fun i => i + 1 ≤ k + 1 || rowRead gs (i + 1) == .blank
    if below && above && (next == .blank || next == .part) then
      (k, false, if next = .part then some (k + 1) else none)
    else (4, true, none)

/-- The implicit grant of a state (R456). -/
def implicitGrant (st : Nat) : Nat := if st = 0 then 0x1F else if st = 1 then 0x13 else 0

/-- The decode at a cold reset (R453): a partial group is completed, after zeroization for RETURNED and
SCRAPPED, unless a bit cannot be blown (`stuck`, R455). -/
def State.lcBoot (s : State) (stuck : Bool) : State :=
  let d := lcDecode s.lc.groups
  match d.2.2 with
  | none => s.modLc fun l => { l with state := d.1, invalid := d.2.1, partialGrp := false, dualFail := false }
  | some k =>
    let s1 := if 3 ≤ k then s.zeroize else s
    if stuck then
      (s1.modLc fun l => { l with state := d.1, invalid := false, partialGrp := true, dualFail := false }).setRg
        pLC 0x10C 0x80000004
    else
      s1.modLc fun l => { l with state := k, invalid := false, partialGrp := false, dualFail := false,
                                 groups := l.groups.set (k - 1) (lcPattern k) }

/-- The two decodes disagree (R453): SCRAPPED until the next cold reset. -/
def State.lcDualFail (s : State) : State := s.modLc fun l => { l with state := 4, dualFail := true }

/-- A debug grant ends (R464). -/
def State.grantEnd (s : State) : State := s.modLc fun l => { l with grant := implicitGrant l.state }

/-- The lowest `n` one bits of a pattern of 16. -/
def lowOnes (p n : Nat) : Nat :=
  ((List.range 16).filter fun i => p.testBit i).take n |>.foldl (fun m i => m + 2 ^ i) 0

/-- A transition's check (R454): the TRESULT code, 0 when it may proceed. -/
def State.lcCheck (s : State) (target : Nat) : Nat :=
  let st := s.lc.state
  if target = 0 || 4 < target || target = st then 1
  else if s.lc.partialGrp && target ≠ st + 1 && target ≠ 4 then 1
  else if target = 4 then 0
  else if target ≠ st + 1 then 1
  else if target = 1 then (if s.key.root.isSome then 0 else 2)
  else if target = 2 then 0
  else (if s.lc.grant.testBit 5 then 0 else 3)

/-- A transition (R454, R455). `stuck` names after how many bits one fails to blow twice. -/
def State.lcTransition (s : State) (target : Nat) (stuck : Option Nat) : State :=
  let c := s.lcCheck target
  if c ≠ 0 then s.setRg pLC 0x10C (wd (c + 0x80000000))
  else
    let s1 := (if 3 ≤ target then s.zeroize else s).grantEnd
    match stuck with
    | some n =>
      (s1.modLc fun l => { l with partialGrp := true,
                                  groups := l.groups.set (target - 1)
                                    (l.groups.getD (target - 1) 0 ||| lowOnes (lcPattern target) n) }).setRg
        pLC 0x10C 0x80000004
    | none =>
      ((s1.modLc fun l => { l with groups := l.groups.set (target - 1)
                                     (l.groups.getD (target - 1) 0 ||| lcPattern target) }).setRg
        pLC 0x10C 0x80000000).askReset 2

/-- PKREVOKE_SET: MCORE alone; the last unrevoked key stays (chapter "Life cycle"). -/
def State.pkRevoke (s : State) (a : Nat) (v : Word) : State :=
  if a ≠ aMCORE then s.err pLC 3
  else
    let m := s.lc.pkRevoke ||| fld v 0 4
    if m = 15 then s.err pLC 1 else s.modLc fun l => { l with pkRevoke := m }

/-! ### Challenge and response (R462–R464) -/

/-- A debug command completes in RESULT (R462, R463). -/
def State.dbgResult (s : State) (code : Nat) : State := (s.setRg pDBG 0x204 (wd (code + 0x80000000))).irq pDBG 0

/-- The challenge's bytes (R462). -/
def challengeBytes (st : Nat) (lock rng : Bool) (serial : List Byte) (scope resets no : Nat)
    (nonce : List Byte) : List Byte :=
  [0x50, 0x43, 1, BitVec.ofNat 8 (st + flagAt lock 3 + flagAt rng 4)] ++ serial ++ leBytes 4 scope ++
    leBytes 4 resets ++ leBytes 4 no ++ nonce ++ leBytes 4 0x01000000 ++ zeros 4

/-- CHAL_CMD (R462). -/
def State.dbgChallenge (s : State) (a : Nat) (v : Word) : State :=
  if a ≠ aDEBUG && a ≠ aMCORE then s.err pDBG 3
  else if !bitAt v 0 then s
  else if s.lc.state = 4 then s.dbgResult 6
  else if 16 ≤ s.lc.failed then s.dbgResult 7
  else
    let r : State × Nat × List Byte :=
      if s.pdOn 23 && s.rng.ready && !s.tamp.lockdown then s.wireDraw 86 32 else (s, 1, [])
    let rng := r.2.1 == 0
    let no := (r.1.rg pDBG 0x148).toNat + 1
    let scope := (r.1.rg pDBG 0x100).toNat
    let b := challengeBytes s.lc.state s.tamp.lockdown rng serialBytes scope s.resets no
      (if rng then r.2.2 else zeros 32)
    let s1 := (List.range 16).foldl (fun (t : State) i =>
      t.setRg pDBG (0x108 + 4 * i) (wd (leAt b (4 * i) 4))) (r.1.setRg pDBG 0x148 (wd no))
    (s1.modLc fun l => { l with challenge := some (b, scope) }).dbgResult 0

/-- A Priesk public key of the device information row (R463). -/
def priesk (k : Nat) : Nat × Nat :=
  let b (i : Nat) : Nat := beNat ((List.range 48).map fun j => Config.infoByte (0x10800400 + 96 * k + i + j))
  (b 0, b 48)

/-- The 128 bytes of RESP0–31. -/
def State.respBytes (s : State) : List Byte :=
  (List.range 32).flatMap fun i => leBytes 4 (s.rg pDBG (0x180 + 4 * i)).toNat

/-- The checks of a response in their order (R463): code and granted scope. -/
def State.respCheck (s : State) : Nat × Nat :=
  let r := s.respBytes
  match s.lc.challenge with
  | none => (1, 0)
  | some (ch, asked) =>
    let scope := leAt r 4 4
    let k := leAt r 3 1
    if r.take 3 ≠ [0x50, 0x52, 1] || (r.drop 12).take 20 ≠ zeros 20 || leAt r 8 4 ≠ (s.rg pDBG 0x148).toNat then
      (2, 0)
    else if 3 < k || s.lc.pkRevoke.testBit k then (3, 0)
    else if scope &&& asked ≠ scope || 128 ≤ scope then (4, 0)
    else if p384.verify (sha384.hash (ch ++ r.take 32)) (priesk k).1 (priesk k).2 (beNat ((r.drop 32).take 48))
        (beNat (r.drop 80)) then (0, scope)
    else (5, 0)

/-- RESP_CMD (R463): the held challenge is consumed and the response is verified. -/
def State.dbgResponse (s : State) (v : Word) : State :=
  if !bitAt v 0 then s
  else if s.lc.verify.isSome then s.setRg pDBG 0x204 0x40000008
  else
    (s.modLc fun l => { l with challenge := none, verify := some s.respCheck }).setRg pDBG 0x204 0x40000000

/-- Verification ends (R463); an UNLOCK scope releases lockdown with a cold reset (R445). -/
def State.dbgVerified (s : State) : State :=
  match s.lc.verify with
  | none => s
  | some (c, scope) =>
    let s1 := (s.modLc fun l => { l with verify := none }).dbgResult c
    if c ≠ 0 then (s1.modLc fun l => { l with failed := l.failed + 1 }).cnt pDBG 0x210
    else
      let s2 := s1.modLc fun l => { l with grant := l.grant ||| scope }
      if scope.testBit 6 && s2.tamp.lockdown then
        ({ s2 with tamp := { s2.tamp with lockdown := false } }).askReset 3
      else s2

/-- REVOKE (R464). -/
def State.dbgRevoke (s : State) (a : Nat) (v : Word) : State :=
  if a ≠ aDEBUG && a ≠ aMCORE then s.err pDBG 3
  else if bitAt v 0 then s.grantEnd else s

/-! ### Run control (R465–R467) -/

/-- A core counts as a KEY-domain core for a grant (R459). -/
def State.keyDomainCore (s : State) (t : Nat) : Bool :=
  8 ≤ t || (s.rbit pSYS 0x100 31 && s.rbit pSYS 0x100 t)

/-- The grant covers a core's run control (R459, R465). -/
def State.haltCovers (s : State) (t : Nat) : Bool :=
  s.lc.grant.testBit 0 && (!s.keyDomainCore t || s.lc.grant.testBit 3)

/-- HALT_REQ (R465): requests outside the grant set ERR.SCOPE and are ignored. -/
def State.haltReq (s : State) (v : Word) : State :=
  let bits := (List.range 10).filter fun t => bitAt v t
  let ok := bits.filter fun t => s.haltCovers t
  let s1 := s.setRg pDBG 0x300 (wd (ok.foldl (fun n t => n + 2 ^ t) 0))
  if ok.length = bits.length then s1 else s1.err pDBG 16

/-- A requested debug halt is taken at an instruction boundary that R82 does not close (R465). -/
def State.haltTaken (s : State) (t : Nat) : State :=
  let c := s.core t
  if s.rbit pDBG 0x300 t && !c.dbgHalt && (c.run = .run || c.run = .wait) && !c.closed then
    (s.setCore t { c with dbgHalt := true }).irq pDBG 1
  else s

/-- DBG.STEP (R465): one instruction with its delay slot. -/
def State.dbgStep (s : State) (v : Word) : State :=
  (List.range 10).foldl (fun (x : State) t =>
    if bitAt v t && (x.core t).dbgHalt then x.modCore t fun c => { c with dbgStep := true } else x) s

/-- DBG.RESUME (R465): the halt and its request end. -/
def State.dbgResume (s : State) (v : Word) : State :=
  (List.range 10).foldl (fun (x : State) t =>
    if bitAt v t then
      (x.modCore t fun c => { c with dbgHalt := false, dbgStep := false }).modRg pDBG 0x300 fun w => clrBitW w t
    else x) s

/-- A write of CDATA (R466). -/
def State.cdataWrite (s : State) (v : Word) : State :=
  let t := fld (s.rg pDBG 0x310) 0 4
  let r := fld (s.rg pDBG 0x310) 8 6
  let c := s.core t
  if !c.dbgHalt || 40 ≤ r then s.err pDBG 17
  else
    s.setCore t
      (if r < 32 then c.setGr r v
       else if r = 32 then { c with pc := v &&& 0xFFFFFFFC }
       else if r = 33 then { c with c := bitAt v 0, v := bitAt v 1 }
       else if r = 34 then { c with lstart0 := v }
       else if r = 35 then { c with lend0 := v }
       else if r = 36 then { c with lcount0 := v }
       else if r = 37 then { c with lstart1 := v }
       else if r = 38 then { c with lend1 := v }
       else { c with lcount1 := v })

/-- A read of CDATA while the core runs sets ERR.CDATA (R466). -/
def State.cdataRead (s : State) : State :=
  if (s.core (fld (s.rg pDBG 0x310) 0 4)).dbgHalt then s else s.err pDBG 17

/-- A write of BPk (R467). -/
def State.bpWrite (s : State) (k : Nat) (v : Word) : State :=
  s.modCore (fld (s.rg pDBG 0x310) 0 4) fun c => { c with bps := c.bps.set k (v &&& 0xFFFFFFFD) }

/-- A breakpoint stands at a core's next instruction, or at the delay slot of a branch (R467). -/
def CoreSt.atBreak (c : CoreSt) (branch : Bool) : Bool :=
  c.bps.any fun b => bitAt b 0 && (b &&& 0xFFFFFFFC == c.pc || (branch && b &&& 0xFFFFFFFC == c.pc + 4))

/-- A core that the grant covers halts at its breakpoint, at the branch of a delay slot (R467). -/
def State.breakpoint (s : State) (t : Nat) (branch : Bool) : State :=
  let c := s.core t
  if c.atBreak branch && c.slot.isNone && c.run = .run && !c.dbgHalt && !c.closed && s.haltCovers t then
    (s.setCore t { c with dbgHalt := true }).irq pDBG 1
  else s

/-! ### Trace (R468) -/

/-- A core is traced (R468). -/
def State.traced (s : State) (t : Nat) : Bool :=
  s.lc.grant.testBit 4 && s.rbit pTRACE 0x100 t && s.haltCovers t && s.pdOn 53

/-- A taken branch (0), exception entry (1) or RETX (2) of a traced core awaits its record. -/
def State.traceEvent (s : State) (t kind : Nat) (target : Word) : State :=
  if s.traced t then { s with traceQ := s.traceQ ++ [(t, kind, target, (s.core t).cycle)] } else s

/-- One 8-byte record into the ring (R468): a refused write stops tracing. -/
def State.traceWrite (s : State) (kind : Nat) (target : Word) (core cycle : Nat) : State :=
  let size := 2 ^ fld (s.rg pTRACE 0x100) 16 5
  let wr := (s.rg pTRACE 0x10C).toNat % size
  let base := fld (s.rg pTRACE 0x104) 12 20 * 0x1000 + fld (s.rg pTRACE 0x108) 0 8 * 2 ^ 32
  let r := s.engWrite1 aDEBUG (base + wr)
    (leBytes 4 (target.toNat / 4 * 4 + kind) ++ leBytes 4 (core + at' (cycle % 2 ^ 24) 8))
  if r.fault = .none then r.st.setRg pTRACE 0x10C (wd ((wr + 8) % size))
  else ((r.st.modRg pTRACE 0x100 fun v => v &&& 0xFFFFFC00).err pTRACE 16)

/-- The oldest event gets its record, or is dropped for want of bandwidth (R468): dropped ones are counted
and marked by one record of kind 3. -/
def State.traceRecord (s : State) (drop : Bool) : State :=
  match s.traceQ with
  | [] => s
  | (t, k, x, cy) :: r =>
    let s1 : State := { s with traceQ := r }
    if drop then ({ s1 with traceLost := true } : State).cnt pTRACE 0x110
    else
      let s2 := if s1.traceLost then ({ s1 with traceLost := false } : State).traceWrite 3 0 t cy else s1
      if bitAt (s2.rg pTRACE 0x100) t then s2.traceWrite k x t cy else s2

/-! ### Resets -/

/-- A cold, warm or tamper reset of LC and DBG (R456, R464): the grant is the implicit one, no challenge is
held; only a cold or warm reset clears the count of failures (R462). -/
def State.lcReset (s : State) (tamper : Bool) : State :=
  ({ s with traceQ := [], traceLost := false }.modLc fun l =>
    { l with challenge := none, verify := none, failed := if tamper then l.failed else 0 }).grantEnd

/-- A block reset of DBG (R464). -/
def State.dbgBlockReset (s : State) : State :=
  (s.modLc fun l => { l with challenge := none, verify := none }).grantEnd

end Sys2Proof.Machine
end

