-- ==== Sys2Proof/Machine/PwrCtl.lean ====
section
/-!
DEFINITION. Power domains, regulators and the DRAM rails (R476–R490, R514), the clock block (R491–R494),
and the levels of the physical alarm sources (R437).
-/
namespace Sys2Proof.Machine

def State.modPwr (s : State) (f : PwrSt → PwrSt) : State := { s with pwr := f s.pwr }

/-! ### Physical alarm sources -/

/-- The level of a source that needs VIN rises (R437): it is raised on that edge, and not again while the level
stays. -/
def State.raiseSource (s : State) (src : Nat) : State :=
  if s.rbit pTAMP 0x184 src || !s.tamp.vin then s
  else (s.modRg pTAMP 0x184 fun v => setBitW v src).alarm (2 ^ src)

/-- A source's level falls (R437). -/
def State.fallSource (s : State) (src : Nat) : State := s.modRg pTAMP 0x184 fun v => clrBitW v src

/-! ### Switching domains (R486–R490) -/

/-- The domain that a domain needs (R489). -/
def pdNeeds (d : Nat) : Option Nat :=
  if 3 ≤ d && d ≤ 10 then some (24 + (d - 3) / 2)
  else if d = 33 || d = 34 then some 32
  else if d = 55 then some 31
  else if d = 51 then some 54
  else none

/-- FIXED for a request (R486, R514): marked never, or an island's own. -/
def pdFixed (d : Nat) (on : Bool) : Bool :=
  [0, 1, 2, 11, 12, 30, 48, 52].contains d || (d == 23 && !on)

/-- A Press or digest unit with nothing queued and no context open on chip (R210, R225): a poisoned one is not open. -/
def State.unitIdle (s : State) (u : Nat) : Bool :=
  let t := s.unit u
  t.queue == [] && t.segs == [] && (t.ctxs.all fun e => e.2.poisoned) && t.wants == [] && !t.resetting && !t.unbin

/-- A flash channel neither busy nor suspended, no island request, JRNL not programming (R147, R311). -/
def State.flashIdle (s : State) : Bool :=
  s.flash.chans.all (fun c => c.prog.isNone && c.erase.isNone && c.check.isNone && !c.lowers) && !s.flash.islandReq

/-- The condition under which a domain may be switched off (R486). -/
def State.pdMayStop (s : State) (d : Nat) : Bool :=
  if 3 ≤ d && d ≤ 10 then (s.core (d - 3)).run == .reset
  else if d = 13 then s.unitIdle 0 && s.key.run.isNone
  else if 14 ≤ d && d ≤ 16 then s.unitIdle (d - 13)
  else if 17 ≤ d && d ≤ 20 then (s.stave (d - 17)).claim.isNone
  else if d = 21 then (List.range 4).all (fun i => s.unitIdle (4 + i)) && s.key.run.isNone
  else if d = 22 then s.unitIdle 8 && s.unitIdle 9
  else if 24 ≤ d && d ≤ 27 then
    (s.core (2 * (d - 24))).run == .reset && (s.core (2 * (d - 24) + 1)).run == .reset
  else if d = 31 || d = 55 then !s.en pBIN
  else if d = 32 || d = 33 then !s.pwr.dramUp
  else if d = 34 then !s.mseal.winReady && !s.mseal.initBusy
  else if d = 35 then s.flashIdle
  else if d = 36 then s.hostIdle && s.host.queue == [] && s.host.running == []
  else if d = 37 then s.strmIdle
  else if 38 ≤ d && d ≤ 43 then s.vMode (d - 38) == 0
  else if 44 ≤ d && d ≤ 47 then s.rdrIdle (2 * (d - 44)) && s.rdrIdle (2 * (d - 44) + 1)
  else if d = 49 then s.cardsIdle
  else if d = 50 then s.sdIdle
  else if d = 53 then
    s.lc.grant == implicitGrant s.lc.state && s.lc.challenge.isNone && s.lc.verify.isNone &&
      (List.range 10).all (fun t => !(s.core t).dbgHalt) && fld (s.rg pTRACE 0x100) 0 10 == 0 &&
      !s.tamp.lockdown
  else true

/-- A request's code, none where it starts a switch (R487). -/
def State.pwrJudge (s : State) (d : Nat) (on : Bool) : Option Nat :=
  if 55 < d then some 4
  else if s.onBits.testBit d = on then some 0
  else if pdFixed d on then some 1
  else if on && (match pdNeeds d with | some e => !s.pdOn e | none => false) then some 3
  else if !on && (List.range 56).any (fun e => pdNeeds e == some d && s.onBits.testBit e) then some 3
  else if !on && !s.pdMayStop d then some 2
  else none

/-- A write of PWR.REQ (R487, R488). -/
def State.pwrReq (s : State) (a : Nat) (v : Word) : State :=
  if a ≠ aMCORE then s.err pPWR 3
  else if s.pwr.switching.isSome then s.err pPWR 16
  else
    let d := fld v 0 6
    match s.pwrJudge d (bitAt v 8) with
    | some 0 => (s.setRg pPWR 0x10C (wd (at' d 8 + 0x80000000))).irq pPWR 0
    | some c => ((s.setRg pPWR 0x10C (wd (c + at' d 8 + 0x80000000))).cnt pPWR 0x11C).irq pPWR 1
    | none =>
      (s.setRg pPWR 0x10C (wd (at' d 8 + 0x40000000))).modPwr fun p => { p with switching := some (d, bitAt v 8) }

/-- The domain that serves an address (R24, R111). -/
def addrDomain (a : Nat) : Option Nat :=
  match regionOf a with
  | some (.page pg) => (pageKind pg).map pageDomain
  | some (.stave n) => some (17 + n)
  | some (.flash _) => some 35
  | some .info => some 35
  | some .dram => some 32
  | _ => (sramBankOf a).map bankDomain

/-- What a domain holds beyond its registers starts anew, or ends with its supply (R490). -/
def State.pdFresh (s : State) (d : Nat) (on : Bool) : State :=
  if 3 ≤ d && d ≤ 10 then s.coreToReset (d - 3)
  else if 13 ≤ d && d ≤ 16 then s.setUnit (d - 13) {}
  else if 17 ≤ d && d ≤ 20 then s.staveFresh (d - 17)
  else if d = 21 then (List.range 4).foldl (fun (t : State) i => t.setUnit (4 + i) {}) s
  else if d = 22 then (s.setUnit 8 {}).setUnit 9 {}
  else if d = 23 then { s with rng := {} }
  else if 24 ≤ d && d ≤ 31 then (if on then s.bankOn (d - 24) else s.bankOff (d - 24))
  else if d = 33 then
    (if on then s else s.modPwr fun p => { p with pllLocked := p.pllLocked &&& 0x1B, pllLost := p.pllLost &&& 0x1B })
  else if d = 34 then s.msealReset
  else if d = 35 then (s.flashReset).jrnlReset
  else if d = 36 then s.hostReset
  else if d = 37 then s.strmReset
  else if 38 ≤ d && d ≤ 43 then s.vPortReset (d - 38)
  else if 44 ≤ d && d ≤ 47 then (s.rdrReset (2 * (d - 44))).rdrReset (2 * (d - 44) + 1)
  else if d = 49 then (List.range 4).foldl (fun (t : State) n => t.cardReset n) s
  else if d = 50 then s.sdReset
  else if d = 53 then s.dbgBlockReset
  else if d = 55 then s.binReset
  else s

/-- The pages of a domain, general I/O with its bridge apart (R24, R25). -/
def pdPages (d : Nat) : List Nat :=
  allPages.filter fun pg => match pageKind pg with | some k => pageDomain k == d | none => false

/-- The card PLL runs while PD49 or PD50 is on. -/
def State.apllFollow (s : State) : State :=
  s.modPwr fun p =>
    if p.on.testBit 49 || p.on.testBit 50 then
      (if p.pllLost.testBit 3 then p else { p with pllLocked := p.pllLocked ||| 8 })
    else { p with pllLocked := p.pllLocked &&& 0x17, pllLost := p.pllLost &&& 0x17 }

/-- A domain changes state at once: a switch that ends, or a reset's column of R486. -/
def State.pdSwitch (s : State) (d : Nat) (on : Bool) : State :=
  let bits := if on then s.pwr.on ||| 2 ^ d else s.pwr.on &&& (2 ^ 56 - 1 - 2 ^ d)
  let s1 := s.modPwr fun p => { p with on := bits }
  let s2 := if on then (pdPages d).foldl (fun (t : State) pg => t.pagePowerOn pg) s1 else s1
  (s2.pdFresh d on).apllFollow

/-- A switch ends (R488, R490): an off-switch waits for the accesses admitted before it. -/
def State.pwrDone (s : State) : State :=
  match s.pwr.switching with
  | none => s
  | some (d, on) =>
    if !on && s.flights.any (fun f => addrDomain f.addr == some d) then s
    else
      let s1 := (s.modPwr fun p => { p with switching := none }).pdSwitch d on
      (s1.setRg pPWR 0x10C (wd (at' d 8 + 0x80000000))).irq pPWR 0

/-! ### Rails (R480–R485) -/

/-- Loads on BST (R481): a reader field other than OFF, or a contact slot that holds class A. -/
def State.bstLoaded (s : State) : Bool :=
  (s.rdrs.any fun e => e.2.level != 0) || s.cards.any fun e => e.2.cls == 1

/-- RAILCTL.BST (R481). -/
def State.railBst (s : State) (on : Bool) : State :=
  if !on && s.bstLoaded && s.rbit pPWR 0x120 0 then s.err pPWR 18
  else (s.modRg pPWR 0x120 fun v => putBitW v 0 on).modPwr fun p => { p with rails := p.rails.set 5 (if on then 2 else 0) }

/-- RAILCTL.DRAM (R484, R485). Down, the contents are lost. -/
def State.railDram (s : State) (on : Bool) : State :=
  if on then
    (if s.pwr.dramUp || s.pwr.dramBusy then s
     else if !s.pdOn 32 || !s.pdOn 33 then s.err pPWR 17
     else (s.modRg pPWR 0x120 fun v => setBitW v 1).modPwr fun p =>
       { p with dramBusy := true, rails := p.rails.set 2 1 })
  else if !s.pwr.dramUp && !s.pwr.dramBusy then s
  else if s.ddr.mode ≠ 0 && s.ddr.mode ≠ 3 then s.err pPWR 17
  else
    let s1 := (s.modRg pPWR 0x120 fun v => clrBitW v 1).modPwr fun p =>
      { p with dramUp := false, dramBusy := false, rails := (p.rails.set 2 0).set 3 0 }
    let gone := memClear s1.mem dramBase 0x200000000
    ({ s1 with mem := gone,
               ddr := { s1.ddr with mode := 0, trained := false, keyNo := s1.ddr.keyNo + 1,
                                    zeroLo := 0, zeroLen := 0 } }).irq pPWR 2

/-- A paired write of RAILCTL (R481, R484, R485): each field that changes is judged by its own rule. -/
def State.railWrite (s : State) (v : Word) : State :=
  let old := s.rg pPWR 0x120
  let s1 := if bitAt v 0 != bitAt old 0 then s.railBst (bitAt v 0) else s
  if bitAt v 1 != bitAt old 1 then s1.railDram (bitAt v 1) else s1

/-- The DRAM rails are ready (R484 step 5). -/
def State.railsReady (s : State) : State :=
  if !s.pwr.dramBusy then s
  else (s.modPwr fun p => { p with dramUp := true, dramBusy := false, rails := (p.rails.set 2 2).set 3 2 }).irq pPWR 2

/-- A regulator leaves ±8 % (R480). -/
def State.railFault (s : State) (k : Nat) : State :=
  (s.modPwr fun p => { p with rails := p.rails.set k 3 }).raiseSource 4

/-- A bank's supply is sensed (R478): 0 absent, 1 1.8 V, 2 3.3 V, 3 outside both windows. -/
def State.vioSense (s : State) (bank level : Nat) : State :=
  s.modPwr fun p => { p with vio := if bank = 0 then p.vio / 4 * 4 + level else p.vio % 256 + 256 * level }

/-! ### Clocks (R491–R494) -/

/-- A write of CLK.CFG (R493). -/
def State.clkCfg (s : State) (a : Nat) (v : Word) : State :=
  if a ≠ aMCORE then s.err pCLK 3
  else
    let sel := v &&& 3
    if s.rg pCLK 0x100 = sel then s
    else (s.setRg pCLK 0x100 sel).modPwr fun p => { p with coreSwitching := true }

/-- CPLL has locked at the new rate (R493). -/
def State.clkSwitched (s : State) : State := s.modPwr fun p => { p with coreSwitching := false }

/-- Running card and SD commands complete with TIMEOUT (R492). -/
def State.cardClockLost (s : State) : State :=
  let s1 := (List.range 4).foldl (fun (t : State) n => if (t.card n).run.isSome then t.cardTimeout n else t) s
  if s1.sdc.run.isSome then s1.sdFinish 9 else s1

/-- A running PLL loses lock (R436, R492): 0 CPLL, 1 MPLL, 2 DPLL, 3 APLL, 4 SPLL. -/
def State.pllLoss (s : State) (k : Nat) : State :=
  if !s.pwr.pllLocked.testBit k then s
  else
    let s1 := (s.modPwr fun p => { p with pllLocked := p.pllLocked ^^^ 2 ^ k, pllLost := p.pllLost ||| 2 ^ k }).irq pCLK 0
    if k < 2 then s1.raiseSource 6
    else
      let s2 := s1.cnt pCLK 0x10C
      if k = 3 then s2.cardClockLost else if k = 4 then s2.strmLost else s2

/-- A PLL that lost lock locks again (R492). -/
def State.pllReturn (s : State) (k : Nat) : State :=
  if s.pwr.pllLost.testBit k then
    s.modPwr fun p => { p with pllLocked := p.pllLocked ||| 2 ^ k, pllLost := p.pllLost ^^^ 2 ^ k }
  else s

/-- SPLL runs while STRM.CTRL.EN is 1 and SREF is supplied (R492). -/
def State.spllFollow (s : State) : State :=
  s.modPwr fun p =>
    if s.en pSTRM then (if p.pllLost.testBit 4 then p else { p with pllLocked := p.pllLocked ||| 16 })
    else { p with pllLocked := p.pllLocked &&& 15, pllLost := p.pllLost &&& 15 }

end Sys2Proof.Machine
end

