-- ==== Sys2Proof/Machine/Access.lean ====
section
/-!
DEFINITION. Reading and writing register pages as an agent does: what a read changes (R3, R5, R164, R416),
the rules of each access code (R4–R8), CTRL with its block resets (R10, R28), and the write of each
block's own registers.
-/
namespace Sys2Proof.Machine

/-! ### Block resets -/

/-- A block reset of the watchdog leaves CTRL, LOAD, WARN and the count (R512). -/
def State.wdogBlockReset (s : State) : State :=
  (((s.pageWarm pWDOG).setRg pWDOG 0x10 (s.rg pWDOG 0x10)).setRg pWDOG 0x100 (s.rg pWDOG 0x100)).setRg
    pWDOG 0x10C (s.rg pWDOG 0x10C)

/-- What becomes of a block's own state in a block reset, ahead of its registers (R10, R28). -/
def State.blockStop (s : State) (kd : PageKind) : State :=
  match kd with
  | .core n => s.coreToReset n
  | .mseal => s.msealBlockReset
  | .flash => s.flashBlockReset
  | .jrnl => s.jrnlReset
  | .key => s.keyBlockReset
  | .bin => s.abortBinned.binBlockReset
  | .press n => s.unitBlockReset n
  | .digest n => s.unitBlockReset (4 + n)
  | .stave n => s.staveBlockReset n
  | .stavel => s.staveBlockReset 4
  | .rdr n => s.rdrReset n
  | .tag => s.tagBlockReset
  | .card n => s.cardReset n
  | .sdc => s.sdReset
  | .strm => s.strmBlockReset
  | .vine => s.vCtrl 0 false
  | .vport n => s.vLinkDown n
  | .time => s.timeReset false
  | .host => s.hostBlockReset
  | .dbg => s.dbgBlockReset
  | _ => s

/-- A block reset of a page (R10); the page's CTRL takes its W value. Pages whose chapter gives another
meaning are named first (R167, R364, R382, R512, R513). -/
def State.blockReset (s : State) (a pg : Nat) (kd : PageKind) : State :=
  match kd with
  | .pwr | .clk | .rng => s
  | .wdog => s.wdogBlockReset
  | .legal => (s.setRg pLEGAL 0x10 0).mbSrst
  | .inst n => s.instSrst a n
  | .twin => (s.pageWarm pg).twinPoll
  | .strm => ((s.blockStop kd).pageWarm pg).spllFollow
  | .vport _ => ((s.blockStop kd).pageWarm pg).twinPoll
  | _ => (s.blockStop kd).pageWarm pg

/-! ### CTRL -/

/-- Only MCORE writes CTRL of these pages (R74, R114, R422). -/
def ctrlMcore : PageKind → Bool
  | .core _ | .lcore | .sram | .twin => true
  | _ => false

/-- CTRL takes a value (R28); SRST performs a block reset and leaves EN at 0. EN of a core page keeps the value
written, also where the release it asked for is refused (DESIGN CHOICE: R75 does not say what EN then reads;
notes/assumptions/75.md). -/
def State.ctrlApply (s : State) (a pg : Nat) (kd : PageKind) (v : Word) : State :=
  let store := s.setRg pg 0x10 (v &&& ctrlStored kd)
  if bitAt v 1 && kd != .pwr && kd != .clk && kd != .rng then s.blockReset a pg kd
  else
    match kd with
    | .core n => if bitAt v 0 then store.coreEnable n else store.coreToReset n
    | .sram => store.sramCtrl v
    | .ddr => store.ddrCtrl v
    | .mseal => store.msealCtrl v
    | .rng => s.rngCtrl v
    | .key => s.keyCtrl v
    | .bin => s.binCtrl v
    | .wdog => s.wdogCtrl v
    | .vine => s.vCtrl v s.mayRoot
    | .twin => s.twinCtrl v
    | .tamp => if bitAt v 8 then (let t := store.tampResume a
        if store.tamp.halted && !t.tamp.halted then t.dmaResume else t) else store
    | .strm => (if bitAt v 0 then store else store.strmDown).spllFollow
    | .inst _ => s
    | _ => store

/-- A write of CTRL: held pending where it is RWP, direct where it is RW (R24, R28). -/
def State.ctrlWrite (s : State) (a pg : Nat) (kd : PageKind) (v : Word) : State :=
  if ctrlMcore kd && a != aMCORE then s.err pg 3
  else if ctrlPaired kd then s.pairOpen a pg 0x10 v
  else s.ctrlApply a pg kd v

/-- A write of CTRL_N; on a page whose CTRL is RW the offset is reserved (R28). From an agent that the page does
not admit it sets ERR.AGENT beside what R6 gives a complement of another agent. -/
def State.ctrlNWrite (s : State) (a pg : Nat) (kd : PageKind) (v : Word) : State :=
  if ctrlMcore kd && a != aMCORE then (s.err pg 3).pairForeign pg 0x10
  else if !ctrlPaired kd then s
  else
    match s.pairClose a pg 0x10 v with
    | (t, some x) => t.ctrlApply a pg kd x
    | (t, none) => t

/-! ### Block-specific registers -/

/-- A paired write took effect (R6): the register named by its page's kind and its offset. -/
def State.pairEffect (s : State) (kd : PageKind) (off : Nat) (v : Word) : State :=
  match kd with
  | .gate g => s.gateCommit g v
  | .key => s.keyCfg v
  | .pwr => s.railWrite v
  | .lc => s.lcTransition (fld v 0 3) none
  | .rst =>
    if off = 0x104 then (if bitAt v 0 then s.askReset 6 else s)
    else (if bitAt v 0 then s.askReset 16 else s)
  | _ => s

/-- Who writes RST.SWRST and RST.ESCRST (R469, R474). -/
def State.mayReset (s : State) (a off : Nat) : Bool :=
  a == aMCORE || (a == aDEBUG && (off == 0x104 || off == 0x108) && s.lc.grant.testBit 1 &&
    s.lc.grant.testBit 3)

/-- DTB to ENTRY, VTB and ESCPC of a core page (R74, R78); on page 0x81 the start logic stands in MCORE's
place, so LCORE's own writes are discarded (R341). -/
def State.coreRegWrite (s : State) (a n pg off : Nat) (v : Word) : State :=
  if a ≠ aMCORE then s.err pg 3
  else if n ≠ 9 && (s.core n).run != .reset then s.err pg 16
  else s.setRg pg off v

/-- SNAP.PAGE_EN: pages 0x81–0x84 have no bit, and instance pages belong to MCORE (R38, R41). -/
def State.pageEnWrite (s : State) (a off : Nat) (v : Word) : State :=
  if off = 0x150 then s.setRg pSNAP off (v &&& ~~~ (0x1E : Word))
  else if (off = 0x160 || off = 0x164) && a != aMCORE then s
  else s.setRg pSNAP off v

/-- A debug register (R462–R467). -/
def State.dbgWrite (s : State) (a off : Nat) (v : Word) (store : State) : State :=
  if off = 0x104 then s.dbgChallenge a v
  else if off = 0x200 then s.dbgResponse v
  else if off = 0x20C then s.dbgRevoke a v
  else if off = 0x300 then s.haltReq v
  else if off = 0x308 then s.dbgStep v
  else if off = 0x30C then s.dbgResume v
  else if off = 0x314 then s.cdataWrite v
  else if 0x320 ≤ off then s.bpWrite ((off - 0x320) / 4) v
  else store

/-- A Vine register (R409–R421). -/
def State.vineWrite (s : State) (a off : Nat) (v : Word) (store : State) : State :=
  if off = 0x128 then s.vJanswer a v
  else if off = 0x13C then s.vMsgSend a v
  else if 0x144 ≤ off && off ≤ 0x14C then s.vRxWrite off (v &&& (if off = 0x144 then 0xFFFFFFE0 else if off = 0x148 then 0xFF else 0xFFF))
  else if off = 0x158 then s.vSnapFire a v
  else store

/-- A register that is neither RO, RC nor paired: its effect, `store` being the plain masked store. -/
def State.kindWrite (s : State) (a : Nat) (kd : PageKind) (pg off : Nat) (v : Word) (store : State) : State :=
  match kd with
  | .pwr => s.pwrReq a v
  | .clk => if off = 0x100 then s.clkCfg a v else store
  | .snap =>
    if off = 0x100 then s.snapFire v
    else if off = 0x104 then s.setRg pSNAP off ((v &&& 0x113) ||| 0xC)
    else s.pageEnWrite a off v
  | .irq =>
    if off = 0x680 then s.modRg pIRQ 0x680 fun w => w ||| v
    else if off = 0x684 then s.modRg pIRQ 0x680 fun w => w &&& ~~~ v
    else store
  | .time =>
    if off = 0x110 then s.timeSet a v
    else if 0x200 ≤ off && off % 8 = 4 then s.timeArm ((off - 0x200) / 8) v
    else store
  | .wdog => if off = 0x104 then s.wdogKick v else store
  | .core n => s.coreRegWrite a n pg off v
  | .lcore => if off = 0x144 then store else s.coreRegWrite a 10 pg off v
  | .gate _ => s.stageWrite pg off v
  | .ddr => s.ddrCfgWrite off v
  | .mseal => s.msealWinWrite off v
  | .flash => if off ≤ 0x158 then s.flashWrite a off v else store
  | .jrnl => if off = 0x138 then s.jrnlCommand a v else store
  | .rng => s.setRg pRNG off (clampCap v)
  | .key =>
    if off = 0x108 then s.keyCommand v else if off = 0x13C then s.keyInject a v else store
  | .bin => if off ≤ 0x108 then s.binCfgWrite off v else if off = 0x120 then s.binCommand a v else store
  | .press n => if off = 0x104 then s.unitSubmit n a v else store
  | .digest n => if off = 0x104 then s.unitSubmit (4 + n) a v else store
  | .stave n => s.staveWrite a n off v
  | .stavel => s.staveWrite a 4 off v
  | .rdr n => if off = 0x128 || off = 0x130 || off = 0x170 || off = 0x108 then store else s.rdrWrite n off v
  | .tag => if off = 0x100 then s.tagCommand a v else store
  | .card n => if off = 0x100 || off = 0x104 then store else s.cardWrite n off v
  | .sdc => if off = 0x104 then s.sdCommand a v else store
  | .host =>
    if off = 0x10C then s.fwAnswer v
    else if off = 0x114 then s.dmaSubmit a v
    else if 0x800 ≤ off then s.medWrite off v
    else store
  | .strm => if off = 0x114 then s.flowCommand a v else store
  | .vine => s.vineWrite a off v store
  | .vport n => (s.vModeWrite n v).twinPoll
  | .twin =>
    if off = 0x15C then s.mcntIncr a v
    else if a != aMCORE && (off = 0x100 || off = 0x108 || off = 0x10C || off = 0x114 || off = 0x118) then
      s.err pTWIN 3
    else store
  | .legal => s.mbWrite a off v
  | .afe => s.calWrite pAFE off v
  | .lrtc => if off = 0x110 then s.lrtcSetcmd v else s.calWrite pLRTC off v
  | .tamp =>
    if off ≤ 0x17C then s.respWrite ((off - 0x100) / 4) v
    else if off = 0x198 then s.loopCfgWrite v
    else if off = 0x1B4 then s.fuseProg a v
    else store
  | .bkp => if off = 0x100 then s.flagClear a v else store
  | .lc => s.pkRevoke a v
  | .dbg => s.dbgWrite a off v store
  | .inst n => s.instWrite a n off v
  | _ => store

/-- The agents a row admits (R101, R178, R203). -/
def whoAdmits (w : Who) (a : Nat) : Bool :=
  match w with
  | .any => true
  | .mcore => a == aMCORE
  | .kcore => a == aKCORE
  | .sysKeyd => classOf a == .sys || classOf a == .keyd

/-- A register is locked by its page's LOCK (R8, R30): ALL covers the RWL fields, the row's own bits the
rest. -/
def State.rowLocked (s : State) (pg : Nat) (r : RegRow) : Bool :=
  (s.rg pg 0x30 &&& ((if r.acc == .rwl then 1 else 0) ||| wd r.lock)) != 0

/-- A write to a block-specific offset (R3–R8). A complement from an agent that its register does not admit sets
ERR.AGENT beside what R6 gives a complement of another agent. -/
def State.blockWrite (s : State) (a pg : Nat) (kd : PageKind) (off : Nat) (v : Word) : State :=
  if kd = .sys then (if off ≤ 0x10C then s.sysWrite a off v else s)
  else if kd = .irq && 0x3F0 ≤ off && off ≤ 0x3FC then s
  else if kd = .legal && a = aLCORE && 0x200 ≤ off && off < 0x400 then s.lflWrite off v
  else
    match findRow kd off with
    | none => s
    | some r =>
      if r.acc = .ro || r.acc = .rc then
        (if kd = .dbg && off = 0x314 then s.cdataWrite v
         else if kd = .flash && (off = 0x11C || off = 0x120) then s.flashBreak 0
         else if kd = .flash && (off = 0x15C || off = 0x160) then s.flashBreak 1
         else s)
      else if !whoAdmits r.who a || (kd = .rst && (r.acc = .rwp || r.acc = .rwpN) && !s.mayReset a off) then
        (if r.acc = .rwpN then (s.err pg 3).pairForeign pg (off - 4) else s.err pg 3)
      else if s.rowLocked pg r then s.err pg 1
      else if r.acc = .rwp then s.pairOpen a pg off v
      else if r.acc = .rwpN then
        (match s.pairClose a pg (off - 4) v with
         | (t, some x) => t.pairEffect kd (off - 4) x
         | (t, none) => t)
      else
        s.kindWrite a kd pg off (v &&& r.mask)
          (if r.perAgent then s.setArg a pg off (v &&& r.mask) else s.setRg pg off (v &&& r.mask))

/-- An aligned 32-bit write to a page by an agent that its gate admitted (R3). IRQ_EN stores all 32 bits, also
those whose IRQ_RAW bit the page does not define (DESIGN CHOICE: R4 and R27 leave it open;
notes/assumptions/75.md). -/
def State.pageWrite (s : State) (a pg off : Nat) (v : Word) : State :=
  match pageKind pg with
  | none => s
  | some kd =>
    if (match kd with | .inst _ => true | _ => false) && (instOf a).isSome && off < 0xF00 &&
        !(0x200 ≤ off && off ≤ 0x23C) then s.err pg 3
    else if off = 0x10 then s.ctrlWrite a pg kd v
    else if off = 0x14 then s.ctrlNWrite a pg kd v
    else if off = 0x1C then s.modRg pg 0x1C fun w => w &&& ~~~ v
    else if off = 0x24 then s.setRg pg 0x24 v
    else if off = 0x2C then s.modRg pg 0x20 fun w => w &&& ~~~ v
    else if off = 0x30 then s.modRg pg 0x30 fun w => w ||| (v &&& lockBits kd)
    else if off < 0x100 || 0xE00 ≤ off then s
    else s.blockWrite a pg kd off v

/-! ### Reads -/

/-- A register that a read clears (RC): PARITY_ERR and the rows of code RC. -/
def readClears (kd : PageKind) (off : Nat) : Bool :=
  off == 0x34 || (match findRow kd off with | some r => r.acc == .rc | none => false)

/-- An aligned 32-bit read of a page by an agent that its gate admitted: the value, and what the read
changes. -/
def State.pageRead (s : State) (a pg off : Nat) : State × Word :=
  match pageKind pg with
  | none => (s, 0)
  | some kd =>
    let v := s.regView a pg off
    if readClears kd off then (s.setRg pg off 0, v)
    else if kd = .time && off = 0x100 then (s.timeRead a, v)
    else if kd = .rng && off = 0x100 then s.rngDataRead a
    else if kd = .bkp && off = 0x100 then (s.flagRead a, v)
    else if kd = .dbg && off = 0x314 then (s.cdataRead, v)
    else if kd = .legal && a = aLCORE && 0x200 ≤ off && off < 0x220 then (s, s.rg pLEGAL off)
    else if kd = .lcore && (off = 0x140 || off = 0x148) then (s, wd ((s.lirqView off).getD 0))
    else (s, v)

/-- A read that finds a parity error in a register (R31): zero, ERR.PARITY, PARITY_ERR and REG_PARITY. -/
def State.regParity (s : State) (pg off : Nat) : State :=
  let s1 := (s.err pg 2).modRg pg 0x34 fun v =>
    let n := min 255 (fld v 16 8 + 1)
    if bitAt v 31 then wd ((v &&& 0xFF00FFFF).toNat + at' n 16)
    else wd (off % 0x1000 / 4 * 4 + at' n 16 + 0x80000000)
  s1.alarm (2 ^ 16)

/-- The state and answer of an access to a page. -/
structure PageAns where
  st : State
  data : Word := 0
  fault : BusFault := .none

/-- An access to a page that its range check and gate have admitted (R3, R31): another width or alignment
is refused, and sets ERR.ACCESS. -/
def State.pageAccess (s : State) (a addr size : Nat) (k : AccKind) (v : Word) (u : Upset) : PageAns :=
  let pg := (pageOfAddr addr).getD 0
  let off := addr % 0x1000
  if size ≠ 4 || addr % 4 ≠ 0 || k = .fetch then { st := s.err pg 4, fault := .access }
  else if k = .write then
    (if u = .dataParity then { st := s.parityMet, fault := .parity }
     else
       let t := (s.pageWrite a pg off v).settle
       if u = .rspParity then { st := t.parityMet, fault := .parity } else { st := t })
  else if u = .regParity then { st := s.regParity pg off, fault := .parity }
  else
    let r := s.pageRead a pg off
    if u = .rspParity then { st := r.1.settle.parityMet, fault := .parity }
    else { st := r.1.settle, data := r.2 }

/-- An access at its target, memory or page (R3, R107). -/
def State.atTarget (s : State) (a addr n : Nat) (k : AccKind) (bs : List Byte) (u : Upset) : MemAns :=
  if isMemory addr then s.atMem a addr n k bs u
  else
    let r := s.pageAccess a addr n k (wordOf bs) u
    { st := r.st, data := if r.fault = .none then leBytes n r.data.toNat else List.replicate n 0, fault := r.fault }

/-- A page that makes an agent's admitted access wait: RNG.DATA for an instantiation (R164), CMD_HI of a Stave for a
place in its queue (R236). -/
def State.pageWaits (s : State) (a addr : Nat) (k : AccKind) : Bool :=
  match pageOfAddr addr with
  | some pg =>
    (match pageKind pg with
     | some .rng => addr % 0x1000 == 0x100 && k == .read && s.rngDataWaits a
     | some (.stave n) => addr % 0x1000 == 0x108 && k == .write && s.staveFull a n
     | some .stavel => addr % 0x1000 == 0x108 && k == .write && s.staveFull a 4
     | _ => false)
  | none => false

/-- An access begins to wait at its target: a read of RNG.DATA has asked for its instantiation (R157). -/
def State.beginWait (s : State) (a addr : Nat) : State :=
  if pageOfAddr addr = some pRNG then s.rngAsk (s.rngServing (rngPort a)) else s.flashWant addr

/-- What an access within a command is answered, with the attributes its gate delivered, or the number of the flight as
which it waits for its answer. -/
structure BusAns where
  ans : MemAns
  attr : Option (Nat × Nat) := none
  flight : Option Nat := none

/-- An access of an agent within a command (R95–R109), issued with an ordering. One that cannot be performed at once is
left in flight, and so is one whose answer does not come in time and a remote one. -/
def State.access (s : State) (a addr n : Nat) (k : AccKind) (bs : List Byte) (asked : Nat) (u : Upset) : BusAns :=
  match s.busAdmits a addr n k asked u with
  | .no r => { ans := r }
  | .yes t c o _ wait late v =>
    let f := s.newFlight a addr n k bs c o asked
    let g := (gateOf addr).getD 0
    if late then
      { ans := { st := t.lateFlight f, data := List.replicate n 0, fault := .timeout, gate := g }, attr := some (c, o) }
    else if g = 22 then
      { ans := { st := (t.addFlight f).vRemoteStart f.id }, attr := some (c, o), flight := some f.id }
    else if wait || s.pageWaits a addr k then { ans := { st := (t.addFlight f).beginWait a addr }, attr := some (c, o), flight := some f.id }
    else
      let r := t.atTarget a addr n k bs v
      { ans := { r with gate := g }, attr := some (c, o) }

/-- An access of an agent to a register page; of another address, or of an ID that no agent now issues, there is none
(R17, R18). Its port takes the answer, or keeps the last until the answer comes. -/
def State.portAccess (s : State) (a addr n : Nat) (k : AccKind) (bs : List Byte) : State :=
  if !s.issues a || (pageOfAddr addr).isNone then s
  else
    let r := s.access a addr n k bs (issuedOrder a) .none
    s.orHeld (if r.flight.isSome then r.ans.st
      else r.ans.st.setPort a { data := if k = .write then 0 else leNat r.ans.data, fault := r.ans.fault })

/-- An agent writes a register with an aligned 32-bit access. -/
def State.regCmd (s : State) (a pg off : Nat) (v : Word) : State :=
  s.portAccess a (pageBase pg + off) 4 .write (leBytes 4 v.toNat)

/-- An agent reads a register. -/
def State.readCmd (s : State) (a pg off : Nat) : State := s.portAccess a (pageBase pg + off) 4 .read []

/-- A write of an RWP register followed by its complement partner one word up (R6). -/
def State.pairCmd (s : State) (a pg off : Nat) (v c : Word) : State :=
  (s.regCmd a pg off v).regCmd a pg (off + 4) c

/-- CTRL written: paired where it is RWP, else directly (R28). -/
def State.ctrlCmd (s : State) (a pg : Nat) (v c : Word) : State :=
  match pageKind pg with
  | some kd => if ctrlPaired kd then s.pairCmd a pg 0x10 v c else s.regCmd a pg 0x10 v
  | none => s

end Sys2Proof.Machine
end

