-- ==== Sys2Proof/Machine/MemCmd.lean ====
section
/-!
DEFINITION. The commands of the memories, flash and the random generator (chapters "On-chip memory and the memory
seal", "Flash and wear", "Random numbers").
-/
namespace Sys2Proof.Machine

/-- What CTRL of a page holds, with bits added. -/
def State.ctrlPlus (s : State) (pg : Nat) (bits : Word) : Word :=
  (match pageKind pg with
   | some kd => s.rg pg 0x10 &&& ctrlStored kd
   | none => 0) ||| bits

/-- An agent writes CTRL with bits added to what it holds, and the complement. -/
def State.ctrlSet (s : State) (a pg : Nat) (bits : Word) : State :=
  s.ctrlCmd a pg (s.ctrlPlus pg bits) (~~~ (s.ctrlPlus pg bits))

/-! ### SRAM, DDR, MSEAL -/

/-- An access to one line of the protected window, through the range check and the gate (R95, R130, R131). -/
def State.lineAccess (s : State) (a addr : Nat) (k : AccKind) (data : List Byte) (u : Upset) : State :=
  let line := addr / 64 * 64
  if !s.issues a || !s.inWindow line 64 then s
  else
    let r := s.access a line 64 k data (issuedOrder a) u
    if r.flight.isSome then r.ans.st
    else r.ans.st.setPort a { data := if k = .write then 0 else leNat r.ans.data, fault := r.ans.fault }

/-- SRAM_REKEY (R114). -/
def execSramRekey (agent : AgentId) (s : State) : Host.Outcome State Fault Refusal :=
  .next (s.ctrlSet agent.toNat pSRAM 0x100)

/-- SRAM_REKEY_DONE (R114). -/
def execSramRekeyDone (s : State) : Host.Outcome State Fault Refusal :=
  .next (s.sramWalked)

/-- SRAM_BANK_ZEROED (R112). -/
def execSramBankZeroed (bank : Fin 8) (s : State) : Host.Outcome State Fault Refusal :=
  .next (s.bankZeroed bank)

/-- SRAM_SCRUB_STEP (R118): what the checked word of a bank holds, and the bin that a word of bank 7 belongs
to (R119). -/
def execSramScrubStep (bank : Fin 8) (word : Fin 65536) (upset : Upset) (bin : Option (Fin 65536)) (s : State) :
    Host.Outcome State Fault Refusal :=
  .next (s.scrubStep bank word upset (bin.map (·.val))).settle

/-- KEYSTORE_DRAW (R114, R122, R129). -/
def execKeystoreDraw (what : DrawFor) (s : State) : Host.Outcome State Fault Refusal :=
  .next (s.keystoreDraw what)

/-- DDR_TRAIN (R121). -/
def execDdrTrain (agent : AgentId) (s : State) : Host.Outcome State Fault Refusal :=
  .next (s.ctrlSet agent.toNat pDDR 0x100)

/-- DDR_TRAIN_DONE (R121): passed, or the failing step with its lanes and rank. -/
def execDdrTrainDone (pass : Bool) (step : Fin 16) (lanes : Fin 16) (rank : Bool) (s : State) : Host.Outcome State Fault Refusal :=
  .next (s.ddrTrainDone pass step lanes rank)

/-- DDR_KEY (R122). -/
def execDdrKey (agent : AgentId) (s : State) : Host.Outcome State Fault Refusal :=
  .next (s.ctrlSet agent.toNat pDDR 0x200)

/-- DDR_MR4_POLL (R123): the refresh codes of the two channels. -/
def execDdrMr4Poll (codeA codeB : Fin 8) (s : State) : Host.Outcome State Fault Refusal :=
  .next (s.ddrMr4 codeA codeB)

/-- DDR_ZQ_CALIBRATION (R120): it changes nothing that software sees. -/
def execDdrZqCalibration (s : State) : Host.Outcome State Fault Refusal :=
  .next (s)

/-- DDR_DQS_RETRAIN (R120): it changes nothing that software sees. -/
def execDdrDqsRetrain (s : State) : Host.Outcome State Fault Refusal :=
  .next (s)

/-- MSEAL_INIT (R126). -/
def execMsealInit (agent : AgentId) (s : State) : Host.Outcome State Fault Refusal :=
  .next (s.ctrlSet agent.toNat pMSEAL 0x100)

/-- MSEAL_INIT_DONE (R129). -/
def execMsealInitDone (s : State) : Host.Outcome State Fault Refusal :=
  .next (s.unlessHalted fun t => t.msealInitDone)

/-- MSEAL_LINE_READ (R130): the access of an agent to one window line, and what its verification meets. -/
def execMsealLineRead (agent : AgentId) (addr : Addr) (upset : Upset) (s : State) : Host.Outcome State Fault Refusal :=
  .next (s.lineAccess agent.toNat addr.toNat .read [] upset)

/-- MSEAL_LINE_WRITE (R131). -/
def execMsealLineWrite (agent : AgentId) (addr : Addr) (data : List Byte) (upset : Upset) (s : State) : Host.Outcome State Fault Refusal :=
  .next (s.lineAccess agent.toNat addr.toNat .write (fitTo 64 data) upset)

/-- MSEAL_METADATA_WRITEBACK (R131, R133): the mismatch met on the way, if any. -/
def execMsealMetadataWriteback (bad : Option SealBad) (s : State) : Host.Outcome State Fault Refusal :=
  .next (s.unlessHalted fun t => t.msealEvict bad)

/-! ### Flash -/

/-- The VIN monitor's output on the edge of a flash command (R501): VIN below the flash-write threshold. -/
def State.vinReads (s : State) (low : Bool) : State := { s with pwr := { s.pwr with vinLow := low } }

/-- An agent writes CHc_CMD of a flash channel. -/
def State.flashCmd (s : State) (agent : AgentId) (chan : Fin 2) (code : Word) : State :=
  s.regCmd agent.toNat pFLASH (chanReg chan 0x118) code

/-- FLASH_KEY_WRITE (R138). -/
def execFlashKeyWrite (agent : AgentId) (chan : Fin 2) (value : Word) (s : State) : Host.Outcome State Fault Refusal :=
  .next (s.regCmd agent.toNat pFLASH (chanReg chan 0x100) value)

/-- FLASH_PROGRAM (R139, R140, R501): the command code 1 on the channel's argument registers. -/
def execFlashProgram (agent : AgentId) (chan : Fin 2) (vinLow : Bool) (s : State) :
    Host.Outcome State Fault Refusal :=
  .next ((s.vinReads vinLow).flashCmd agent chan 1)

/-- FLASH_ERASE_SECTOR (R139, R142, R501): the command code 2 on the channel's argument registers. -/
def execFlashEraseSector (agent : AgentId) (chan : Fin 2) (vinLow : Bool) (s : State) :
    Host.Outcome State Fault Refusal :=
  .next ((s.vinReads vinLow).flashCmd agent chan 2)

/-- FLASH_SUSPEND (R141): the command code 3 on the channel's argument registers. -/
def execFlashSuspend (agent : AgentId) (chan : Fin 2) (s : State) : Host.Outcome State Fault Refusal :=
  .next (s.flashCmd agent chan 3)

/-- FLASH_RESUME (R141): the command code 4 on the channel's argument registers. -/
def execFlashResume (agent : AgentId) (chan : Fin 2) (s : State) : Host.Outcome State Fault Refusal :=
  .next (s.flashCmd agent chan 4)

/-- FLASH_BLANK_CHECK (R139): the command code 5 on the channel's argument registers. -/
def execFlashBlankCheck (agent : AgentId) (chan : Fin 2) (s : State) : Host.Outcome State Fault Refusal :=
  .next (s.flashCmd agent chan 5)

/-- FLASH_MARGIN_CHECK (R139): the command code 6 on the channel's argument registers. -/
def execFlashMarginCheck (agent : AgentId) (chan : Fin 2) (s : State) : Host.Outcome State Fault Refusal :=
  .next (s.flashCmd agent chan 6)

/-- FLASH_SET_RDP (R148): the command code 7 on the channel's argument registers. -/
def execFlashSetRdp (agent : AgentId) (chan : Fin 2) (s : State) : Host.Outcome State Fault Refusal :=
  .next (s.flashCmd agent chan 7)

/-- FLASH_RELOCK (R138): the command code 15 on the channel's argument registers. -/
def execFlashRelock (agent : AgentId) (chan : Fin 2) (s : State) : Host.Outcome State Fault Refusal :=
  .next (s.flashCmd agent chan 15)

/-- FLASH_PROGRAM_DONE (R140): whether the verify passed. -/
def execFlashProgramDone (chan : Fin 2) (verified : Bool) (s : State) : Host.Outcome State Fault Refusal :=
  .next (s.flashProgramDone chan verified)

/-- FLASH_ERASE_DONE (R142): a step of the erase of a channel has ended; the last completes it. -/
def execFlashEraseDone (part : ErasePart) (s : State) : Host.Outcome State Fault Refusal :=
  .next (s.flashEraseDone part.chan part.step)

/-- FLASH_CHECK_DONE (R139): the words weak at margin. -/
def execFlashCheckDone (chan : Fin 2) (weak : Fin 1025) (s : State) : Host.Outcome State Fault Refusal :=
  .next (s.flashCheckDone chan weak)

/-- FLASH_SCAN (R143). -/
def execFlashScan (s : State) : Host.Outcome State Fault Refusal :=
  .next (s.flashScan)

/-- FLASH_SUSPEND_TAKEN (R145). -/
def execFlashSuspendTaken (chan : Fin 2) (s : State) : Host.Outcome State Fault Refusal :=
  .next (s.flashSuspendTaken chan)

/-- FLASH_AUTO_RESUME (R145). -/
def execFlashAutoResume (chan : Fin 2) (s : State) : Host.Outcome State Fault Refusal :=
  .next (s.flashAutoResume chan)

/-- FLASH_ISLAND_REQUEST (R147). -/
def execFlashIslandRequest (s : State) : Host.Outcome State Fault Refusal :=
  .next (s.orHeld s.lflServe)

/-! ### RNG -/

/-- RNG_STARTUP_DONE (R152): the 1,024 samples of the test. -/
def execRngStartupDone (source : Fin 8) (samples : List Bool) (s : State) : Host.Outcome State Fault Refusal :=
  .next (s.rngStartupDone source samples)

/-- RNG_HEALTH_FAILURE (R165): the test that failed, on a source that runs (R150). -/
def execRngHealthFailure (source : Fin 8) (apt : Bool) (s : State) : Host.Outcome State Fault Refusal :=
  .next (if s.rngOn && (s.rng.srcs.getD source {}).run then s.rngFail source apt false else s)

/-- RNG_CONDITIONER_OUTPUT (R153): the 512 raw bits since the last output. -/
def execRngConditionerOutput (raw : List Bool) (s : State) : Host.Outcome State Fault Refusal :=
  .next (s.rngOutput raw)

/-- RNG_SEED_COMPLETE (R158). -/
def execRngSeedComplete (s : State) : Host.Outcome State Fault Refusal :=
  .next (s.rngSeed)

/-- RNG_REQUEST (R156): one request of a client. A client of the software port makes one only when its output block is
empty (R164). -/
def execRngRequest (client : Fin 87) (s : State) : Host.Outcome State Fault Refusal :=
  .next (if 10 ≤ client.val && (s.rngInst client).block != [] then s else (s.rngRequest client).1)

/-- RNG_INSTANTIATE (R157). -/
def execRngInstantiate (s : State) : Host.Outcome State Fault Refusal :=
  .next (s.rngInstantiate)

/-- RNG_RESEED (R160). -/
def execRngReseed (s : State) : Host.Outcome State Fault Refusal :=
  .next (s.rngReseed)

/-- RNG_DATA_READ (R164). -/
def execRngDataRead (agent : AgentId) (s : State) : Host.Outcome State Fault Refusal :=
  .next (s.readCmd agent.toNat pRNG 0x100)

/-- RNG_LOWPWR (R163): CTRL and its complement. -/
def execRngLowpwr (agent : AgentId) (value compl : Word) (s : State) : Host.Outcome State Fault Refusal :=
  .next (s.ctrlCmd agent.toNat pRNG value compl)

/-- RNG_RESEED_CAP_WRITE (R161). -/
def execRngReseedCapWrite (agent : AgentId) (value : Word) (s : State) : Host.Outcome State Fault Refusal :=
  .next (s.regCmd agent.toNat pRNG 0x108 value)

end Sys2Proof.Machine
end

