-- ==== Sys2Proof/Machine/LegalCmd.lean ====
section
/-!
DEFINITION. The commands of the legal island (chapter "Legal metrology island"): the mailbox, the island's flash port, the
energies, the island's resets and start, the cellar book's events and the LRTC.
-/
namespace Sys2Proof.Machine

/-! ### The mailbox -/

/-- LEGAL_MB_POST (R363): a write of MB_DOOR. -/
def execLegalMbPost (agent : AgentId) (s : State) : Host.Outcome State Fault Refusal :=
  .next (s.regCmd agent.toNat pLEGAL 0x130 1)

/-- LEGAL_MB_TAKE (R364). -/
def execLegalMbTake (s : State) : Host.Outcome State Fault Refusal :=
  .next (s.mbTake)

/-- LEGAL_STATUS (R364). -/
def execLegalStatus (s : State) : Host.Outcome State Fault Refusal :=
  .next (s.mbStatus)

/-- LEGAL_READING (R359, R364): whether the record's signature verified when it was checked. -/
def execLegalReading (good : Bool) (s : State) : Host.Outcome State Fault Refusal :=
  .next (s.orHeld (s.mbReading good))

/-- LEGAL_GETREC (R364). -/
def execLegalGetrec (s : State) : Host.Outcome State Fault Refusal :=
  .next (s.mbGetrec)

/-- LEGAL_GETBOOK (R364). -/
def execLegalGetbook (s : State) : Host.Outcome State Fault Refusal :=
  .next (s.mbGetbook)

/-- LEGAL_GETKEY (R364). -/
def execLegalGetkey (s : State) : Host.Outcome State Fault Refusal :=
  .next (s.mbGetkey)

/-- LEGAL_SETTIME (R353). -/
def execLegalSettime (s : State) : Host.Outcome State Fault Refusal :=
  .next (s.orHeld (s.mbSettime))

/-- LEGAL_PARAM (R356). -/
def execLegalParam (s : State) : Host.Outcome State Fault Refusal :=
  .next (s.orHeld (s.mbParam))

/-- LEGAL_UPDATE_BEGIN (R364). -/
def execLegalUpdateBegin (s : State) : Host.Outcome State Fault Refusal :=
  .next (s.orHeld (s.mbUpdateBegin))

/-- LEGAL_UPDATE_DATA (R364). -/
def execLegalUpdateData (s : State) : Host.Outcome State Fault Refusal :=
  .next (s.orHeld (s.mbUpdateData))

/-- LEGAL_UPDATE_END (R364). -/
def execLegalUpdateEnd (s : State) : Host.Outcome State Fault Refusal :=
  .next (s.orHeld (s.mbUpdateEnd))

/-- LEGAL_KEYGEN (R357): the 2,048 samples of the noise source and the masks of the shares. -/
def execLegalKeygen (samples : List Bool) (mask : List Byte) (s : State) : Host.Outcome State Fault Refusal :=
  .next (s.orHeld (s.mbKeygen samples mask))

/-- LEGAL_RESET (R364). -/
def execLegalReset (s : State) : Host.Outcome State Fault Refusal :=
  .next (s.orHeld (s.mbReset))

/-- LEGAL_HARMONICS (R364). -/
def execLegalHarmonics (s : State) : Host.Outcome State Fault Refusal :=
  .next (s.mbHarmonics)

/-- LEGAL_CLEARBOOK (R362). -/
def execLegalClearbook (s : State) : Host.Outcome State Fault Refusal :=
  .next (s.orHeld (s.mbClearbook))

/-- LEGAL_APP_REQUEST (R364): the code and the response of the metrology application. -/
def execLegalAppRequest (code : Byte) (rsp : List Byte) (s : State) : Host.Outcome State Fault Refusal :=
  .next (s.mbApp code.toNat rsp)

/-! ### The island's flash port -/

/-- LFL_PROGRAM (R345): LCORE writes LFL_CMD; FLASH_ISLAND_REQUEST serves the request. -/
def execLflProgram (vinLow : Bool) (s : State) : Host.Outcome State Fault Refusal :=
  .next ((s.vinReads vinLow).regCmd aLCORE pLEGAL 0x200 1)

/-- LFL_ERASE_SECTOR (R345). -/
def execLflEraseSector (vinLow : Bool) (s : State) : Host.Outcome State Fault Refusal :=
  .next ((s.vinReads vinLow).regCmd aLCORE pLEGAL 0x200 2)

/-- LFL_BLANK_CHECK (R345). -/
def execLflBlankCheck (s : State) : Host.Outcome State Fault Refusal :=
  .next (s.regCmd aLCORE pLEGAL 0x200 5)

/-! ### Energies -/

/-- AFE_BLOCK_END (R348). -/
def execAfeBlockEnd (block : AfeBlock) (s : State) : Host.Outcome State Fault Refusal :=
  .next (s.afeBlock block)

/-- LPULSE_PULSE (R351). -/
def execLpulsePulse (s : State) : Host.Outcome State Fault Refusal :=
  .next (s.lpulse)

/-- ENERGY_SAVE_PERIODIC (R350). -/
def execEnergySavePeriodic (s : State) : Host.Outcome State Fault Refusal :=
  .next (s.orHeld (s.energySave 0))

/-- LVWARN_SAVE (R337, R350). -/
def execLvwarnSave (s : State) : Host.Outcome State Fault Refusal :=
  .next (s.orHeld (s.lvwarnSave))

/-! ### Resets and start -/

/-- ISLAND_COLD_RESET (R339): whether VBAT held the LRTC. -/
def execIslandColdReset (vbat : Bool) (s : State) : Host.Outcome State Fault Refusal :=
  .next (s.islandCold vbat)

/-- ISLAND_WARM_RESET (R339): the cause as the ISLAND_RESET entry codes it (R361). -/
def execIslandWarmReset (cause : Fin 5) (s : State) : Host.Outcome State Fault Refusal :=
  .next (s.orHeld (s.islandWarm cause))

/-- ISLAND_WATCHDOG_EXPIRY (R339): cause 1. -/
def execIslandWatchdogExpiry (s : State) : Host.Outcome State Fault Refusal :=
  .next (s.orHeld (s.islandWarm 1))

/-- LCORE_HALT_TIMEOUT (R341): cause 2; nothing where LCORE is not halted. -/
def execLcoreHaltTimeout (s : State) : Host.Outcome State Fault Refusal :=
  .next (s.orHeld (if (s.core 10).run = .halted then s.islandWarm 2 else s))

/-- ISLAND_START_SCAN (R346). -/
def execIslandStartScan (s : State) : Host.Outcome State Fault Refusal :=
  .next (s.orHeld (s.islandStart))

/-- ISLAND_CLOCK_FAULT (R338). -/
def execIslandClockFault (s : State) : Host.Outcome State Fault Refusal :=
  .next (s.orHeld (s.islandClockFault))

/-- ISLAND_CLOCK_RESUME (R338). -/
def execIslandClockResume (s : State) : Host.Outcome State Fault Refusal :=
  .next (s.islandClockResume)

/-! ### The seal, the notices and the LRTC -/

/-- LEGAL_SEAL_ASSERT (R354). -/
def execLegalSealAssert (s : State) : Host.Outcome State Fault Refusal :=
  .next (s.orHeld (s.sealChange true))

/-- LEGAL_SEAL_RELEASE (R354). -/
def execLegalSealRelease (s : State) : Host.Outcome State Fault Refusal :=
  .next (s.orHeld (s.sealChange false))

/-- ALARM_NOTICE (R335). -/
def execAlarmNotice (s : State) : Host.Outcome State Fault Refusal :=
  .next (s.orHeld (s.takeNotice))

/-- LC_CHANGE_NOTICE (R361). -/
def execLcChangeNotice (s : State) : Host.Outcome State Fault Refusal :=
  .next (s.orHeld (s.lcNotice))

/-- PERIODIC_RECORD (R360). -/
def execPeriodicRecord (s : State) : Host.Outcome State Fault Refusal :=
  .next (s.orHeld (s.periodicRecord))

/-- LRTC_SETCMD (R352): LCORE writes LRTC.SETCMD. -/
def execLrtcSetcmd (s : State) : Host.Outcome State Fault Refusal :=
  .next (s.regCmd aLCORE pLRTC 0x110 1)

/-- LRTC_COMPENSATION (R352): the temperature term in 0.01 ppm. -/
def execLrtcCompensation (temp : Int) (s : State) : Host.Outcome State Fault Refusal :=
  .next (s.lrtcComp temp)

/-- AFE_FAULT (R361). -/
def execAfeFault (s : State) : Host.Outcome State Fault Refusal :=
  .next (s.orHeld (s.afeFault))

end Sys2Proof.Machine
end

