-- ==== Sys2Proof/Machine/HostCmd.lean ====
section
/-!
DEFINITION. The commands of the host interface, the virtual instances and the stream port (chapters "Host interface and
virtual instances" and "Stream port").
-/
namespace Sys2Proof.Machine

/-! ### The mediator -/

/-- The mediator writes MED_CMD and MED_ARG0 onwards. -/
def State.medFill (s : State) (a cmd : Nat) (args : List Word) : State :=
  (List.range args.length).foldl (fun (t : State) i => t.regCmd a pHOST (0x804 + 4 * i) (args.getD i 0))
    (s.regCmd a pHOST 0x800 (wd cmd))

/-- The mediator posts a command: then MED_DOOR (R370). -/
def State.medPost (s : State) (a cmd : Nat) (args : List Word) : State :=
  (s.medFill a cmd args).regCmd a pHOST 0x824 1

/-- MED_CREATE (R371): ARG0–ARG5. -/
def execMedCreate (agent : AgentId) (pasid bins slots quantum queues flows : Word) (s : State) :
    Host.Outcome State Fault Refusal :=
  .next (s.medPost agent.toNat 1 [pasid, bins, slots, quantum, queues, flows])

/-- MED_REMOVE (R380). -/
def execMedRemove (agent : AgentId) (arg : Word) (s : State) : Host.Outcome State Fault Refusal :=
  .next (s.medPost agent.toNat 2 [arg])

/-- MED_RESET (R380). -/
def execMedReset (agent : AgentId) (arg : Word) (s : State) : Host.Outcome State Fault Refusal :=
  .next (s.medPost agent.toNat 3 [arg])

/-- MED_QUERY (R370). -/
def execMedQuery (agent : AgentId) (arg : Word) (s : State) : Host.Outcome State Fault Refusal :=
  .next (s.medPost agent.toNat 4 [arg])

/-- HOST_FW_ANSWER (R372). -/
def execHostFwAnswer (agent : AgentId) (value : Word) (s : State) : Host.Outcome State Fault Refusal :=
  .next (s.regCmd agent.toNat pHOST 0x10C value)

/-- CREATE_TIMEOUT (R373). -/
def execCreateTimeout (s : State) : Host.Outcome State Fault Refusal :=
  .next (s.orHeld ((s.createTimeout).settle))

/-! ### Teardown -/

/-- TEARDOWN_DRAIN_LIMIT (R380): what each descriptor that is squashed had moved, oldest first. -/
def execTeardownDrainLimit (inst : Fin 64) (got : List (List Byte)) (s : State) : Host.Outcome State Fault Refusal :=
  .next (s.orHeld ((s.drainLimit inst got).settle))

/-- INSTANCE_RESET_DONE (R381): the bin store's report, then RESET_DONE once nothing is in flight. -/
def execInstanceResetDone (inst : Fin 64) (s : State) : Host.Outcome State Fault Refusal :=
  .next (s.orHeld (((s.instBins inst).instResetDone inst).settle))

/-- INST_SRST (R382): CTRL.SRST of the instance page. -/
def execInstSrst (agent : AgentId) (inst : Fin 64) (s : State) : Host.Outcome State Fault Refusal :=
  .next (s.ctrlCmd agent.toNat (pINST inst) 2 0xFFFFFFFD)

/-! ### Queues and DMA -/

/-- SQ_DOORBELL (R375): a write of SQTAILq. -/
def execSqDoorbell (agent : AgentId) (inst : Fin 64) (queue : Fin 8) (value : Word) (s : State) :
    Host.Outcome State Fault Refusal :=
  .next (s.regCmd agent.toNat (pINST inst) (0x200 + 8 * queue.val) value)

/-- CQ_DOORBELL (R376): a write of CQHEADq. -/
def execCqDoorbell (agent : AgentId) (inst : Fin 64) (queue : Fin 8) (value : Word) (s : State) :
    Host.Outcome State Fault Refusal :=
  .next (s.regCmd agent.toNat (pINST inst) (0x204 + 8 * queue.val) value)

/-- HOST_SQ_FETCH (R375): what the host delivered, none for a read that failed. A handover stops fetching (R429). -/
def execHostSqFetch (data : Option (List Byte)) (s : State) : Host.Outcome State Fault Refusal :=
  .next (s.orHeld ((if s.twin.handover || s.tamp.halted then s else s.sqFetch data).settle))

/-- CPL_POST (R376). -/
def execCplPost (agent : AgentId) (inst : Fin 64) (value : Word) (s : State) : Host.Outcome State Fault Refusal :=
  .next (s.regCmd agent.toNat (pINST inst) 0x410 value)

/-- HOST_DMA_SUBMIT (R377). -/
def execHostDmaSubmit (agent : AgentId) (value : Word) (s : State) : Host.Outcome State Fault Refusal :=
  .next (s.regCmd agent.toNat pHOST 0x114 value)

/-- HOST_DMA_COMPLETE (R378): running descriptor `run` ends; what the host delivered, and whether it answered without UR or CA. -/
def execHostDmaComplete (run : Fin 16) (data : List Byte) (ok : Bool) (s : State) :
    Host.Outcome State Fault Refusal :=
  .next (s.orHeld ((s.dmaComplete run data ok).settle))

/-- HOST_CPL_TIMEOUT (R378): of running descriptor `run`, which had moved `got`. -/
def execHostCplTimeout (run : Fin 16) (got : List Byte) (s : State) : Host.Outcome State Fault Refusal :=
  .next (s.orHeld ((s.dmaTimeout run got).settle))

/-! ### Accesses of the host -/

/-- A 32-bit access that reaches a page with an agent (R366, R367): one that is refused is answered Completer
Abort or discarded, and counted. The answer stands in the agent's port. -/
def State.barPage (s : State) (a pg off : Nat) (write : Bool) (v : Word) : State :=
  let r := s.access a (pageBase pg + off) 4 (if write then .write else .read) (leBytes 4 v.toNat) 0 .none
  let t := r.ans.st.setPort a { data := if write then 0 else leNat r.ans.data, fault := r.ans.fault }
  s.orHeld (if r.flight.isSome then r.ans.st else if r.ans.fault = .gate then t.cnt pHOST 0x124 else t)

/-- BAR4 (R366): the MSI-X table and its pending bits, held inside HOST. Clearing a mask sends what is pending
(notes/assumptions/46.md). The answer stands in port 0x80. -/
def State.barMsix (s : State) (off : Nat) (write : Bool) (v : Word) : State :=
  let k := off / 4
  if off < 0x1100 then
    if write then
      let w := if k % 4 = 0 then v &&& 0xFFFFFFFC else if k % 4 = 3 then v &&& 1 else v
      let s1 := (s.modHost fun h => { h with msix := tset h.msix k w }).setPort 0x80 {}
      if k % 4 = 3 && !bitAt v 0 && s.host.pba.contains (k / 4) then
        (s1.modHost fun h => { h with pba := h.pba.filter (· != k / 4) }).msix (k / 4)
      else s1
    else s.setPort 0x80 { data := (tget (if k % 4 = 3 then 1 else 0) s.host.msix k).toNat }
  else if 0x1800 ≤ off && off < 0x1824 && !write then
    let base := 32 * ((off - 0x1800) / 4)
    s.setPort 0x80 { data := (List.range 32).foldl (fun n i => n + flagAt (s.host.pba.contains (base + i)) i) 0 }
  else s.setPort 0x80 {}

/-- A host access through a BAR (R366, R367); none reaches the device while the link is down. -/
def State.barAccess (s : State) (bar off : Nat) (write : Bool) (v : Word) : State :=
  if s.host.link.isNone || s.tamp.halted || off % 4 ≠ 0 then s
  else if bar = 0 then
    (if off < 0x400 then s.barPage 0x80 pHOST (0x800 + off) write v
     else if off < 0x1000 then s.setPort 0x80 {} else s)
  else if bar = 2 then
    (if off < 0x40000 then
       let nn := off / 0x1000
       s.barPage (0x40 + nn) (0x100 + nn) (off % 0x1000) write v
     else s)
  else if bar = 4 then (if off < 0x2000 then s.barMsix off write v else s)
  else s

/-- HOST_BAR_ACCESS (R366, R367). -/
def execHostBarAccess (bar : Fin 6) (off : BitVec 18) (write : Bool) (value : Word) (s : State) :
    Host.Outcome State Fault Refusal :=
  .next (s.barAccess bar off.toNat write value)

/-! ### The link -/

/-- PCIE_FLR (R383). -/
def execPcieFlr (s : State) : Host.Outcome State Fault Refusal :=
  .next (s.orHeld ((s.flr).settle))

/-- PCIE_LINK_DOWN (R383): what each running descriptor had moved, oldest first. -/
def execPcieLinkDown (got : List (List Byte)) (s : State) : Host.Outcome State Fault Refusal :=
  .next (s.orHeld ((s.linkDown got).settle))

/-- PCIE_LINK_UP (R365): speed 1–4 and width 1, 2 or 4. -/
def execPcieLinkUp (speed width : Fin 5) (s : State) : Host.Outcome State Fault Refusal :=
  .next (s.linkUp speed width)

/-! ### The stream port -/

/-- STRM_LINK_UP (R386). -/
def execStrmLinkUp (s : State) : Host.Outcome State Fault Refusal :=
  .next (s.strmUp)

/-- STRM_ALIGNMENT_LOSS (R386). -/
def execStrmAlignmentLoss (s : State) : Host.Outcome State Fault Refusal :=
  .next (s.strmLost).settle

/-- STRM_DATA_FRAME (R390): the frame's bytes. -/
def execStrmDataFrame (frame : List Byte) (s : State) : Host.Outcome State Fault Refusal :=
  .next (s.strmData frame).settle

/-- STRM_FRAME_END (R393): the flow of the frame that ends, and whether it fails between its blocks. -/
def execStrmFrameEnd (flow : Fin 4096) (fault : Bool) (s : State) : Host.Outcome State Fault Refusal :=
  .next (s.unlessHalted fun t => t.strmEnd flow fault).settle

/-- STRM_CREDIT_FRAME (R394): the frame's bytes. -/
def execStrmCreditFrame (frame : List Byte) (s : State) : Host.Outcome State Fault Refusal :=
  .next (s.strmCreditIn frame).settle

/-- STRM_FRAME_START (R394). -/
def execStrmFrameStart (s : State) : Host.Outcome State Fault Refusal :=
  .next (s.strmHeldStart).settle

/-- STRM_CREDIT_RETURN (R394): whether 1 µs has passed. -/
def execStrmCreditReturn (due : Bool) (s : State) : Host.Outcome State Fault Refusal :=
  .next (s.strmReturn due)

/-- STRM_CREDIT_STALL (R395). -/
def execStrmCreditStall (s : State) : Host.Outcome State Fault Refusal :=
  .next (s.strmStall).settle

/-- STRM_FLOW_ADD (R388). -/
def execStrmFlowAdd (agent : AgentId) (s : State) : Host.Outcome State Fault Refusal :=
  .next (s.regCmd agent.toNat pSTRM 0x114 1)

/-- STRM_FLOW_PIN_GRANTED (R388). -/
def execStrmFlowPinGranted (s : State) : Host.Outcome State Fault Refusal :=
  .next (s.flowPinGranted).settle

/-- STRM_FLOW_REMOVE (R396). -/
def execStrmFlowRemove (agent : AgentId) (s : State) : Host.Outcome State Fault Refusal :=
  .next (s.regCmd agent.toNat pSTRM 0x114 2)

/-- STRM_FLOW_READ (R388). -/
def execStrmFlowRead (agent : AgentId) (s : State) : Host.Outcome State Fault Refusal :=
  .next (s.regCmd agent.toNat pSTRM 0x114 3)

end Sys2Proof.Machine
end

