-- ==== Sys2Proof/Machine/VineRx.lean ====
section
/-!
DEFINITION. What a Vine port does with a packet that has arrived (R404–R415, R424): the link check, the
packets of the tree, remote register accesses performed here, and the packets of a TWIN port.
-/
namespace Sys2Proof.Machine

/-- A remote access performed on this device's pages as agent 0x90 (R413): the data and status of its
RRESP. Where it has to wait at its target, its packet is not taken yet. -/
def State.vRemote (s : State) (src off size : Nat) (k : AccKind) (v : Word) : State × Nat × Nat :=
  if src ≠ 0 && !s.rbit pVINE 0x104 1 then (s.cnt pVINE 0x174, 1, 0)
  else
    let r := (s.setRg pVINE 0x170 (wd (src % 1024))).access aREMOTE (0x30000000 + off) size k (leBytes 4 v.toNat) 0 .none
    (if r.flight.isSome then r.ans.st.hold (0x30000000 + off) else r.ans.st, if r.ans.fault = .none then 0 else 1,
     leNat r.ans.data)

/-- A packet for this device is consumed (R406). -/
def State.vConsume (s : State) (n : Nat) (k : VPkt) : State :=
  match k.body with
  | .rread tag off size =>
    let r := (s.vReturn (some n) k).vRemote k.src off size .read 0
    r.1.vRespond { dst := k.src, src := s.vId, body := .rresp tag r.2.1 r.2.2 } none
  | .rwrite tag off size data =>
    let r := (s.vReturn (some n) k).vRemote k.src off size .write (wd data)
    r.1.vRespond { dst := k.src, src := s.vId, body := .rresp tag r.2.1 0 } none
  | .msg tag chan count payload => (s.vReturn (some n) k).vMsgIn k.src tag chan count payload
  | _ => s

/-- A request or message with a destination: consumed here, or routed (R406). -/
def State.vRoute (s : State) (n : Nat) (k : VPkt) : State :=
  if s.vMember && k.dst = s.vId then s.vConsume n k else s.vForward k (some n)

/-- A packet of a TREE port (R403, R406–R411). A REDUNDANT port carries HELLO and CREDIT only. The round
trip of a SYNCACK is measured by its own command. -/
def State.vTree (s : State) (n : Nat) (k : VPkt) : State :=
  if (s.vport n).state = 4 && !k.body.onRedundant then s.cnt (pVPORT n) 0x120
  else
    match k.body with
    | .hello serial id depth member up => s.vHello n serial id depth member up
    | .join serial pref tag hops => s.vJoin n serial pref tag hops
    | .assign id code tag hops => s.vAssign n id code tag hops
    | .leave id => s.vLeave id (some n)
    | .rread .. | .rwrite .. | .msg .. => s.vRoute n k
    | .rresp .. | .msgack .. => s.vRespond k (some n)
    | .sync => s.vEmit n { body := .syncack }
    | .syncack => s
    | .time now => s.vTime n now
    | .snap no target => if s.vUpPort = some n then s.vSnap no target else s.cnt (pVPORT n) 0x120
    | .snapreq => s.vSnapReq n
    | .credit req rsp msg ack nak => s.vCredit n req rsp msg ack nak
    | .twin .. => s.cnt (pVPORT n) 0x120

/-- A packet of a TWIN port (R424); a type that R424 does not list is dropped. -/
def State.vTwin (s : State) (n : Nat) (k : VPkt) (peerPrimary : Bool) : State :=
  match k.body with
  | .twin typ _ payload =>
    let s1 := s.vReturn (some n) k
    if typ = 2 then s1.heartbeatTake payload peerPrimary
    else if typ = 3 then s1.twinRecord payload
    else if typ = 4 then s1.twinRack (leAt payload 0 8)
    else if typ = 5 then s1.healthTake payload
    else s1.cnt (pVPORT n) 0x120
  | .sync => s.vEmit n { body := .syncack }
  | .syncack => s
  | .credit req rsp msg ack nak => s.vCredit n req rsp msg ack nak
  | _ => (s.vReturn (some n) k).cnt (pVPORT n) 0x120

/-- A packet arrives at a port whose link is up (R404). `peerPrimary` is the partner's CFG.PRIMARY, which a
heartbeat tells (notes/assumptions/45.md). -/
def State.vArrive (s : State) (n : Nat) (k : VPkt) (intact peerPrimary : Bool) : State :=
  if !s.vUp n then s
  else
    let r := s.vTake n k intact
    if !r.2 then r.1
    else s.orHeld (if s.vMode n = 2 then (r.1.vTwin n k peerPrimary).settle else (r.1.vTree n k).settle)

/-- A SYNCACK arrives after a measured round trip in picoseconds (R417). -/
def State.vSyncAckArrive (s : State) (n roundTrip : Nat) (intact : Bool) : State :=
  if !s.vUp n then s
  else
    let r := s.vTake n { body := .syncack } intact
    if r.2 then r.1.vSyncAck n roundTrip else r.1

end Sys2Proof.Machine
end

