-- ==== Sys2Proof/Machine/LinkCmd.lean ====
section
/-!
DEFINITION. The commands of the Vine link, site time and the twin (chapters "Vine link" and "Active and standby twin").
-/
namespace Sys2Proof.Machine

/-! ### Ports and packets -/

/-- VINE_MODE_WRITE (R401): a write of VINEn.CFG. -/
def execVineModeWrite (port : Fin 6) (agent : AgentId) (value : Word) (s : State) :
    Host.Outcome State Fault Refusal :=
  .next (s.regCmd agent.toNat (pVPORT port) 0x100 value)

/-- VINE_LINK_UP (R401): the polarity and the lane swap found. -/
def execVineLinkUp (port : Fin 6) (polarity : Fin 4) (swap : Bool) (s : State) : Host.Outcome State Fault Refusal :=
  .next (s.vLinkUp port polarity swap)

/-- VINE_LINK_DOWN (R410). -/
def execVineLinkDown (port : Fin 6) (s : State) : Host.Outcome State Fault Refusal :=
  .next (s.vLinkDown port).settle

/-- VINE_PACKET_FORWARD (R406): a packet of any kind arrives; `intact` that its CRC holds. A handover stops forwarding (R429). -/
def execVinePacketForward (port : Fin 6) (pkt : VPkt) (intact : Bool) (s : State) :
    Host.Outcome State Fault Refusal :=
  .next (if s.twin.handover then s else s.vArrive port pkt intact false)

/-- VINE_CREDIT_PACKET (R404): credits returned by class, an acknowledged class and LSEQ, a NAK. -/
def execVineCreditPacket (port : Fin 6) (req rsp msg : Byte) (ack nak : Option (Fin 4 × Byte)) (intact : Bool) (s : State) :
    Host.Outcome State Fault Refusal :=
  .next (s.vArrive port { body := .credit req.toNat rsp.toNat msg.toNat (ack.map fun e => (e.1.val, e.2.toNat)) (nak.map fun e => (e.1.val, e.2.toNat)) } intact false)

/-! ### Membership -/

/-- VINE_HELLO_SEND (R407). -/
def execVineHelloSend (s : State) : Host.Outcome State Fault Refusal :=
  .next (s.vHelloSend)

/-- VINE_HELLO_RECEIVE (R407). -/
def execVineHelloReceive (port : Fin 6) (serial : BitVec 64) (id : BitVec 10) (depth : Fin 8) (member up intact : Bool) (s : State) :
    Host.Outcome State Fault Refusal :=
  .next (s.vArrive port { body := .hello serial.toNat id.toNat depth member up } intact false)

/-- VINE_JOIN (R408): the path so far, three bits an entry. -/
def execVineJoin (port : Fin 6) (lseq : Byte) (serial : BitVec 64) (pref : BitVec 16) (tag : Word) (hops : Fin 8) (intact : Bool) (s : State) :
    Host.Outcome State Fault Refusal :=
  .next (s.vArrive port { lseq := lseq.toNat, body := .join serial.toNat pref.toNat tag.toNat hops } intact false)

/-- VINE_ASSIGN (R408): code 0 accepts with an ID, another is the refusal's STATE. -/
def execVineAssign (port : Fin 6) (lseq : Byte) (id : BitVec 10) (code : Fin 11) (tag : Word) (hops : Fin 8) (intact : Bool) (s : State) :
    Host.Outcome State Fault Refusal :=
  .next (s.vArrive port { lseq := lseq.toNat, body := .assign id.toNat code tag.toNat hops } intact false)

/-- VINE_LEAVE (R410). -/
def execVineLeave (port : Fin 6) (lseq : Byte) (id : BitVec 10) (intact : Bool) (s : State) :
    Host.Outcome State Fault Refusal :=
  .next (s.vArrive port { lseq := lseq.toNat, body := .leave id.toNat } intact false)

/-- VINE_JANSWER (R409). -/
def execVineJanswer (agent : AgentId) (value : Word) (s : State) : Host.Outcome State Fault Refusal :=
  .next (s.regCmd agent.toNat pVINE 0x128 value)

/-- VINE_JOIN_TIMEOUT (R409): of the oldest queued join. -/
def execVineJoinTimeout (s : State) : Host.Outcome State Fault Refusal :=
  .next (s.vJoinTimeout)

/-- VINE_JOIN_RETRY (R408). -/
def execVineJoinRetry (port : Fin 6) (s : State) : Host.Outcome State Fault Refusal :=
  .next (s.vJoinRetry port)

/-- VINE_REJOIN_HOLD_EXPIRY (R410). -/
def execVineRejoinHoldExpiry (id : BitVec 10) (s : State) : Host.Outcome State Fault Refusal :=
  .next (s.vHoldEnd id.toNat)

/-! ### Remote accesses and messages -/

/-- VINE_RREAD (R413): the page-space offset and the size. -/
def execVineRread (port : Fin 6) (lseq : Byte) (dst src : BitVec 10) (tag : Word) (off : BitVec 28) (size : Fin 65) (intact : Bool) (s : State) :
    Host.Outcome State Fault Refusal :=
  .next (s.vArrive port { lseq := lseq.toNat, dst := dst.toNat, src := src.toNat, body := .rread tag.toNat off.toNat size } intact false)

/-- VINE_RWRITE (R413). -/
def execVineRwrite (port : Fin 6) (lseq : Byte) (dst src : BitVec 10) (tag : Word) (off : BitVec 28) (size : Fin 65) (data : Word) (intact : Bool) (s : State) :
    Host.Outcome State Fault Refusal :=
  .next (s.vArrive port { lseq := lseq.toNat, dst := dst.toNat, src := src.toNat, body := .rwrite tag.toNat off.toNat size data.toNat } intact false)

/-- VINE_RRESP (R412). -/
def execVineRresp (port : Fin 6) (lseq : Byte) (dst src : BitVec 10) (tag : Word) (status : Fin 4) (data : Word) (intact : Bool) (s : State) :
    Host.Outcome State Fault Refusal :=
  .next (s.vArrive port { lseq := lseq.toNat, dst := dst.toNat, src := src.toNat, body := .rresp tag.toNat status data.toNat } intact false)

/-- VINE_MSG_SEND (R414): a write of MSG_SEND. -/
def execVineMsgSend (agent : AgentId) (value : Word) (s : State) : Host.Outcome State Fault Refusal :=
  .next (s.regCmd agent.toNat pVINE 0x13C value)

/-- VINE_MSG (R415): the channel, the sender's message count and the payload. -/
def execVineMsg (port : Fin 6) (lseq : Byte) (dst src : BitVec 10) (tag : Word) (chan : Byte) (count : Word) (payload : List Byte) (intact : Bool) (s : State) :
    Host.Outcome State Fault Refusal :=
  .next (s.vArrive port { lseq := lseq.toNat, dst := dst.toNat, src := src.toNat, body := .msg tag.toNat chan.toNat count.toNat payload } intact false)

/-- VINE_MSGACK (R414). -/
def execVineMsgack (port : Fin 6) (lseq : Byte) (dst src : BitVec 10) (tag : Word) (code : Byte) (intact : Bool) (s : State) :
    Host.Outcome State Fault Refusal :=
  .next (s.vArrive port { lseq := lseq.toNat, dst := dst.toNat, src := src.toNat, body := .msgack tag.toNat code.toNat } intact false)

/-- VINE_MSG_TIMEOUT (R414): of the agent's message. -/
def execVineMsgTimeout (agent : AgentId) (s : State) : Host.Outcome State Fault Refusal :=
  .next (s.vMsgTimeout agent.toNat)

/-! ### Site time and snapshots -/

/-- VINE_SYNC (R417). -/
def execVineSync (port : Fin 6) (s : State) : Host.Outcome State Fault Refusal :=
  .next (s.vSync port)

/-- VINE_SYNCACK (R417): the round trip measured, in picoseconds. -/
def execVineSyncack (port : Fin 6) (roundTrip : Word) (intact : Bool) (s : State) :
    Host.Outcome State Fault Refusal :=
  .next (s.vSyncAckArrive port roundTrip.toNat intact)

/-- VINE_TIME_SEND (R417). -/
def execVineTimeSend (s : State) : Host.Outcome State Fault Refusal :=
  .next (s.vTimeSend)

/-- VINE_TIME_PACKET (R417). -/
def execVineTimePacket (port : Fin 6) (now : BitVec 64) (intact : Bool) (s : State) :
    Host.Outcome State Fault Refusal :=
  .next (s.vArrive port { body := .time now.toNat } intact false)

/-- TIME_SETCMD (R416). -/
def execTimeSetcmd (agent : AgentId) (value : Word) (s : State) : Host.Outcome State Fault Refusal :=
  .next (s.regCmd agent.toNat pTIME 0x110 value)

/-- TIME_NOW_READ (R416): a read of NOW_LO. -/
def execTimeNowRead (agent : AgentId) (s : State) : Host.Outcome State Fault Refusal :=
  .next (s.readCmd agent.toNat pTIME 0x100)

/-- TIME_COMPARE_ARM (R419): a write of CMPn_HI. -/
def execTimeCompareArm (agent : AgentId) (chan : Fin 16) (value : Word) (s : State) :
    Host.Outcome State Fault Refusal :=
  .next (s.regCmd agent.toNat pTIME (0x204 + 8 * chan.val) value)

/-- TIME_COMPARE_FIRE (R419). -/
def execTimeCompareFire (chan : Fin 16) (s : State) : Host.Outcome State Fault Refusal :=
  .next (s.timeFire chan)

/-- VINE_SNAP_FIRE (R420): a write of SNAP_FIRE. -/
def execVineSnapFire (agent : AgentId) (value : Word) (s : State) : Host.Outcome State Fault Refusal :=
  .next (s.regCmd agent.toNat pVINE 0x158 value)

/-- VINE_SNAPREQ (R420). -/
def execVineSnapreq (port : Fin 6) (lseq : Byte) (intact : Bool) (s : State) : Host.Outcome State Fault Refusal :=
  .next (s.vArrive port { lseq := lseq.toNat, body := .snapreq } intact false)

/-- VINE_SNAP (R420): the snapshot's number and target. -/
def execVineSnap (port : Fin 6) (no : Word) (target : BitVec 64) (intact : Bool) (s : State) :
    Host.Outcome State Fault Refusal :=
  .next (s.vArrive port { body := .snap no.toNat target.toNat } intact false)

/-- VINE_SNAP_TARGET (R421). -/
def execVineSnapTarget (s : State) : Host.Outcome State Fault Refusal :=
  .next (s.vSnapTarget)

/-! ### The twin -/

/-- TWIN_PAIR (R422): CTRL.PAIR written. -/
def execTwinPair (agent : AgentId) (s : State) : Host.Outcome State Fault Refusal :=
  .next (s.ctrlSet agent.toNat pTWIN 0x100)

/-- TWIN_PAIR_TIMEOUT (R423). -/
def execTwinPairTimeout (s : State) : Host.Outcome State Fault Refusal :=
  .next (s.pairTimeout).settle

/-- TWIN_HEARTBEAT_SEND (R425). -/
def execTwinHeartbeatSend (s : State) : Host.Outcome State Fault Refusal :=
  .next (s.heartbeatSend).settle

/-- TWIN_HEARTBEAT_RECEIVE (R425): the 32 bytes, and the partner's CFG.PRIMARY (notes/assumptions/45.md). -/
def execTwinHeartbeatReceive (port : Fin 6) (payload : List Byte) (intact peerPrimary : Bool) (s : State) :
    Host.Outcome State Fault Refusal :=
  .next (s.vArrive port { body := .twin 2 0 payload } intact peerPrimary)

/-- TWIN_MISS_WINDOW (R426). -/
def execTwinMissWindow (s : State) : Host.Outcome State Fault Refusal :=
  .next (s.missWindow).settle

/-- TWIN_TAKEOVER (R427): the first decision. -/
def execTwinTakeover (s : State) : Host.Outcome State Fault Refusal :=
  .next (s.takeover).settle

/-- TWIN_SECOND_DECISION (R427): whether the second logic agrees. -/
def execTwinSecondDecision (agrees : Bool) (s : State) : Host.Outcome State Fault Refusal :=
  .next (s.takeoverSecond agrees).settle

/-- TWIN_FENCE (R428). -/
def execTwinFence (s : State) : Host.Outcome State Fault Refusal :=
  .next (s.orHeld ((s.twinFence).settle))

/-- TWIN_HANDOVER (R429): CTRL.HANDOVER written. -/
def execTwinHandover (agent : AgentId) (s : State) : Host.Outcome State Fault Refusal :=
  .next (s.ctrlSet agent.toNat pTWIN 0x200)

/-- TWIN_HANDOVER_COMPLETE (R429). -/
def execTwinHandoverComplete (s : State) : Host.Outcome State Fault Refusal :=
  .next (s.handoverDone).settle

/-- TWIN_RECORD (R432): the record's bytes. -/
def execTwinRecord (port : Fin 6) (lseq : Byte) (bytes : List Byte) (intact : Bool) (s : State) :
    Host.Outcome State Fault Refusal :=
  .next (s.vArrive port { lseq := lseq.toNat, body := .twin 3 (leAt bytes 8 4) bytes } intact false)

/-- TWIN_RACK (R430): the SEQ applied. -/
def execTwinRack (port : Fin 6) (lseq : Byte) (seq : BitVec 64) (intact : Bool) (s : State) :
    Host.Outcome State Fault Refusal :=
  .next (s.vArrive port { lseq := lseq.toNat, body := .twin 4 (seq.toNat % 2 ^ 32) (leBytes 8 seq.toNat) } intact false)

/-- TWIN_JOURNAL_LAG (R430). -/
def execTwinJournalLag (s : State) : Host.Outcome State Fault Refusal :=
  .next (s.twinLag).settle

/-- TWIN_RESYNC (R434): the next record of the bulk copy. -/
def execTwinResync (s : State) : Host.Outcome State Fault Refusal :=
  .next (s.orHeld (s.twinResync).settle)

/-- TWIN_SELF_TEST (R435): the test's bit of the pass map and its result. -/
def execTwinSelfTest (bit : Fin 16) (passed : Bool) (s : State) : Host.Outcome State Fault Refusal :=
  .next (s.selfTest bit passed)

/-- TWIN_HEALTH_SEND (R435): the die temperature in tenths of a degree. -/
def execTwinHealthSend (temp : BitVec 16) (s : State) : Host.Outcome State Fault Refusal :=
  .next (s.healthSend temp.toNat).settle

/-- TWIN_HEALTH_RECEIVE (R435): the report's 32 bytes. -/
def execTwinHealthReceive (port : Fin 6) (lseq : Byte) (payload : List Byte) (intact : Bool) (s : State) :
    Host.Outcome State Fault Refusal :=
  .next (s.vArrive port { lseq := lseq.toNat, body := .twin 5 0 payload } intact false)

/-- TWIN_HEALTH_GAP (R435). -/
def execTwinHealthGap (s : State) : Host.Outcome State Fault Refusal :=
  .next (s.healthGap)

/-- TWIN_MCNT_INCR (R433): a write of MCNT_INCR. -/
def execTwinMcntIncr (agent : AgentId) (s : State) : Host.Outcome State Fault Refusal :=
  .next (s.regCmd agent.toNat pTWIN 0x15C 1)

/-- TWFO_PULSE_END (R427). -/
def execTwfoPulseEnd (s : State) : Host.Outcome State Fault Refusal :=
  .next (s.twfoEnd).settle

end Sys2Proof.Machine
end

