-- ==== Sys2Proof/Machine/ResetCtl.lean ====
section
/-!
DEFINITION. The chip's resets (R469–R471, R486), the count of resets (R451), lockdown (R445), the ways VIN
comes and goes (R438, R482, R483), and the power-up of the backup domain (R446, R447).
-/
namespace Sys2Proof.Machine

def State.modTamp (s : State) (f : TampSt → TampSt) : State := { s with tamp := f s.tamp }

def State.modRst (s : State) (f : RstSt → RstSt) : State := { s with rst := f s.rst }

/-! ### The count of resets (R451) -/

/-- One epoch fuse is blown, and the low bits restart at 0; the last one leaves RESETS_END. -/
def State.blowEpoch (s : State) : State :=
  if s.tamp.epochFuses < 255 then
    s.modTamp fun t => { t with epochFuses := t.epochFuses + 1, resetsLow := 0, resetsEnd := t.epochFuses == 254 }
  else s.modTamp fun t => { t with resetsEnd := true }

/-- A cold or warm reset is counted; once every fuse is blown it ends in lockdown. -/
def State.countReset (s : State) : State :=
  let s1 := if s.tamp.resetsEnd then s.modTamp fun t => { t with lockdown := true } else s
  if s1.tamp.resetsLow + 1 < 2 ^ 24 then s1.modTamp fun t => { t with resetsLow := t.resetsLow + 1 }
  else s1.blowEpoch

/-! ### Parts of a reset -/

/-- A register key of the legal island's pages, which no reset of the chip reaches (R335). -/
def islandKey (k : Nat) : Bool := 0x80 ≤ k / 0x1000 && k / 0x1000 ≤ 0x84

/-- Memory that a cold reset keeps: the flash array and the island's own RAM. -/
def keptMem (a : Nat) : Bool :=
  (0x10000000 ≤ a && a < 0x20000000) || (0x26010000 ≤ a && a < 0x26022000)

/-- MCORE at the boot ROM, unless lockdown or NRST holds it (R445, R470). -/
def State.startMcore (s : State) : State :=
  s.setCore 9 (if s.tamp.lockdown || s.rst.nrstLow then {} else coreReset 9)

/-- CORE0–7 and KCORE in RESET (R471). -/
def State.resetCores (s : State) : State :=
  (List.range 9).foldl (fun (t : State) n => (t.coreToReset n).setRg (pCORE n) 0x10 0) s

/-- Sources whose level stands are raised again on the first edge after a reset (R437). -/
def State.reraise (s : State) (levels : Word) : State :=
  if levels = 0 then s else (s.setRg pTAMP 0x184 levels).alarm levels.toNat

/-- Under lockdown a start powers PD00, PD01 and PD53 alone (R445, R486). -/
def State.lockPower (s : State) : State :=
  if s.tamp.lockdown then
    (List.range 56).foldl (fun (t : State) d =>
      if t.pwr.on.testBit d && !([0, 1, 2, 48, 52, 53].contains d) then t.pdSwitch d false else t) s
  else s

/-- RST.CAUSE of a reset that was asked for. -/
def State.setCause (s : State) (asked : Nat) : State :=
  (s.setRg pRST 0x100 (wd (asked % 0x400))).modRst fun r => { r with asked := 0 }

/-- What a warm and a tamper reset alike do to the blocks that run: card slots, SD, journal and flash scans,
stream, host, readers, Vine, digest and Press units, Staves. -/
def State.stopBlocks (s : State) : State :=
  let s1 := (List.range 4).foldl (fun (t : State) n => t.cardReset n) s
  let s2 := ((((s1.sdReset).jrnlReset).flashReset).strmReset).hostReset
  let s3 := (List.range 8).foldl (fun (t : State) n => t.rdrReset n) s2
  let s4 := { (((s3.tagReset).vineReset).timeReset false) with units := [] }
  (List.range 4).foldl (fun (t : State) n => t.staveFresh n) s4

/-- Registers at their W values on every page but the island's. -/
def State.regsWarm (s : State) : State :=
  { s with regs := s.regs.filter fun e => islandKey e.1 || keepsWarm e.1,
           aregs := s.aregs.filter fun e => islandKey (e.1 % 0x1000000),
           pairs := s.pairs.filter fun p => islandKey p.key,
           ports := s.ports.filter fun e => e.1 == 0x12,
           flights := [] }

/-! ### Cold (R471) -/

/-- What of TAMP and BKP outlasts a cold reset. -/
def TampSt.coldKept (t : TampSt) (maker : Bool) : TampSt :=
  { vin := t.vin, fuseCfg := t.fuseCfg, log := if maker then [] else t.log, logSeq := t.logSeq,
    lockdown := t.lockdown, lost := t.lost, vbatOk := t.vbatOk, epochFuses := t.epochFuses,
    resetsLow := t.resetsLow, resetsEnd := t.resetsEnd, btime := t.btime, batRam := t.batRam,
    batMask := t.batMask }

/-- Everything a cold reset leaves, before the life cycle is decoded: the state after reset, with what the
table and the blocks' chapters keep. -/
def State.coldState (s : State) : State :=
  let kept : LcSt := { groups := s.lc.groups, pkRevoke := s.lc.pkRevoke }
  let pw : PwrSt := { vio := s.pwr.vio, refOk := s.pwr.refOk, vinLow := s.pwr.vinLow }
  { State.reset with
    pending := s.pending, cycle := s.cycle, free := s.free,
    regs := s.regs.filter fun e => islandKey e.1 || keepsCold e.1,
    aregs := s.aregs.filter fun e => islandKey (e.1 % 0x1000000),
    pairs := s.pairs.filter fun p => islandKey p.key,
    ports := s.ports.filter fun e => e.1 == 0x12,
    flightNo := s.flightNo,
    mem := s.mem.filter fun c => keptMem c.1,
    gpio := s.gpio, flash := s.flash, notices := s.notices, key := s.key,
    staves := s.staves.filter fun e => e.1 == 4,
    tag := s.tag, legal := s.legal,
    ddr := { keyNo := s.ddr.keyNo + 1 },
    cores := s.cores.filter fun e => e.1 == 10,
    tamp := s.tamp.coldKept false, lc := kept, rst := { nrstLow := s.rst.nrstLow }, pwr := pw }

/-- In MAKER a cold reset also clears FLAG, DEFERRED and the log (R450). -/
def State.makerClear (s : State) : State :=
  if s.lc.state = 0 then
    (((s.setRg pBKP 0x100 0).setRg pBKP 0x104 0).setRg pBKP 0x118 0).modTamp fun t => t.coldKept true
  else s

/-- KEY.CFG takes its reset mode of 1, clipped to the ceiling of the life-cycle state (R177). -/
def State.keyCfgCold (s : State) : State := if loadCeiling s.lcState = 0 then s.setRg pKEY 0x100 0 else s

/-- A cold reset that was asked for (R469–R471). `stuck` that a bit of a partial life-cycle group cannot be
blown (R455). -/
def State.coldReset (s : State) (stuck : Bool) : State :=
  if s.rst.asked % 16 = 0 || !s.tamp.vin then s
  else
    let levels := s.rg pTAMP 0x184
    let s1 := (List.range 4).foldl (fun (t : State) n => t.cardReset n) s
    let s2 := (((s1.coldState.keyReset).flashReset).tagReset).lcBoot stuck
    let s3 := (((s2.makerClear).grantEnd).countReset).keyCfgCold
    let s4 := (((s3.setCause s.rst.asked).startMcore).setRg pTAMP 0x138 (wd s.tamp.fuseCfg)).shadowSync
    (s4.lockPower).reraise levels

/-! ### Warm -/

/-- Domains that a warm reset switches off, and on (R486). -/
def warmOff : List Nat := [3, 4, 5, 6, 7, 8, 9, 10, 13, 14, 15, 16, 17, 18, 19, 20, 22] ++
  [36, 37, 38, 39, 40, 41, 42, 43, 44, 45, 46, 47, 49, 50, 51, 54, 55]

def State.warmDomains (s : State) : State :=
  let s1 := (s.modPwr fun p => { p with switching := none }).modPwr fun p => { p with coreSwitching := false }
  let s2 := warmOff.foldl (fun (t : State) d => if t.pwr.on.testBit d then t.pdSwitch d false else t) s1
  [11, 12, 21, 30, 35, 53].foldl (fun (t : State) d => if t.pwr.on.testBit d then t else t.pdSwitch d true) s2

/-- A warm reset that was asked for, once no zeroization runs (R470, R471). A cold reset that was asked for
too comes in its place (R469). -/
def State.warmReset (s : State) : State :=
  if s.rst.asked / 16 % 32 = 0 || s.rst.asked % 16 ≠ 0 || !s.tamp.vin || s.tamp.zeroizing then s
  else
    let levels := s.rg pTAMP 0x184
    let s1 := ((((s.stopBlocks).keyReset).binReset).ddrWarm).msealReset
    let s2 := ((s1.twinReset false false).lcReset false).modSram fun m =>
      { m with rekeyUsed := false, rekeyStarted := false, drawWait := false }
    let s3 := ({ s2 with rng := {}, ctxKey := [] }.regsWarm).modTamp fun t =>
      { t with resp := 0, twinWait := 0, first := none, halted := false, flagSeen := 0 }
    let s4 := (s3.warmDomains.resetCores).modRst fun r =>
      { nrstLow := r.nrstLow }
    let s5 := ((s4.countReset).setCause s.rst.asked).startMcore
    (s5.lockPower).reraise levels

/-! ### Tamper -/

/-- A switch under way runs to its end, without DONE (R487). -/
def State.endSwitch (s : State) : State :=
  match s.pwr.switching with
  | some (d, on) => (s.modPwr fun p => { p with switching := none }).pdSwitch d on
  | none => s

/-- WDOG.CTRL, LOAD and WARN keep their values (R512). -/
def State.keepWdog (s old : State) : State :=
  [0x10, 0x100, 0x10C].foldl (fun (t : State) off => t.setRg pWDOG off (old.rg pWDOG off)) s

/-- A tamper reset that was asked for, once no zeroization runs (R470, R471). -/
def State.tamperReset (s : State) : State :=
  if !s.rst.asked.testBit 9 || s.rst.asked % 0x200 ≠ 0 || !s.tamp.vin || s.tamp.zeroizing then s
  else
    let levels := s.rg pTAMP 0x184
    let s1 := ((s.stopBlocks).keyTamperReset).modKey fun g => { g with run := none, inject := [] }
    let s2 := (s1.modBin fun g => { spillSeq := g.spillSeq }).ddrTamper
    let s3 := (List.range 64).foldl (fun (t : State) nn => t.rngDrop nn) s2
    let s4 := ((s3.twinReset false true).lcReset true).regsWarm
    let s5 := (s4.keepWdog s).modTamp fun t =>
      { t with resp := 0, twinWait := 0, first := none, halted := false, flagSeen := 0 }
    let s6 := ((s5.endSwitch).resetCores).modRst fun r => { r with bootWait := false }
    ((((s6.setCause s.rst.asked).startMcore).lockPower).twinPoll).reraise levels

/-! ### Escalation -/

/-- An escalation reset that was asked for: the firmware cores only (R469, R471). -/
def State.escalationReset (s : State) : State :=
  if !s.rst.asked.testBit 16 || !s.tamp.vin then s
  else
    (((s.resetCores).grantEnd).cnt pRST 0x124).modRst fun r => { r with asked := r.asked % 2 ^ 16 }

/-! ### NRST and the watchdog -/

/-- NRST low for 1 µs (R470). -/
def State.nrstAssert (s : State) : State := (s.modRst fun r => { r with nrstLow := true }).askReset 4

/-- NRST high: the warm reset it held ends, and MCORE starts. -/
def State.nrstRelease (s : State) : State :=
  let s1 := s.modRst fun r => { r with nrstLow := false }
  if s.rst.nrstLow && s.tamp.vin && (s.core 9).run = .reset then s1.startMcore else s1

/-- COUNT reaches a non-zero WARN (R512). -/
def State.wdogWarn (s : State) : State :=
  let w := fld (s.rg pWDOG 0x10C) 0 16
  if s.en pWDOG && w ≠ 0 && w < s.rst.wdogCount then (s.modRst fun r => { r with wdogCount := w }).irq pWDOG 0 else s

/-- The count expires. -/
def State.wdogExpire (s : State) : State :=
  if s.en pWDOG then (s.modRst fun r => { r with wdogCount := 0 }).askReset 5 else s

/-! ### VIN (R438, R482, R483) -/

/-- The power-down of R483: the device enters cold reset, the DRAM rails go down in order and then the others.
A response that waited for a heartbeat is carried out first (R446). -/
def State.powerDown (s : State) : State :=
  if !s.tamp.vin then s
  else
    let s0 := if s.tamp.twinWait ≠ 0 then s.respond s.tamp.twinWait else s
    let levels := s0.rg pTAMP 0x184 &&& 0x3E03
    let s1 := { s0 with
      mem := memClear s0.mem dramBase 0x200000000,
      ddr := { s0.ddr with mode := 0, trained := false, keyed := false, keyNo := s0.ddr.keyNo + 1,
                           zeroLo := 0, zeroLen := 0 },
      cores := s0.cores.filter fun e => e.1 == 10,
      cards := [], sdc := {}, flights := [], pairs := s0.pairs.filter fun p => islandKey p.key }
    let s2 := (s1.setCore 9 {}).modPwr fun p =>
      { p with rails := [0, 0, 0, 0, 0, 0], pllLocked := 0, pllLost := 0, switching := none, dramUp := false,
               dramBusy := false, coreSwitching := false }
    ((s2.modTamp fun t => { t with vin := false, resp := 0, twinWait := 0, first := none, halted := false,
                                   zeroizing := false }).modRst fun r =>
      { asked := 2, nrstLow := r.nrstLow }).setRg pTAMP 0x184 levels

/-- VIN above 1.68 V, with the regulators, the references and the PLLs up (R482): cause POR where the supply
was lost altogether, BROWNOUT where it dipped (R438). -/
def State.powerUp (s : State) (lost : Bool) : State :=
  if s.tamp.vin then s
  else
    ((s.modTamp fun t => { t with vin := true }).modPwr fun p =>
      { p with rails := [2, 2, 0, 0, 2, 0], pllLocked := 3, pllLost := 0, refOk := 7 }).modRst fun r =>
        { r with asked := if lost then 1 else 2 }

/-- The start conditions are not met (R482): the regulators off again. -/
def State.powerRetry (s : State) : State :=
  if s.tamp.vin then s else s.modPwr fun p => { p with rails := [0, 0, 0, 0, 0, 0], pllLocked := 0 }

/-! ### The backup domain at a power-up (R446, R447) -/

/-- The backup domain is lost: initial values, an epoch fuse, and BKP_LOST with the fused response. -/
def State.backupLost (s : State) : State :=
  let fresh (t : TampSt) : TampSt :=
    { t with log := [], logSeq := 0, lockdown := false, lost := true, btime := 0, flagSeen := 0, batRam := [],
             batMask := [], maskDue := true }
  let s1 := { s with regs := s.regs.filter fun e => e.1 / 0x1000 != pBKP,
                     key := { s.key with slots := s.key.slots.filter fun e => decide (32 ≤ e.1) } }.modTamp fresh
  (((s1.shadowSync).blowEpoch).irq pBKP 1).alarm (2 ^ 14) s.tamp.fuseCfg

/-- A power-up checks the marker (R447); a deferred response is reported (R446). -/
def State.backupUp (s : State) (valid : Bool) : State :=
  if !s.tamp.vin then s
  else if valid then
    let s1 := s.modTamp fun t => { t with lost := false }
    if s.rbit pBKP 0x104 31 then s1.irq pBKP 0 else s1
  else s.backupLost

/-! ### Physical alarm sources (R436–R439, R446) -/

/-- The sources that run while VIN is absent (R446): TEMP_D, TEMP_R, MESH and the loops whose copies enable
them. -/
def State.runsOnVbat (s : State) (src : Nat) : Bool :=
  src ≤ 1 || src = 9 ||
    (10 ≤ src && src ≤ 13 && s.rbit pBKP 0x12C (28 + (src - 10)) && fld (s.rg pBKP 0x130) (2 * (src - 10)) 2 != 0)

/-- Levels of several sources rise on one edge (R437, R441). -/
def State.raiseSources (s : State) (srcs : Nat) : State :=
  let new := (srcsOf srcs).filter fun i =>
    i < 29 && !s.rbit pTAMP 0x184 i && (s.tamp.vin || s.runsOnVbat i)
  let m := new.foldl (fun n i => n + 2 ^ i) 0
  if m = 0 then s else (s.modRg pTAMP 0x184 fun v => v ||| wd m).alarm m

/-- A source found raised or clear at a check. -/
def State.checkSource (s : State) (src : Nat) (bad : Bool) : State :=
  if bad then s.raiseSources (2 ^ src) else s.fallSource src

/-- Loop `n` is checked (R439): `high` that TLI reads high, `differs` that the sequence of an active loop came
back changed. On VBAT every loop is sampled as passive. -/
def State.loopCheck (s : State) (n : Nat) (high differs : Bool) : State :=
  if s.tamp.vin then
    (match fld (s.rg pTAMP 0x198) (2 * n) 2 with
     | 1 => s.checkSource (10 + n) high
     | 2 => s.checkSource (10 + n) differs
     | _ => s)
  else if s.runsOnVbat (10 + n) then s.checkSource (10 + n) high
  else s

/-- Mesh `m` is checked (R439). -/
def State.meshCheck (s : State) (m : Nat) (bad : Bool) : State :=
  if s.rbit pTAMP 0x194 m && bad then s.raiseSources (2 ^ 9) else s

/-- TEMP_R is sampled (R446): the junction in tenths of a degree, and whether it is beyond either limit. -/
def State.tempSample (s : State) (temp : Word) (beyond : Bool) : State :=
  (if s.tamp.vin then s.setRg pTAMP 0x190 temp else s).checkSource 1 beyond

/-- Zeroization ends (R188, R444, R470): ZEROIZING falls, and KEY reports it. -/
def State.zeroizeEnd (s : State) : State :=
  if s.tamp.zeroizing then (s.modTamp fun t => { t with zeroizing := false }).irq pKEY 2 else s

/-- The second dispatch decision (R440, R441): the more severe of the two is carried out. -/
def State.dispatchSecond (s : State) (agrees : Bool) (other : Nat) : State :=
  match s.tamp.first with
  | none => s
  | some (_, r) =>
    let s1 := s.modTamp fun t => { t with first := none }
    if agrees then s1
    else
      let s2 := s1.dualAlarm 5
      if r < other then (s2.setRg pTAMP 0x18C (wd other)).respondOrWait other else s2

end Sys2Proof.Machine
end

