-- ==== Sys2Proof/Machine/BootCtl.lean ====
section
/-!
DEFINITION. The boot ROM (R472–R475). One run goes through the steps until one must wait for a block; a further
run goes on from there. The ROM's register accesses are MCORE's, through the gates.
-/
namespace Sys2Proof.Machine

/-! ### Images (R472, R473) -/

/-- The header of candidate 0 (bank A) or 1 (bank B). -/
def imageBase (b : Nat) : Nat := if b = 0 then 0x10000000 else 0x10400000

def State.image (s : State) (b : Nat) : List Byte := s.flashBytes (imageBase b) 256

/-- The body of a candidate. -/
def State.imageBody (s : State) (b : Nat) : List Byte :=
  s.flashBytes (imageBase b + 256) (leAt (s.image b) 16 4)

/-- MAGIC, VERSION and every zero field. -/
def headerGood (h : List Byte) : Bool :=
  h.take 3 == [0x4B, 0x49, 0x01] && leAt h 3 1 < 8 && (h.drop 113).take 79 == zeros 79

/-- The limits of reason 3. -/
def headerFits (b : Nat) (h : List Byte) : Bool :=
  let len := leAt h 16 4
  let off := leAt h 20 4
  let n := leAt h 24 4
  1 ≤ len && len ≤ (if b = 0 then 3669760 else 3931904) && off + n ≤ len && n ≤ 196608 &&
    leAt h 28 4 + n ≤ 196608 && (leAt h 4 1 == 1 || leAt h 4 1 == 2) && leAt h 7 1 ≤ 1

/-- A sector of the header or body is INTERRUPTED, or a read of it is flagged (reason 2). -/
def State.imageDoubt (s : State) (b : Nat) : Bool :=
  let n := min (leAt (s.image b) 16 4 + 256) 0x400000
  (codeWords (imageBase b) n).any s.wordFlagged ||
    s.flash.intSectors.any fun x => sectorBase x < imageBase b + n && imageBase b < sectorBase (x + 1)

/-- Image key `k` of the information row. -/
def State.imageKey (s : State) (k : Nat) : Nat × Nat :=
  let bs := s.peek (0x10800800 + 64 * k) 64
  (beNat (bs.take 32), beNat (bs.drop 32))

/-- The reason a candidate fails, 0 when checks 1–5 hold (R473). -/
def State.imageReason (s : State) (b : Nat) : Nat :=
  let h := s.image b
  if !headerGood h then 1
  else if s.imageDoubt b then 2
  else if !headerFits b h then 3
  else if sha256.hash (s.imageBody b) ≠ (h.drop 32).take 32 then 4
  else
    let q := s.imageKey (leAt h 7 1)
    if p256.verify (sha256.hash (h.take 192)) q.1 q.2 (beNat ((h.drop 192).take 32)) (beNat ((h.drop 224).take 32))
    then 0 else 5

/-- The ROM reads a candidate and its keys through the gates (R92), in bursts of 256 bytes
(notes/assumptions/80.md): the state after, and whether every read was answered. -/
def State.imageRead (s : State) (b : Nat) : State × Bool :=
  let r := s.engRead aMCORE (imageBase b) (min (leAt (s.image b) 16 4 + 256) 0x400000)
  let q := r.st.engRead aMCORE 0x10800800 128
  (q.st, r.fault == .none && q.fault == .none)

/-- A reason in BOOT_INFO. -/
def State.setReason (s : State) (b r : Nat) : State := s.modRg pRST 0x118 fun v => putFld v (4 * b) 4 r

/-- The candidates not yet failed, the higher SEQ first and A on a tie. -/
def State.untried (s : State) : List Nat :=
  let q (b : Nat) : Nat := leAt (s.image b) 8 8
  (if q 1 ≤ q 0 then [0, 1] else [1, 0]).filter fun b => fld (s.rg pRST 0x118) (4 * b) 4 = 0

/-! ### How a step ends -/

/-- A step goes on, holds until a block is ready, fails with a code, or the start is promoted (R475). -/
inductive BootOut where
  | go (s : State)
  | hold (s : State)
  | fail (s : State) (code : Nat)
  | promote (s : State)

/-- The step reached. -/
def State.bootStep (s : State) : Nat := fld (s.rg pRST 0x114) 8 4

/-- The next step begins. -/
def State.bootTo (s : State) (k : Nat) : State := s.modRg pRST 0x114 fun v => putFld v 8 4 k

/-- The last reset was a tamper reset alone (R475). -/
def State.tamperStart (s : State) : Bool := s.rbit pRST 0x100 9 && fld (s.rg pRST 0x100) 0 9 == 0

/-- The domains a step needs: none when all are on, else the state with the next one asked for. -/
def State.bootPower (s : State) (ds : List Nat) : Option State :=
  match ds.find? fun d => !s.onBits.testBit d with
  | none => none
  | some d => some (if s.pwr.switching.isSome then s else s.regCmd aMCORE pPWR 0x108 (wd (d + 0x100)))

/-- Waiting, or failing once the step's limit has passed. -/
def bootWaits (s : State) (giveUp : Bool) (code : Nat) : BootOut := if giveUp then .fail s code else .hold s

/-! ### The steps (R472) -/

/-- Step 2: the RNG. -/
def State.bootRng (s : State) (giveUp : Bool) : BootOut :=
  if s.tamperStart then .go (s.bootTo 3)
  else
    match s.bootPower [23] with
    | some t => .hold t
    | none =>
      if s.rng.ready then .go (s.bootTo 3) else if s.rng.fault then .fail s 1 else bootWaits s giveUp 1

/-- Step 3: the class keys. -/
def State.bootClass (s : State) (giveUp : Bool) : BootOut :=
  if s.tamperStart || s.key.classReady then .go (s.bootTo 4) else bootWaits s giveUp 2

/-- Step 4: the re-key, and banks 0–3 zeroed; after a tamper reset, the promotion of R475. -/
def State.bootRekey (s : State) (giveUp : Bool) : BootOut :=
  if s.tamperStart then
    (if s.rng.fault || !s.key.classReady || !s.sramKeyed || s.mseal.broken then .promote (s.askReset 7)
     else .go (s.bootTo 5))
  else if s.rbit pSRAM 0x1C 17 then .fail s 2
  else if s.sramKeyed then
    .go (([0, 1, 2, 3].foldl (fun (t : State) b => if t.pdOn (bankDomain b) then t.bankZero b else t) s).bootTo 5)
  else if s.sram.rekeyStarted then bootWaits s giveUp 2
  else .hold (s.ctrlSet aMCORE pSRAM 0x300)

/-- A candidate's verdict is given twice (R440, R473): `agree` that both decisions agree. -/
def State.bootChoose (s : State) (agree : Bool) (fuel : Nat) : BootOut :=
  match fuel, s.untried with
  | 0, _ => .fail s 3
  | _, [] => .fail s 3
  | n + 1, b :: _ =>
    let x := s.imageRead b
    let r := if x.2 then s.imageReason b else 2
    if (r = 0 || 4 ≤ r) && !agree then .fail (x.1.dualAlarm 2) 4
    else if r = 0 then
      .go (((x.1.modRg pRST 0x118 fun v => putFld v 16 16 (leAt (s.image b) 8 2)).modRg pRST 0x114 fun v =>
        putFld v 16 2 (b + 1)).bootTo 6)
    else (x.1.setReason b r).bootChoose agree n

/-- CTRL.EN of a page, set by the ROM. -/
def State.bootEnable (s : State) (pg : Nat) : State := if s.en pg then s else s.ctrlSet aMCORE pg 1

/-- Step 5: the engines, the flash, the choice. -/
def State.bootSelect (s : State) (agree : Bool) : BootOut :=
  match s.bootPower [13, 17] with
  | some t => .hold t
  | none =>
    let s1 := ((s.bootEnable (pDIGEST 0)).bootEnable (pPRESS 0)).bootEnable (pSTAVE 0)
    if s1.flash.scanned then s1.bootChoose agree 3 else .hold s1

/-- The chosen candidate. -/
def State.bootBank (s : State) : Nat := fld (s.rg pRST 0x114) 16 2 - 1

/-- Its header. -/
def State.bootHead (s : State) : List Byte := s.image s.bootBank

/-- The MCORE stage as it is to run, none when its seal does not hold (reason 6). -/
def State.bootStage (s : State) : Option (List Byte) :=
  let h := s.bootHead
  let x := ((s.imageBody s.bootBank).drop (leAt h 20 4)).take (leAt h 24 4)
  if (leAt h 3 1).testBit 0 then
    let k := s.slotMat 1016
    let p := gctr k ((h.drop 64).take 16) (chunks 16 x)
    if k ≠ [] && cmacOf k p == (h.drop 80).take 16 then some p else none
  else some x

/-- Step 6: the stage into monitor-core SRAM; a bad seal sends the ROM back to step 5. -/
def State.bootLoad (s : State) : BootOut :=
  match s.bootStage with
  | some p => .go ((s.poke (0x25000000 + leAt s.bootHead 28 4) p).bootTo 7)
  | none =>
    let s1 := ((s.setReason s.bootBank 6).modRg pRST 0x114 fun v => putFld v 16 2 0).modRg pRST 0x118 fun v =>
      putFld v 16 16 0
    if s1.untried = [] then .fail s1 3 else .go (s1.bootTo 5)

/-- Step 7: SYS.ROLE and SYS.CORE_DOMAIN written where they are not fixed, compared where they are (R13). -/
def State.bootRole (s : State) : BootOut :=
  let role := leAt s.bootHead 4 1
  let dom := leAt s.bootHead 5 1
  let s1 := if s.rbit pSYS 0x108 31 then s else s.pairCmd aMCORE pSYS 0x108 (wd role) (~~~ wd role)
  let s2 := if s1.rbit pSYS 0x100 31 then s1 else s1.pairCmd aMCORE pSYS 0x100 (wd dom) (~~~ wd dom)
  if fld (s2.rg pSYS 0x108) 0 2 = role && fld (s2.rg pSYS 0x100) 0 8 = dom then .go (s2.bootTo 8) else .fail s2 5

/-- Step 8: KEY.CFG and its lock. -/
def State.bootKeyCfg (s : State) : BootOut :=
  let m := wd (leAt s.bootHead 6 1 % 4)
  let s1 := if s.rbit pKEY 0x30 1 then s else s.pairCmd aMCORE pKEY 0x100 m (~~~ m)
  .go ((s1.regCmd aMCORE pKEY 0x30 2).bootTo 9)

/-- Step 9, the window: INIT asked for once. -/
def State.bootSeal (s : State) (giveUp : Bool) : BootOut :=
  if s.mseal.winReady then .go (s.bootTo 10)
  else if !s.rst.sealTried then
    let w := leAt s.bootHead 100 4
    let s1 := (s.regCmd aMCORE pMSEAL 0x100 (wd (w % 128))).regCmd aMCORE pMSEAL 0x104 (wd (w / 256 % 8))
    .hold ((s1.ctrlSet aMCORE pMSEAL 0x101).modRst fun r => { r with sealTried := true })
  else if s.mseal.initBusy then bootWaits s giveUp 7
  else .fail s 7

/-- Step 9, the keys of the DRAM. -/
def State.bootDdrKey (s : State) (giveUp : Bool) : BootOut :=
  if s.ddr.keyed then s.bootSeal giveUp
  else if s.rbit pDDR 0x1C 17 then .fail s 6
  else if s.ddr.drawWait then bootWaits s giveUp 6
  else .hold (s.ctrlSet aMCORE pDDR 0x201)

/-- Step 9, the rails and training; a trained DRAM only leaves self-refresh (R475). -/
def State.bootTrain (s : State) (giveUp : Bool) : BootOut :=
  if s.ddr.trained && s.ddr.mode ≠ 1 then
    (if s.ddr.mode = 3 then s.ctrlSet aMCORE pDDR 1 else s).bootDdrKey giveUp
  else if s.pwr.dramBusy || s.ddr.mode = 1 then bootWaits s giveUp 6
  else if !s.pwr.dramUp then
    let v := s.rg pPWR 0x120 ||| 2
    .hold (s.pairCmd aMCORE pPWR 0x120 v (~~~ v))
  else if s.rst.trainTried then .fail s 6
  else
    let s1 := s.regCmd aMCORE pDDR 0x100 (wd (leAt s.bootHead 96 4))
    .hold ((s1.ctrlSet aMCORE pDDR 0x101).modRst fun r => { r with trainTried := true })

/-- Step 9: DRAM, where the header flags it or the role needs it. -/
def State.bootDram (s : State) (giveUp : Bool) : BootOut :=
  if !((leAt s.bootHead 3 1).testBit 1 || leAt s.bootHead 4 1 = 2) then .go (s.bootTo 10)
  else if s.tamperStart && s.ddr.trained then
    .go ((if s.ddr.mode = 3 then s.ctrlSet aMCORE pDDR 1 else s).bootTo 10)
  else
    match s.bootPower [32, 33, 34] with
    | some t => .hold t
    | none => s.bootTrain giveUp

/-- The rule of step 10: agent 0x30 may read and write the cold region. It takes the first place of GATE23's
active set without a rule, unless such a rule stands. -/
def State.bootBinRule (s : State) : State :=
  let lo := s.coldAddr 0
  let hi := lo + s.binCount * 0x24000 - 1
  let covers (k : Nat) : Bool :=
    let r := s.rule 23 0x400 k
    r.applies aBIN lo && hi ≤ r.limit && bitAt r.w2 9 && bitAt r.w2 10
  if s.dramless || (List.range 32).any covers then s
  else
    match firstBelow 32 fun k => !bitAt (s.rule 23 0x400 k).w2 31 with
    | none => s
    | some k =>
      let pg := pGATE 23
      let w (t : State) (i : Nat) (v : Word) : State := t.regCmd aMCORE pg (0x200 + 16 * k + 4 * i) v
      let s1 := w (w (w s 0 (wd (lo / 0x100))) 1 (wd (hi / 0x100))) 2 0x81300610
      let e := wd ((fld (s.rg pg 0x100) 0 16 + 1) % 0x10000)
      (s1.pairCmd aMCORE pg 0x104 e (~~~ e)).bootEnable pg

/-- Step 10: the bin store. -/
def State.bootBins (s : State) : BootOut :=
  let h := s.bootHead
  if !(leAt h 3 1).testBit 2 || s.en pBIN then .go (s.bootTo 11)
  else
    match s.bootPower [31, 55] with
    | some t => .hold t
    | none =>
      let s1 := (s.regCmd aMCORE pBIN 0x100 (wd (leAt h 104 4))).regCmd aMCORE pBIN 0x104 (wd (leAt h 108 4))
      let s2 := (s1.regCmd aMCORE pBIN 0x108 (wd (leAt h 112 1))).bootBinRule
      let s3 := s2.ctrlSet aMCORE pBIN 1
      if s3.en pBIN then .go (s3.bootTo 11) else .fail s3 8

/-- Step 11: the journal and the SD card; `giveUp` ends the wait of 2 s. -/
def State.bootCards (s : State) (giveUp : Bool) : BootOut :=
  if !s.jrnl.ready then .hold s
  else
    match s.bootPower [50] with
    | some t => .hold t
    | none =>
      let s1 := s.bootEnable pSDC
      if (tfind s1.jrnl.opens 4).isSome && s1.sdc.present && !([4, 5].contains s1.sdc.st) && !giveUp then .hold s1
      else .go (s1.bootTo 12)

/-- The segments of the stage: the table the ROM builds in monitor-core SRAM. -/
def stageSegs : Tbl Seg :=
  (List.range 8).map fun i =>
    (i, match decodeDesc 9 i ((List.range 16).map fun j => Config.stageTable (16 * i + j)) with
        | .ok g => g
        | .fail _ => { sel := i })

/-- The table's address. -/
def stageTableAt : Nat := 0x25030000 + 16 * (Config.stagePlace % 4089)

/-- Step 12: BOOT_OFF, DONE, FAILS, and the jump to the stage's entry. -/
def State.bootJump (s : State) : State :=
  let entry := 0x25000000 + leAt s.bootHead 28 4
  let s1 := (s.ctrlSet aMCORE pKEY 0x100).poke stageTableAt ((List.range 128).map Config.stageTable)
  let s2 := ((s1.modRg pRST 0x114 fun v => setBitW v 31).setRg pRST 0x11C 0).modRst fun r =>
    { r with trainTried := false, sealTried := false }
  let s3 := ((s2.setRg (pCORE 9) 0x100 (wd stageTableAt)).setRg (pCORE 9) 0x104 0).setRg (pCORE 9) 0x108 8
  s3.setCore 9 { s3.core 9 with segs := stageSegs, pc := wd (entry - (tget {} stageSegs 0).base) }

/-- One step. -/
def State.bootOne (s : State) (giveUp agree : Bool) : BootOut :=
  match s.bootStep with
  | 0 => .go (s.bootTo 1)
  | 1 => if s.lcState = 4 then .fail s 9 else .go (s.bootTo 2)
  | 2 => s.bootRng giveUp
  | 3 => s.bootClass giveUp
  | 4 => s.bootRekey giveUp
  | 5 => s.bootSelect agree
  | 6 => s.bootLoad
  | 7 => s.bootRole
  | 8 => s.bootKeyCfg
  | 9 => s.bootDram giveUp
  | 10 => s.bootBins
  | 11 => s.bootCards giveUp
  | _ => .hold s.bootJump

/-- A boot fails (R474): the ROM waits for a retry while FAILS is below RETRY. -/
def State.bootFail (s : State) (code : Nat) : State :=
  let n := min 3 (fld (s.rg pRST 0x11C) 0 2 + 1)
  let s1 := (s.modRg pRST 0x114 fun v => setBitW (putFld v 0 8 code) 30).setRg pRST 0x11C (wd n)
  (s1.setCore 9 { s1.core 9 with run := .wait }).modRst fun r =>
    { r with bootWait := decide (n < fld (s.rg pRST 0x120) 0 2), trainTried := false, sealTried := false }

/-- The ROM is running: MCORE runs, no reset is due, and this start has neither ended nor failed. -/
def State.booting (s : State) : Bool :=
  s.tamp.vin && !s.tamp.lockdown && (s.core 9).run == .run && s.rst.asked % 2 ^ 16 == 0 &&
    !s.rbit pRST 0x114 30 && !s.rbit pRST 0x114 31

/-- Steps until one holds. -/
def State.bootRun (s : State) (giveUp agree : Bool) (fuel : Nat) : State :=
  match fuel with
  | 0 => s
  | n + 1 =>
    match s.bootOne giveUp agree with
    | .go t => t.bootRun false agree n
    | .hold t => t
    | .fail t c => t.bootFail c
    | .promote t => t

/-- BOOT_SEQUENCE: the ROM runs on. -/
def State.boot (s : State) (giveUp agree : Bool) : State := if s.booting then s.bootRun giveUp agree 32 else s

/-- One second after a failed boot (R474). -/
def State.bootRetry (s : State) : State :=
  if s.rst.bootWait then (s.modRst fun r => { r with bootWait := false }).askReset 6 else s

/-- The second secure-boot verdict disagrees (R440, R473). -/
def State.bootVerdict (s : State) : State :=
  let s1 := s.dualAlarm 2
  if s.booting && 5 ≤ s.bootStep then s1.bootFail 4 else s1

end Sys2Proof.Machine
end

