-- ==== Sys2Proof/Machine/ChipCmd.lean ====
section
/-!
DEFINITION. The commands of the tamper monitors and the backup domain, the life cycle and debug port, resets and
start-up, power and clocks (chapters "Tamper monitors, alarms and the backup domain" to "Supplies, power domains, clocks
and balls").
-/
namespace Sys2Proof.Machine

/-! ### Alarms and the backup domain -/

/-- VBAT_OK follows the level of VBAT_LOW (R477). -/
def State.vbatFollow (s : State) : State := s.modTamp fun t => { t with vbatOk := !s.rbit pTAMP 0x184 15 }

/-- The second of a dual decision (R440): which one, whether it agrees, and for a dispatch the response that the
second logic chose. -/
def State.dualSecond (s : State) (which : Nat) (agrees : Bool) (other : Nat) : State :=
  match which with
  | 1 => if agrees then s else s.lcDualFail.dualAlarm 1
  | 2 => if agrees then s else s.bootVerdict
  | 3 => if agrees then s else s.dualAlarm 3
  | 4 => if agrees then s else s.dualAlarm 4
  | 5 => s.dispatchSecond agrees other
  | 6 => s.takeoverSecond agrees
  | _ => s

/-- The light sensors found lit are added to LIGHT_MAP0 and LIGHT_MAP1. -/
def State.lightSeen (s : State) (lit : BitVec 64) : State :=
  if !s.tamp.vin || lit = 0 then s
  else (s.modRg pTAMP 0x19C fun v => v ||| wd lit.toNat).modRg pTAMP 0x1A0 fun v => v ||| wd (lit.toNat / 2 ^ 32)

/-- LIGHT's level: a sensor is lit that no mask covers (R436); LIGHT_MASK is effective in MAKER alone. -/
def State.lightRises (s : State) (lit : BitVec 64) : Bool :=
  let mask : Nat :=
    if s.lcState = 0 then (s.rg pTAMP 0x1A4).toNat + (s.rg pTAMP 0x1A8).toNat * 2 ^ 32 else 0
  s.tamp.vin && (lit &&& ~~~(BitVec.ofNat 64 mask)) != 0

/-- The sources of an edge: source 8 goes by the light sensors, the rest as they are. -/
def State.risenSources (s : State) (sources : Word) (lit : BitVec 64) : Nat :=
  (putBitW sources 8 (s.lightRises lit)).toNat

/-- TAMPER_SOURCE_RAISE (R437, R441): the sources whose levels rise on one edge, and the light sensors that are lit
beyond their threshold, sensor 32w + k being bit k of LIGHT_MAPw. -/
def execTamperSourceRaise (sources : Word) (lit : BitVec 64) (s : State) : Host.Outcome State Fault Refusal :=
  .next (((s.lightSeen lit).raiseSources (s.risenSources sources lit)).vbatFollow).settle

/-- DUAL_DECISION_SECOND (R440). -/
def execDualDecisionSecond (which : Fin 7) (agrees : Bool) (other : Fin 6) (s : State) :
    Host.Outcome State Fault Refusal :=
  .next (s.dualSecond which agrees other).settle

/-- TAMP_RESUME (R443): CTRL.RESUME written. -/
def execTampResume (agent : AgentId) (s : State) : Host.Outcome State Fault Refusal :=
  .next ((s.ctrlSet agent.toNat pTAMP 0x100))

/-- ZEROIZATION_DONE (R444). -/
def execZeroizationDone (s : State) : Host.Outcome State Fault Refusal :=
  .next (s.zeroizeEnd)

/-- VIN_DIP (R438). -/
def execVinDip (s : State) : Host.Outcome State Fault Refusal :=
  .next (if s.tamp.vin then s.alarm (2 ^ 3) else s).settle

/-- VIN_POWER_DOWN (R438, R483). -/
def execVinPowerDown (s : State) : Host.Outcome State Fault Refusal :=
  .next (s.powerDown)

/-- TAMP_LOOP_CHECK (R439): TLI reads high; the sequence came back changed. -/
def execTampLoopCheck (loop : Fin 4) (high differs : Bool) (s : State) : Host.Outcome State Fault Refusal :=
  .next (s.loopCheck loop high differs).settle

/-- TAMP_MESH_CHECK (R439): open, shorted or a wrong sequence. -/
def execTampMeshCheck (mesh : Fin 8) (bad : Bool) (s : State) : Host.Outcome State Fault Refusal :=
  .next (s.meshCheck mesh bad).settle

/-- TAMP_TEMP_SAMPLE (R446): tenths of a degree, and whether that is beyond either limit. -/
def execTampTempSample (temp : Word) (beyond : Bool) (s : State) : Host.Outcome State Fault Refusal :=
  .next (s.tempSample temp beyond).settle

/-- TAMP_RESP_WRITE (R436): a write of RESPs. -/
def execTampRespWrite (agent : AgentId) (src : Fin 32) (value : Word) (s : State) :
    Host.Outcome State Fault Refusal :=
  .next (s.regCmd agent.toNat pTAMP (0x100 + 4 * src.val) value)

/-- TAMP_LOOP_CFG_WRITE (R446). -/
def execTampLoopCfgWrite (agent : AgentId) (value : Word) (s : State) : Host.Outcome State Fault Refusal :=
  .next (s.regCmd agent.toNat pTAMP 0x198 value)

/-- TAMP_FUSEPROG (R447). -/
def execTampFuseprog (agent : AgentId) (value : Word) (s : State) : Host.Outcome State Fault Refusal :=
  .next (s.regCmd agent.toNat pTAMP 0x1B4 value)

/-- BKP_POWER_UP (R446, R447): whether the validity marker held. -/
def execBkpPowerUp (valid : Bool) (s : State) : Host.Outcome State Fault Refusal :=
  .next (s.backupUp valid).settle

/-- BKP_FLAG_CLEAR (R450). -/
def execBkpFlagClear (agent : AgentId) (value : Word) (s : State) : Host.Outcome State Fault Refusal :=
  .next (s.regCmd agent.toNat pBKP 0x100 value)

/-- VBAT_CHANGEOVER (R477): changing over in either direction loses no state. -/
def execVbatChangeover (toVbat : Bool) (s : State) : Host.Outcome State Fault Refusal :=
  .next (if toVbat then s else s)

/-! ### Life cycle and debug -/

/-- A transition asked for by a paired write of LC.TRANS (R454, R455). `stuck` that a bit fails twice after that many
of the group's bits were blown: the group is left PARTIAL and no reset follows. -/
def State.lcTransCmd (s : State) (a : Nat) (v c : Word) (stuck : Option Nat) : State :=
  let t := s.pairCmd a pLC 0x104 v c
  match stuck with
  | none => t
  | some n =>
    if t.lc.groups = s.lc.groups then t
    else
      let k := fld v 0 3
      let g := s.lc.groups.getD (k - 1) 0 ||| lowOnes (lcPattern k) n
      ((t.modLc fun l => { l with partialGrp := true, groups := s.lc.groups.set (k - 1) g }).setRg pLC 0x10C
        0x80000004).modRst fun r => { r with asked := s.rst.asked }

/-- LC_TRANSITION (R455). -/
def execLcTransition (agent : AgentId) (value compl : Word) (stuck : Option (Fin 16)) (s : State) :
    Host.Outcome State Fault Refusal :=
  .next (s.lcTransCmd agent.toNat value compl (stuck.map (·.val)))

/-- LC_PKREVOKE_SET (R463). -/
def execLcPkrevokeSet (agent : AgentId) (value : Word) (s : State) : Host.Outcome State Fault Refusal :=
  .next (s.regCmd agent.toNat pLC 0x11C value)

/-- DBG_CHALLENGE (R462): a write of CHAL_CMD. -/
def execDbgChallenge (agent : AgentId) (s : State) : Host.Outcome State Fault Refusal :=
  .next (s.regCmd agent.toNat pDBG 0x104 1)

/-- DBG_RESPONSE (R463): a write of RESP_CMD. -/
def execDbgResponse (agent : AgentId) (s : State) : Host.Outcome State Fault Refusal :=
  .next (s.regCmd agent.toNat pDBG 0x200 1)

/-- DBG_RESPONSE_VERIFIED (R463). -/
def execDbgResponseVerified (s : State) : Host.Outcome State Fault Refusal :=
  .next (s.dbgVerified)

/-- DBG_REVOKE (R464). -/
def execDbgRevoke (agent : AgentId) (s : State) : Host.Outcome State Fault Refusal :=
  .next (s.regCmd agent.toNat pDBG 0x20C 1)

/-- DBG_HALT_REQ (R465). -/
def execDbgHaltReq (agent : AgentId) (value : Word) (s : State) : Host.Outcome State Fault Refusal :=
  .next (s.regCmd agent.toNat pDBG 0x300 value)

/-- DBG_HALT_TAKEN (R465). -/
def execDbgHaltTaken (core : Fin 10) (s : State) : Host.Outcome State Fault Refusal :=
  .next (s.haltTaken core)

/-- DBG_STEP (R465). -/
def execDbgStep (agent : AgentId) (value : Word) (s : State) : Host.Outcome State Fault Refusal :=
  .next (s.regCmd agent.toNat pDBG 0x308 value)

/-- DBG_RESUME (R465). -/
def execDbgResume (agent : AgentId) (value : Word) (s : State) : Host.Outcome State Fault Refusal :=
  .next (s.regCmd agent.toNat pDBG 0x30C value)

/-- DBG_CDATA_ACCESS (R466): a write of CDATA, or a read. -/
def execDbgCdataAccess (agent : AgentId) (write : Bool) (value : Word) (s : State) :
    Host.Outcome State Fault Refusal :=
  .next (if write then s.regCmd agent.toNat pDBG 0x314 value else s.readCmd agent.toNat pDBG 0x314)

/-- TRACE_RECORD (R468): whether the record is dropped. -/
def execTraceRecord (drop : Bool) (s : State) : Host.Outcome State Fault Refusal :=
  .next (s.orHeld (s.traceRecord drop))

/-! ### Resets and start-up -/

/-- COLD_RESET (R471): whether a bit of a partial life-cycle group cannot be blown. -/
def execColdReset (stuck : Bool) (s : State) : Host.Outcome State Fault Refusal :=
  .next (s.orLost (s.coldReset stuck).settle)

/-- WARM_RESET (R471). -/
def execWarmReset (s : State) : Host.Outcome State Fault Refusal :=
  .next (s.orLost s.warmReset.settle)

/-- TAMPER_RESET (R471). -/
def execTamperReset (s : State) : Host.Outcome State Fault Refusal :=
  .next (s.orLost s.tamperReset.settle)

/-- ESCALATION_RESET (R471). -/
def execEscalationReset (s : State) : Host.Outcome State Fault Refusal :=
  .next (s.escalationReset)

/-- NRST_ASSERT (R470). -/
def execNrstAssert (s : State) : Host.Outcome State Fault Refusal :=
  .next (s.nrstAssert)

/-- RST_SWRST (R469). -/
def execRstSwrst (agent : AgentId) (value compl : Word) (s : State) : Host.Outcome State Fault Refusal :=
  .next (s.pairCmd agent.toNat pRST 0x104 value compl)

/-- RST_ESCRST (R469). -/
def execRstEscrst (agent : AgentId) (value compl : Word) (s : State) : Host.Outcome State Fault Refusal :=
  .next (s.pairCmd agent.toNat pRST 0x10C value compl)

/-- WDOG_ENABLE (R512): CTRL.EN written. -/
def execWdogEnable (agent : AgentId) (s : State) : Host.Outcome State Fault Refusal :=
  .next (s.ctrlSet agent.toNat pWDOG 1)

/-- WDOG_KICK (R512). -/
def execWdogKick (agent : AgentId) (value : Word) (s : State) : Host.Outcome State Fault Refusal :=
  .next (s.regCmd agent.toNat pWDOG 0x104 value)

/-- WDOG_WARN (R512). -/
def execWdogWarn (s : State) : Host.Outcome State Fault Refusal :=
  .next (s.wdogWarn)

/-- WDOG_EXPIRY (R512). -/
def execWdogExpiry (s : State) : Host.Outcome State Fault Refusal :=
  .next (s.wdogExpire)

/-- BOOT_SEQUENCE (R472): `giveUp` that the wait of the step reached has passed its limit, `agree` that both
secure-boot verdicts agree. -/
def execBootSequence (giveUp agree : Bool) (s : State) : Host.Outcome State Fault Refusal :=
  .next (s.orHeld (s.boot giveUp agree).settle)

/-- BOOT_RETRY (R474). -/
def execBootRetry (s : State) : Host.Outcome State Fault Refusal :=
  .next (s.bootRetry)

/-- NRST_RELEASE (R470). -/
def execNrstRelease (s : State) : Host.Outcome State Fault Refusal :=
  .next (s.nrstRelease)

/-! ### Supplies, domains and clocks -/

/-- POWER_UP (R482): whether the supply had been lost altogether. -/
def execPowerUp (lost : Bool) (s : State) : Host.Outcome State Fault Refusal :=
  .next (s.powerUp lost)

/-- POWER_UP_RETRY (R482). -/
def execPowerUpRetry (s : State) : Host.Outcome State Fault Refusal :=
  .next (s.powerRetry)

/-- RAIL_FAULT (R480): the regulator. -/
def execRailFault (rail : Fin 6) (s : State) : Host.Outcome State Fault Refusal :=
  .next (if s.tamp.vin then s.railFault rail else s).settle

/-- POWER_FAULT (R480): the regulator BK0–BK4. -/
def execPowerFault (rail : Fin 5) (s : State) : Host.Outcome State Fault Refusal :=
  .next (if s.tamp.vin then (s.modPwr fun p => { p with rails := p.rails.set rail 3 }).powerDown else s)

/-- PWR_DOMAIN_ON (R487): a write of PWR.REQ. -/
def execPwrDomainOn (agent : AgentId) (domain : Fin 64) (s : State) : Host.Outcome State Fault Refusal :=
  .next (s.regCmd agent.toNat pPWR 0x108 (wd (domain.val + 0x100)))

/-- PWR_DOMAIN_OFF (R488): a write of PWR.REQ. -/
def execPwrDomainOff (agent : AgentId) (domain : Fin 64) (s : State) : Host.Outcome State Fault Refusal :=
  .next (s.regCmd agent.toNat pPWR 0x108 (wd (domain.val)))

/-- PWR_SWITCH_DONE (R490). -/
def execPwrSwitchDone (s : State) : Host.Outcome State Fault Refusal :=
  .next (s.orHeld (s.pwrDone))

/-- A paired write of RAILCTL. -/
def State.railCmd (s : State) (a : Nat) (v : Word) : State := s.pairCmd a pPWR 0x120 v (~~~ v)

/-- PWR_RAILCTL_BST (R481). -/
def execPwrRailctlBst (agent : AgentId) (on : Bool) (s : State) : Host.Outcome State Fault Refusal :=
  .next (s.railCmd agent.toNat (putBitW (s.rg pPWR 0x120) 0 on))

/-- PWR_DRAM_RAILS_UP (R484). -/
def execPwrDramRailsUp (agent : AgentId) (s : State) : Host.Outcome State Fault Refusal :=
  .next (s.railCmd agent.toNat (putBitW (s.rg pPWR 0x120) 1 true))

/-- PWR_DRAM_RAILS_READY (R484). -/
def execPwrDramRailsReady (s : State) : Host.Outcome State Fault Refusal :=
  .next (s.railsReady)

/-- PWR_DRAM_RAILS_DOWN (R485). -/
def execPwrDramRailsDown (agent : AgentId) (s : State) : Host.Outcome State Fault Refusal :=
  .next (s.railCmd agent.toNat (putBitW (s.rg pPWR 0x120) 1 false))

/-- PWR_VIN_AVERAGE (R476): millivolts. -/
def execPwrVinAverage (mV : BitVec 12) (s : State) : Host.Outcome State Fault Refusal :=
  .next (s.setRg pPWR 0x114 (wd mV.toNat))

/-- VIO_SENSE (R478): bank A or B; absent, 1.8 V, 3.3 V, out of window. -/
def execVioSense (bank : Fin 2) (level : Fin 4) (s : State) : Host.Outcome State Fault Refusal :=
  .next (s.vioSense bank level)

/-- CLK_CORESEL (R493): a write of CLK.CFG. -/
def execClkCoresel (agent : AgentId) (value : Word) (s : State) : Host.Outcome State Fault Refusal :=
  .next (s.regCmd agent.toNat pCLK 0x100 value)

/-- CLK_CORE_SWITCH_DONE (R493). -/
def execClkCoreSwitchDone (s : State) : Host.Outcome State Fault Refusal :=
  .next (s.clkSwitched)

/-- PLL_LOCK_LOSS (R492): CPLL, MPLL, DPLL, APLL, SPLL. -/
def execPllLockLoss (pll : Fin 5) (s : State) : Host.Outcome State Fault Refusal :=
  .next (s.orHeld ((s.pllLoss pll).settle))

/-- CLK_MEASURE_DONE (R494): kilohertz. -/
def execClkMeasureDone (kHz : BitVec 24) (s : State) : Host.Outcome State Fault Refusal :=
  .next (s.setRg pCLK 0x108 (wd kHz.toNat))

/-- TAMPER_SOURCE_FALL (R437). -/
def execTamperSourceFall (source : Fin 32) (s : State) : Host.Outcome State Fault Refusal :=
  .next ((s.fallSource source).vbatFollow)

/-- PLL_LOCK_RETURN (R492). -/
def execPllLockReturn (pll : Fin 5) (s : State) : Host.Outcome State Fault Refusal :=
  .next (s.pllReturn pll)

end Sys2Proof.Machine
end

