-- ==== Sys2Proof/Machine/RegCmd.lean ====
section
/-!
DEFINITION. The commands of register pages, paired writes, interrupts and snapshots (chapters
"Conventions", "Device overview" and "Address map and register pages").
-/
namespace Sys2Proof.Machine

/-- REGISTER_WRITE (R3): an access of `size` bytes at a page address; one at another address is none. -/
def execRegisterWrite (agent : AgentId) (addr : Addr) (size : BitVec 8) (value : Word) (s : State) :
    Host.Outcome State Fault Refusal :=
  .next (s.portAccess agent.toNat addr.toNat size.toNat .write (leBytes size.toNat value.toNat))

/-- READ_CLEAR (R5, R85): `hw` are the bits that hardware sets in the same cycle, which win. -/
def execReadClear (agent : AgentId) (page : Fin 320) (off : Fin 4096) (hw : Word) (s : State) :
    Host.Outcome State Fault Refusal :=
  let a := agent.toNat
  let clears := match pageKind page with | some kd => readClears kd off | none => false
  let t := s.readCmd a page off
  .next (if clears then t.modRg page off fun v => v ||| hw else t)

/-- PAIRED_WRITE_PRIMARY (R6): a write to an RWP register, CTRL included. -/
def execPairedWritePrimary (agent : AgentId) (page : Fin 320) (off : Fin 4096) (value : Word) (s : State) :
    Host.Outcome State Fault Refusal :=
  .next (s.regCmd agent.toNat page off value)

/-- PAIRED_WRITE_COMPLEMENT (R6): a write to the partner at `off`. -/
def execPairedWriteComplement (agent : AgentId) (page : Fin 320) (off : Fin 4096) (value : Word) (s : State) :
    Host.Outcome State Fault Refusal :=
  .next (s.regCmd agent.toNat page off value)

/-- PAIR_WINDOW_EXPIRY (R6): the pending write of the register is discarded, if there is one. -/
def execPairWindowExpiry (page : Fin 320) (off : Fin 4096) (s : State) : Host.Outcome State Fault Refusal :=
  let k := rkey page off
  .next (if (s.pairOf k).isSome then (s.pairDrop k).pairFail page else s)

/-- LOCK_SET (R8, R30). -/
def execLockSet (agent : AgentId) (page : Fin 320) (value : Word) (s : State) : Host.Outcome State Fault Refusal :=
  .next (s.regCmd agent.toNat page 0x30 value)

/-- BLOCK_RESET (R10, R28): CTRL.SRST written, with its complement where CTRL is RWP. -/
def execBlockReset (agent : AgentId) (page : Fin 320) (s : State) : Host.Outcome State Fault Refusal :=
  .next (s.ctrlCmd agent.toNat page 2 0xFFFFFFFD)

/-- SYS_ROLE_WRITE (R13, R14): the value, then what is written as its complement. -/
def execSysRoleWrite (agent : AgentId) (value compl : Word) (s : State) : Host.Outcome State Fault Refusal :=
  .next (s.pairCmd agent.toNat pSYS 0x108 value compl)

/-- SYS_CORE_DOMAIN_WRITE (R13, R14). -/
def execSysCoreDomainWrite (agent : AgentId) (value compl : Word) (s : State) : Host.Outcome State Fault Refusal :=
  .next (s.pairCmd agent.toNat pSYS 0x100 value compl)

/-- GATE_COMMIT (R102). -/
def execGateCommit (gate : Fin 24) (agent : AgentId) (value compl : Word) (s : State) :
    Host.Outcome State Fault Refusal :=
  .next (s.pairCmd agent.toNat (pGATE gate) 0x104 value compl)

/-- IRQ_CLR_WRITE (R29): bits that hardware sets in that cycle win. -/
def execIrqClrWrite (agent : AgentId) (page : Fin 320) (value hw : Word) (s : State) :
    Host.Outcome State Fault Refusal :=
  .next ((s.regCmd agent.toNat page 0x2C value).modRg page 0x20 fun v => v ||| hw)

/-- IRQ_EN_WRITE (R29). -/
def execIrqEnWrite (agent : AgentId) (page : Fin 320) (value : Word) (s : State) : Host.Outcome State Fault Refusal :=
  .next (s.regCmd agent.toNat page 0x24 value)

/-- IRQ_ROUTE_WRITE (R35). -/
def execIrqRouteWrite (agent : AgentId) (src : Fin 320) (value : Word) (s : State) :
    Host.Outcome State Fault Refusal :=
  .next (s.regCmd agent.toNat pIRQ (0x100 + 4 * src) value)

/-- SGI_SET (R35). -/
def execSgiSet (agent : AgentId) (value : Word) (s : State) : Host.Outcome State Fault Refusal :=
  .next (s.regCmd agent.toNat pIRQ 0x680 value)

/-- SGI_CLR (R35). -/
def execSgiClr (agent : AgentId) (value : Word) (s : State) : Host.Outcome State Fault Refusal :=
  .next (s.regCmd agent.toNat pIRQ 0x684 value)

/-- SNAP_FIRE (R39). -/
def execSnapFire (agent : AgentId) (s : State) : Host.Outcome State Fault Refusal :=
  .next (s.regCmd agent.toNat pSNAP 0x100 1)

/-- SNAP_REARM (R39): with `fire`, the same write fires too. -/
def execSnapRearm (agent : AgentId) (fire : Bool) (s : State) : Host.Outcome State Fault Refusal :=
  .next (s.regCmd agent.toNat pSNAP 0x100 (if fire then 3 else 2))

/-- SNAPIN_RISE (R39). -/
def execSnapinRise (s : State) : Host.Outcome State Fault Refusal := .next (s.snapTrigger 1)

/-- SNAPSHOT_LATCH (R38): the latch edge of the triggers seen. -/
def execSnapshotLatch (s : State) : Host.Outcome State Fault Refusal := .next s.latch

/-- SNAP_PAGE_EN_WRITE (R38, R41). -/
def execSnapPageEnWrite (agent : AgentId) (word : Fin 10) (value : Word) (s : State) :
    Host.Outcome State Fault Refusal :=
  .next (s.regCmd agent.toNat pSNAP (0x140 + 4 * word) value)

/-- GPIO_PIN_CHANGE (R34). -/
def execGpioPinChange (pin : Fin 64) (level : Bool) (s : State) : Host.Outcome State Fault Refusal :=
  .next { s with gpio := if level then s.gpio ||| 2 ^ pin.val else s.gpio &&& (2 ^ 64 - 1 - 2 ^ pin.val) }

end Sys2Proof.Machine
end

