-- ==== Sys2Proof/Machine/FabricCmd.lean ====
section
/-!
DEFINITION. Accesses on the fabric (chapter "Fabric, gates and ordering", R95–R109): admission, the
second verdict, the response with the access's effect at its target, and the timeout.
-/
namespace Sys2Proof.Machine

/-- The core that issues an agent ID. -/
def coreOf (a : Nat) : Option Nat :=
  if a < 16 then some (a % 8) else if a = aKCORE then some 8 else if a = aMCORE then some 9
  else if a = aLCORE then some 10 else none

/-- An agent that has no way to the fabric for this access: LCORE has no fabric port (R340), and a core's own
SRAM lies on its private path (R92). -/
def offFabric (a addr size : Nat) : Bool :=
  match coreOf a with
  | some n => n == 10 || privatePath n addr size
  | none => false

/-- A gate delivered a stronger ordering class than the access was issued with (R70). -/
def State.attrCheck (s : State) (n issued : Nat) (delivered : Nat) : State :=
  if issued < delivered then (s.err (pCORE n) 17).cnt (pCORE n) 0x120 else s

/-- A refused buffered store or line write-back (R73): the first is recorded and STORE_ERROR becomes
pending. `size` is 6 for a line. -/
def State.storeError (s : State) (n addr size seg gate : Nat) : State :=
  let pg := pCORE n
  if s.rbit pg 0x11C 31 then s.modRg pg 0x11C fun v => setBitW v 30
  else
    let s1 := (s.setRg pg 0x114 (wd addr)).setRg pg 0x118 (wd (addr / 2 ^ 32))
    let s2 := s1.setRg pg 0x11C (wd (size + at' seg 8 + at' gate 24 + 0x80000000))
    s2.modCore n fun c => { c with pendSterr := true }

/-- An access launched on the fabric (R103); a window access becomes a packet (R412). -/
def State.launch (s : State) (f : Flight) : State :=
  let s1 := s.addFlight f
  if f.gate = 22 && !f.second then s1.vRemoteStart f.id else s1

/-- A request at its target's gate (R95, R96, R105), after the range check of R22 and R25. On the pages of R105 it
waits for the second verdict, also when the first refuses. -/
def State.request (s : State) (a addr size : Nat) (k : AccKind) (asked : Nat) (data : List Byte) (u : Upset) : State :=
  let g := (gateOf addr).getD 0
  let twice := (judgedTwice addr).isSome
  if !s.issues a || offFabric a addr size || size = 0 || s.blkWaits a g then s
  else if !s.rangeOk addr size k then s.setPort a { fault := .range }
  else if u = .reqParity then (s.badRequest addr k).setPort a { fault := .parity }
  else
    let f (c o : Nat) : Flight :=
      { s.newFlight a addr size k data c o (max asked (issuedOrder a)) with second := twice }
    match s.judge g a addr size k with
    | .refuse r =>
      if twice then s.launch { f 0 0 with refused := some r } else (s.gateRefuse g a r addr k).setPort a { fault := .gate }
    | .letPass c o d =>
      if twice then s.launch { f c o with byDefault := d } else ((s.countDefault g d).launch (f c o)).beginWait a addr

/-- A flight by its number. -/
def State.flight (s : State) (id : Nat) : Option Flight := s.flights.find? fun f => f.id == id

/-- The kind of a flight's access. -/
def Flight.kind (f : Flight) : AccKind := if f.write then .write else if f.fetch then .fetch else .read

/-- A flight can be performed now (R106, R143, R145, R164, R236, R239, R492). -/
def State.canPerform (s : State) (f : Flight) : Bool :=
  !f.second && f.gate != 22 && !s.heldBack f && !s.targetWaits f.addr f.size && !s.pageWaits f.agent f.addr f.kind

/-- An arbiter grants by age, equal ages to the lower agent ID (R110): another flight to the same target goes first. -/
def State.outranked (s : State) (f : Flight) : Bool :=
  s.flights.any fun e =>
    e.gate == f.gate && e.id != f.id && s.canPerform e && !e.timedOut &&
      (decide (e.issued < f.issued) || (e.issued == f.issued && decide (e.agent < f.agent)))

/-- A grant to a flight (R110): the grants that it waited go into FAB.MAXWAIT, and the others ready at the target have
waited one more. -/
def State.granted (s : State) (f : Flight) : State :=
  ({ s with flights := s.flights.map fun e =>
      if e.gate == f.gate && e.id != f.id && s.canPerform e then { e with waited := e.waited + 1 } else e } : State).modRg
    pFAB 0x114 fun v => wd (max v.toNat (min f.waited 127))

/-- What still refuses an admitted access at its target: a broken seal refuses those that wait (R133), and key words
hidden since stay hidden (R21). -/
def State.lateRefusal (s : State) (f : Flight) : Option MemAns :=
  let none' : MemAns := { st := s, data := List.replicate f.size 0, fault := .range }
  match regionOf f.addr with
  | some .dram => if s.mseal.broken && s.inWindow f.addr f.size then some none' else none
  | some (.stave n) =>
    if (ramGranules f.addr f.size).any fun g => (s.stave n).hidden.contains g || (s.stave n).taint.contains g then
      some { none' with st := s.gateRefuseAt f.gate f.agent 5 f.addr f.kind f.epoch, fault := .gate }
    else none
  | _ => none

/-- The effect of an access at its target, with its answer. -/
def State.perform (s : State) (f : Flight) (u : Upset) : State × Resp :=
  let r := (s.lateRefusal f).getD (s.atTarget f.agent f.addr f.size f.kind f.data u)
  (r.st, { data := if f.write || r.fault ≠ .none then 0 else leNat r.data, fault := r.fault, size := f.size,
           attr := if r.fault = .gate || r.fault = .range then none else some (f.cache, f.order) })

/-- A buffered store or line write-back is answered (R70, R73). -/
def State.bufferedEnd (s : State) (f : Flight) (fault : BusFault) : State :=
  match f.buf with
  | none => s
  | some (n, seg, size) =>
    if fault = .none then s.attrCheck n f.asked f.order else s.storeError n f.addr size seg f.gate

/-- A response comes back (R106, R109): the access takes effect at its target and its answer passes the
gate. The response to an access that timed out is discarded and counted; whether such a write took effect
is free. -/
def State.respondFlight (s : State) (id : Nat) (u : Upset) : State :=
  match s.flight id with
  | none => s
  | some f =>
    if !s.canPerform f || s.outranked f then (if f.second then s else s.flashWant f.addr)
    else if f.timedOut then
      let s1 := if f.write && Config.freeNat s.free % 2 = 1 then (s.perform f u).1 else s
      ((if f.write then s1.draw else s1).dropFlight f).cnt pFAB 0x10C
    else
      let r := (s.granted f).perform f u
      ((r.1.dropFlight f).answer f r.2).bufferedEnd f r.2.fault

/-- A response that does not come in time (R109). -/
def State.timeoutFlight (s : State) (id : Nat) : State :=
  match s.flight id with
  | none => s
  | some f =>
    if f.timedOut || f.second then s
    else
      let mark (e : Flight) : Flight := if e.id == id then { e with timedOut := true } else e
      let t := ((({ s with flights := s.flights.map mark }).countTimeout f.agent f.gate).answer f
        { fault := .timeout, size := f.size }).bufferedEnd f .timeout
      if f.gate = 22 then t.vPump else t

/-- The second verdict of R105: with the first, the access proceeds or is refused with its reason; else it is refused
with TWICE. Both are judged under the epoch of the first. -/
def State.secondVerdict (s : State) (id : Nat) (agrees : Bool) : State :=
  match s.flight id with
  | none => s
  | some f =>
    if !f.second then s
    else
      match agrees, f.refused with
      | true, none =>
        let mark (e : Flight) : Flight := if e.id == id then { e with second := false } else e
        ({ s with flights := s.flights.map mark } : State).countDefault f.gate f.byDefault
      | true, some r =>
        ((s.dropFlight f).gateRefuseAt f.gate f.agent r f.addr f.kind f.epoch).answer f { fault := .gate, size := f.size }
      | false, _ =>
        ((s.dropFlight f).refuseTwice f.gate f.agent f.addr f.kind f.epoch).answer f { fault := .gate, size := f.size }

/-! ### What the accesses within a command meet -/

/-- What an agent's accesses to a byte meet is changed; where nothing remains, it is withdrawn. -/
def State.setFate (s : State) (a addr : Nat) (h : Fate → Fate) : State :=
  let f := h ((s.fates.find? fun f => f.agent == a && f.addr == addr).getD { agent := a, addr := addr })
  let rest := s.fates.filter fun f => !(f.agent == a && f.addr == addr)
  { s with fates := if f.upset = .none && !f.late && !f.twice then rest else f :: rest }

/-- FABRIC_REQUEST (R95): `upset` is bad parity met at the gate. -/
def execFabricRequest (agent : AgentId) (addr : Addr) (size : Fin 257) (how : AccHow) (data : List Byte) (upset : Upset)
    (s : State) : Host.Outcome State Fault Refusal :=
  .next (s.request agent.toNat addr.toNat size how.kind how.order (if how.kind = .write then fitTo size data else []) upset)

/-- GATE_SECOND_VERDICT (R105): whether the second logic agrees with the first, attributes included. -/
def execGateSecondVerdict (who : RspOf) (agrees : Bool) (s : State) : Host.Outcome State Fault Refusal :=
  .next (match who with
    | .flight id => s.secondVerdict id agrees
    | .next a addr => s.setFate a.toNat addr.toNat fun f => { f with twice := !agrees })

/-- FABRIC_RESPONSE (R106): of an access in flight; or of those that an agent will make to a byte within commands, which
come in time from then on. -/
def execFabricResponse (who : RspOf) (upset : Upset) (s : State) : Host.Outcome State Fault Refusal :=
  .next (match who with
    | .flight id => s.orHeld (s.respondFlight id upset).settle
    | .next a addr => s.setFate a.toNat addr.toNat fun f => { f with upset := upset, late := false })

/-- FABRIC_TIMEOUT (R109). -/
def execFabricTimeout (who : RspOf) (s : State) : Host.Outcome State Fault Refusal :=
  .next (match who with
    | .flight id => s.timeoutFlight id
    | .next a addr => s.setFate a.toNat addr.toNat fun f => { f with late := true })

end Sys2Proof.Machine
end

