-- ==== Sys2Proof/Machine/CoreExc.lean ====
section
/-!
DEFINITION. Exceptions of a core (chapter "Exceptions, holds and escalation"): ordinary entry (R78, R79), the
frame (R80, R81), escalation (R88), halting (R90), the checks and effect of RETX (R86, R87), and what is
taken at an instruction boundary (R77, R82).
-/
namespace Sys2Proof.Machine

/-- An exception's event, as a frame describes it (R80): cause code, FADDR, the SEG, SIZE, ACC and GATE
fields of FINFO, the instruction, and the source with its priority for an interrupt. -/
structure Exc where
  code : Nat
  faddr : Word := 0
  finfo : Nat := 0
  ref : Ref := {}
  src : Nat := 0
  prio : Nat := 0

/-- FINFO's SEG, SIZE, ACC and GATE fields (R80). -/
def finfoOf (seg size acc gate : Nat) : Nat := seg + at' size 4 + at' acc 8 + at' gate 24

/-- The vector of a cause code (R76). -/
def vectorOf (code : Nat) : Nat :=
  if code ≤ 4 then code - 1
  else if code < 0x18 then 4
  else if code = 0x18 then 5
  else if code < 0x28 then 6
  else if code ≤ 0x29 then 7
  else 8

/-- The active loop whose last instruction an offset is: loop 1 decides first (R49, R50). -/
def CoreSt.loopAt (c : CoreSt) (pc : Word) : Option Nat :=
  if c.la1 && c.lend1 == pc then some 1 else if c.la0 && c.lend0 == pc then some 0 else none

/-- How a precise fault of the next instruction describes it (R81). -/
def CoreSt.faultRef (c : CoreSt) : Ref :=
  { epc := c.pc, done := false, slot := c.slot.isSome, shadow := c.shadow, loopEnd := c.loopAt c.pc,
    npc := match c.slot with
      | some t => t
      | none => if (c.loopAt c.pc).isSome then c.pc else c.kept.getD (c.pc + 4) }

/-- How an asynchronous exception describes the boundary: the last completed instruction and the resolved
successor (R81). -/
def CoreSt.asyncRef (c : CoreSt) : Ref := { c.last with done := true, npc := c.pc }

/-- The two selectors of a frame word (R80). -/
def selPair (a b : Seg) : Nat := a.sel % 4096 + flagAt a.null 15 + at' (b.sel % 4096) 16 + flagAt b.null 31

/-- The 24 words of a frame (R80): `code`, `reason` and `orig` differ from the event's own for an
escalation. -/
def CoreSt.frame (c : CoreSt) (e : Exc) (code reason orig : Nat) : List Word :=
  [ e.ref.epc, e.ref.npc, swOf { c with esc := false },
    wd (code + flagAt e.ref.done 8 + flagAt e.ref.slot 9 + flagAt e.ref.shadow 10 +
      flagAt e.ref.loopEnd.isSome 11 + at' (e.ref.loopEnd.getD 0) 12 + at' (e.src % 512) 16),
    e.faddr, wd (e.finfo + at' reason 12 + at' orig 16),
    c.lstart0, c.lend0, c.lcount0, c.lstart1, c.lend1, c.lcount1,
    wd (selPair (c.seg 0) (c.seg 1)), wd (selPair (c.seg 2) (c.seg 3)), wd (selPair (c.seg 4) (c.seg 5)),
    wd (selPair (c.seg 6) (c.seg 7)),
    wd (c.xdepth + at' c.iprio 8), wd c.cycle, 0, 0, 0, 0, 0, 0 ]

/-- A frame word, with device ordering (R78, R88): also a register page or the Vine window takes it, as any aligned
32-bit access (R3, R412). A word for a remote device leaves as a packet, of whose answer the entry does not wait, and
one read from there is free (notes/assumptions/78.md). -/
def State.frameWord (s : State) (n addr : Nat) (k : AccKind) (bs : List Byte) : CoreAns :=
  if n = 10 && (islandRights addr 4).isSome || privatePath n addr 4 || isMemory addr then s.coreTable n addr 4 k bs
  else
    let r := s.access (s.coreAgent n) addr 4 k bs 2 .none
    match r.flight with
    | none => { st := r.ans.st, data := r.ans.data, code := causeOf r.ans.fault, gate := r.ans.gate }
    | some _ =>
      if gateOf addr = some 22 then
        { st := if k = .write then r.ans.st else r.ans.st.draw, data := leBytes 4 (Config.freeWord s.free).toNat }
      else { st := s.hold addr, code := 0x2B }

/-- Words written through a segment from an offset up, in order, each checked under R55; false at the first
refusal, the words before it written (R78). -/
def State.frameWrite (s : State) (n seg : Nat) (off : Word) (ws : List Word) : State × Bool :=
  match ws with
  | [] => (s, true)
  | w :: r =>
    match (s.core n).check seg off 4 (·.w) with
    | .inr _ => (s, false)
    | .inl a =>
      let x := s.frameWord n a .write (leBytes 4 w.toNat)
      if a % 4 ≠ 0 || x.code ≠ 0 then (x.st, false) else x.st.frameWrite n seg (off + 4) r

/-- Words read through a segment; none when one is refused (R86). -/
def State.frameRead (s : State) (n seg : Nat) (off : Word) (k : Nat) : State × Option (List Word) :=
  match k with
  | 0 => (s, some [])
  | j + 1 =>
    match (s.core n).check seg off 4 (·.r) with
    | .inr _ => (s, none)
    | .inl a =>
      let x := s.frameWord n a .read []
      if a % 4 ≠ 0 || x.code ≠ 0 then (x.st, none)
      else
        match x.st.frameRead n seg (off + 4) j with
        | (t, some ws) => (t, some (wordOf x.data :: ws))
        | (t, none) => (t, none)

/-- A core halts under R90: ESC_LOG.HALT, ESC_HALT, and the alarm to MCORE, not below RESET for MCORE itself;
KCORE's halt asks for an escalation reset (R469); LCORE raises no alarm (R341). -/
def State.escHalt (s : State) (n cause : Nat) : State :=
  let s1 := (s.modRg (pCORE n) 0x134 fun v => putFld v 16 8 cause).modCore n fun c => { c with escHalt := true }
  let s2 := if n = 8 then (s1.haltCore n).askReset 16 else s1.haltCore n
  if n = 10 then s2 else s2.alarm (2 ^ 27) (if n = 9 then 3 else 0)

/-- An escalation (R88): the handler is entered at ESCPC with s0 and s7 from descriptors 0 and 7, or the core
halts (R90). -/
def State.escalate (s : State) (n : Nat) (e : Exc) (code reason : Nat) : State :=
  let c := s.core n
  let orig := if code = 0x42 then 0 else e.code
  let words := c.frame e code reason orig
  let pg := pCORE n
  let s1 := (s.setCore n { c with
    esc := true, escHold := { h := c.h, hcnt := c.hcnt }, h := false, hcnt := 0, la0 := false, la1 := false,
    run := .run, slot := none, kept := none, shadow := false, closed := false, fetched := false }).snapTrigger 3
  let s2 := s1.modRg pg 0x134 fun v => putFld (putFld v 0 8 code) 8 8 orig
  match s2.loadDesc n 0 with
  | (t, .fail _, _) => t.escHalt n 0x40
  | (t, .ok g0, _) =>
    match t.loadDesc n 7 with
    | (u, .fail _, _) => u.escHalt n 0x40
    | (u, .ok g7, _) =>
      let segs := tset (tset (s2.core n).segs 0 g0) 7 g7
      let u1 := u.modCore n fun d => { d with segs := segs }
      let top := g7.limit + 1
      if g7.null || !g7.w || top % 16 ≠ 0 || top < 0x60 || fld (u1.rg pg 0x12C) 0 2 ≠ 0 then u1.escHalt n 0x40
      else
        match u1.frameWrite n 7 (wd (top - 0x60)) words with
        | (x, false) => x.escHalt n 0x40
        | (x, true) =>
          (x.modCore n fun d => { d with pc := x.rg pg 0x12C }).traceEvent n 1 (x.rg pg 0x12C)

/-- Why a vector entry is unusable: its escalation code and REASON (R78, R80). -/
def vectorBad (w0 w1 : Word) : Option (Nat × Nat) :=
  if !bitAt w1 31 then some (0x41, 13)
  else if fld w1 12 4 ≠ 0 || fld w1 28 3 ≠ 0 then some (0x41, 14)
  else if fld w0 0 2 ≠ 0 then some (0x41, 7)
  else none

/-- The commit of an ordinary entry (R78 step 4, R79). -/
def CoreSt.enter (c : CoreSt) (e : Exc) (pc : Word) (g0 : Seg) (hold : Nat) : CoreSt :=
  let c1 := c.setGr 30 (c.gr 30 - 0x60)
  { c1 with
    run := .run, xdepth := c.xdepth + 1, ledger := { h := c.h, hcnt := c.hcnt } :: c.ledger,
    la0 := false, la1 := false, segs := tset c.segs 0 g0, iprio := if e.code = 1 then e.prio else c.iprio,
    h := c.h || hold != 0, hcnt := if hold = 0 then c.hcnt else if c.h then min c.hcnt hold else hold,
    pc := pc, slot := none, kept := none, shadow := false, closed := false, fetched := false,
    pendAlarm := c.pendAlarm && e.code != 2, pendSterr := c.pendSterr && e.code != 3 }

/-- Ordinary entry (R78): nothing is committed before every check has passed; a failure escalates. -/
def State.enter (s : State) (n : Nat) (e : Exc) : State :=
  let c := s.core n
  let pg := pCORE n
  if 8 ≤ c.xdepth then s.escalate n e 0x43 12
  else
    let vtb := (s.rg pg 0x124).toNat + fld (s.rg pg 0x128) 0 8 * 2 ^ 32
    let r := s.coreTable n (vtb + 8 * vectorOf e.code) 8 .read []
    if r.code ≠ 0 then r.st.escalate n e 0x40 8
    else
      let w0 := wordOf r.data
      let w1 := wordOf (r.data.drop 4)
      match vectorBad w0 w1 with
      | some (code, why) => r.st.escalate n e code why
      | none =>
        match r.st.loadDesc n (fld w1 0 12) with
        | (t, .fail _, _) => t.escalate n e 0x40 9
        | (t, .ok g, _) =>
          if g.null || !g.x then t.escalate n e 0x40 9
          else if fld (c.gr 30) 0 4 ≠ 0 then t.escalate n e 0x40 11
          else
            match t.frameWrite n 2 (c.gr 30 - 0x60) (c.frame e e.code 0 0) with
            | (u, false) => u.escalate n e 0x40 10
            | (u, true) => (u.modCore n fun d => d.enter e w0 g (fld w1 16 12)).traceEvent n 1 w0

/-- An exception is taken: while an escalation handler runs it halts the core (R90). -/
def State.take (s : State) (n : Nat) (e : Exc) : State :=
  if (s.core n).esc then s.escHalt n e.code else s.enter n e

/-- A precise fault of the next instruction (R76, R81). -/
def State.faultAt (s : State) (n code : Nat) (faddr : Word) (finfo : Nat) : State :=
  s.take n { code := code, faddr := faddr, finfo := finfo, ref := (s.core n).faultRef }

/-! ### Return -/

/-- A segment restored from a frame word's selector and NULL flag: none where it stays, or what is loaded
(R86 reason 3). -/
def State.frameSeg (s : State) (n i : Nat) (w : Word) (lo : Nat) : State × Option (Option Seg) :=
  let g := (s.core n).seg i
  let sel := fld w lo 12
  let null := bitAt w (lo + 15)
  if g.sel % 4096 = sel && g.null == null then (s, some none)
  else if null then (s, some (some { sel := sel }))
  else
    match s.loadDesc n sel with
    | (t, .ok x, _) => (t, some (some x))
    | (t, .fail _, _) => (t, none)

/-- The eight segments of a frame (R86 reason 3). -/
def State.frameSegs (s : State) (n : Nat) (ws : List Word) : State × Option (Tbl Seg) :=
  (List.range 8).foldl (fun (p : State × Option (Tbl Seg)) i =>
    match p.2 with
    | none => p
    | some segs =>
      match p.1.frameSeg n i (ws.getD (12 + i / 2) 0) (16 * (i % 2)) with
      | (t, some none) => (t, some segs)
      | (t, some (some g)) => (t, some (tset segs i g))
      | (t, none) => (t, none)) (s, some (s.core n).segs)

/-- The loop fields of a frame pass reason 6 of R86. -/
def loopsOk (ws : List Word) : Bool :=
  let sw := ws.getD 2 0
  let f (i : Nat) : Nat := (ws.getD i 0).toNat
  let one (i : Nat) : Bool :=
    f i % 4 == 0 && f (i + 1) % 4 == 0 && f i ≤ f (i + 1) && f (i + 1) ≤ f i + 4 * 4095 && 1 ≤ f (i + 2)
  (!bitAt sw 3 || one 6) && (!bitAt sw 4 || one 9) &&
    (!(bitAt sw 3 && bitAt sw 4) || (f 6 ≤ f 9 && f 10 ≤ f 7))

/-- The ledger entry of the newest open frame (R78, R88). -/
def CoreSt.ledgerTop (c : CoreSt) : Hold := if c.esc then c.escHold else c.ledger.headD {}

/-- A RETX that passed its checks (R87). -/
def CoreSt.restore (c : CoreSt) (ws : List Word) (segs : Tbl Seg) : CoreSt :=
  let w (i : Nat) : Word := ws.getD i 0
  let sw := w 2
  let done := bitAt (w 3) 8
  let held := bitAt sw 2 && c.h
  let c1 := if c.esc then { c with esc := false, escHold := {} }
    else { c.setGr 30 (c.gr 30 + 0x60) with xdepth := c.xdepth - 1, ledger := c.ledger.tail }
  { c1 with
    c := bitAt sw 0, v := bitAt sw 1, la0 := bitAt sw 3, la1 := bitAt sw 4,
    h := held, hcnt := if held then min (fld sw 16 12) c.hcnt else 0,
    lstart0 := w 6, lend0 := w 7, lcount0 := w 8, lstart1 := w 9, lend1 := w 10, lcount1 := w 11,
    segs := segs, iprio := fld (w 16) 8 4,
    pc := if done then w 1 else w 0, kept := if done then none else some (w 1), closed := !done,
    shadow := false,
    last := { epc := c.pc, npc := if done then w 1 else w 0, done := true, shadow := c.shadow } }

/-- RETX (R86): the checks in order; the first that fails escalates with RET_CHECK, and halts the core while
an escalation handler runs (R90). -/
def State.retx (s : State) (n : Nat) : State :=
  let c := s.core n
  let e : Exc := { code := 0x42, ref := c.faultRef }
  let bad (t : State) (why : Nat) : State := if c.esc then t.escHalt n 0x42 else t.escalate n e 0x42 why
  if c.xdepth = 0 && !c.esc then bad s 1
  else
    let at7 := wd ((c.seg 7).limit + 1 - 0x60)
    match s.frameRead n (if c.esc then 7 else 2) (if c.esc then at7 else c.gr 30) 24 with
    | (t, none) => bad t 2
    | (t, some ws) =>
      match t.frameSegs n ws with
      | (u, none) => bad u 3
      | (u, some segs) =>
        let g0 := tget {} segs 0
        let sw := ws.getD 2 0
        if g0.null || !g0.x then bad u 4
        else if bitAt sw 2 && !(c.ledgerTop.h && decide (fld sw 16 12 ≤ c.ledgerTop.hcnt)) then bad u 5
        else if !loopsOk ws then bad u 6
        else if fld (ws.getD 0 0) 0 2 ≠ 0 || fld (ws.getD 1 0) 0 2 ≠ 0 then bad u 7
        else
          let u1 := u.modCore n fun d => d.restore ws segs
          u1.traceEvent n 2 (u1.core n).pc

/-! ### Boundaries -/

/-- The interrupt presented to a core: its priority and source (R36, R342). -/
def State.presentedTo (s : State) (n : Nat) : Option (Nat × Nat) :=
  if n = 10 then s.lirqTop else s.presented n

/-- A core that issues instructions: running or waiting, its agent ID issued, not held by the debug port
outside a step (R17, R75, R465). -/
def State.coreLive (s : State) (n : Nat) : Bool :=
  let c := s.core n
  (c.run == .run || c.run == .wait) && s.issues (s.coreAgent n) && (!c.dbgHalt || c.dbgStep)

/-- The boundary is open (R82), and no access of the next instruction is under way. -/
def CoreSt.openAt (c : CoreSt) : Bool :=
  c.slot.isNone && !c.shadow && !c.closed && c.await.isNone && c.got.isNone

/-- What a core takes at its boundary in place of the next instruction (R77): ALARM, STORE_ERROR, or an
interrupt above IPRIO while no hold is in force. Nothing while an escalation handler runs (R85, R88) or in
a debug halt (R465). -/
def State.boundary (s : State) (n : Nat) : Option Exc :=
  let c := s.core n
  if !c.openAt || c.esc || c.dbgHalt then none
  else if c.pendAlarm then some { code := 2, ref := c.asyncRef }
  else if c.pendSterr then some { code := 3, ref := c.asyncRef }
  else if c.h then none
  else
    match s.presentedTo n with
    | some (p, i) => if c.iprio < p then some { code := 1, ref := c.asyncRef, src := i, prio := p } else none
    | none => none

/-- The interrupt that a core takes at a line boundary inside a .ALL operation, which its return starts again (R72,
R81): none in a delay slot or a shadow (DEDUCED from R82; notes/assumptions/79.md). -/
def State.interruptInside (s : State) (n : Nat) : Option Exc :=
  let c := s.core n
  let open' := s.modCore n fun d => { d with closed := false, await := none, got := none }
  match open'.boundary n with
  | some e =>
    if e.code = 1 then
      some { e with ref := { epc := c.pc, done := false, loopEnd := c.loopAt c.pc, npc := c.kept.getD (c.pc + 4) } }
    else none
  | none => none

/-- The exception of a code is taken at the boundary if it comes first there (R77). LCORE's latched causes
end as they are taken. -/
def State.takeAt (s : State) (n code : Nat) : State :=
  if !s.coreLive n then s
  else
    match s.boundary n with
    | some e =>
      if e.code ≠ code then s
      else
        let t := s.orHeld (s.enter n e)
        if t = s then s
        else if n = 10 && code = 1 then t.modLegal fun l => { l with lirq := if l.lirq.testBit e.src then l.lirq ^^^ 2 ^ e.src else l.lirq }
        else t
    | none => s

end Sys2Proof.Machine
end

