-- ==== Sys2Proof/Machine/CoreData.lean ====
section
/-!
DEFINITION. The data accesses and fetches of a core: its private path, the data and instruction caches
(R69, R72), delivered attributes (R70), buffered stores and STORE_ERROR (R73).
-/
namespace Sys2Proof.Machine

/-- How an access of a core ended: its bytes, a cause code with the refusing gate, or not yet. -/
inductive DataRes where
  | done (data : List Byte)
  | fault (code gate : Nat)
  | wait

/-- One access of a core and the attributes its gate delivered. -/
structure DataAns where
  st : State
  res : DataRes
  cache : Nat := 2
  order : Nat := 0

/-- The attributes with which the gates would let pass an access of a core. -/
def State.coreAttrs (s : State) (n addr size : Nat) (k : AccKind) : Option (Nat × Nat) :=
  if n = 10 || !s.rangeOk addr size k then none
  else
    match s.judge ((gateOf addr).getD 0) (s.coreAgent n) addr size k with
    | .letPass c o _ => some (c, o)
    | .refuse _ => none

/-- One uncached access of a core, issued with an ordering (R70). One that waits for its answer leaves its instruction
to wait with it; its answer stands in `got`. -/
def State.coreBus (s : State) (n addr size : Nat) (k : AccKind) (bs : List Byte) (asked : Nat) (u : Upset) : DataAns :=
  let answer (t : State) (attr : Option (Nat × Nat)) (data : List Byte) (code gate : Nat) : DataAns :=
    { st := t, cache := (attr.getD (2, 0)).1, order := (attr.getD (2, 0)).2,
      res := if code = 0 then .done data else .fault code gate }
  match (s.core n).got with
  | some r =>
    answer (s.modCore n fun c => { c with got := none }) r.attr (leBytes size r.data) (causeOf r.fault)
      ((gateOf addr).getD 0)
  | none =>
    match s.corePrivate n addr size k bs u with
    | some r => answer r.st (some (r.cache, r.order)) r.data r.code r.gate
    | none =>
      let r := s.access (s.coreAgent n) addr size k bs asked u
      match r.flight with
      | some id => { st := r.ans.st.modCore n fun c => { c with await := some id }, res := .wait }
      | none => answer r.ans.st r.attr r.ans.data (causeOf r.ans.fault) r.ans.gate

/-- A flight is a buffered store or line write-back of a core: nothing waits for it (R73). -/
def State.bufferFlight (s : State) (id n seg size : Nat) : State :=
  { s with flights := s.flights.map fun f => if f.id == id then { f with buf := some (n, seg, size) } else f }

/-! ### Caches -/

/-- A core with caches (R69). -/
def hasCache (n : Nat) : Bool := n < 8

/-- A segment's cache class with ORDER = device forcing UC (R69). -/
def Seg.cls (g : Seg) : Nat := if g.order = 2 then 2 else g.cache

/-- An access that may use a cache: memory off the core's own SRAM (R69). -/
def cacheable (n addr size : Nat) : Bool := hasCache n && isMemory addr && !privatePath n addr size

/-- A segment holds the whole line of an address (R55). -/
def Seg.holdsLine (g : Seg) (line : Nat) : Bool := g.base ≤ 64 * line && 64 * line + 63 ≤ g.base + g.limit

/-- A dirty line is written back (R69, R70, R73). -/
def State.writeBack (s : State) (n line : Nat) (d : DLine) : State :=
  let r := s.access (s.coreAgent n) (64 * line) 64 .write d.data d.order .none
  match r.flight with
  | some id => r.ans.st.bufferFlight id n d.seg 6
  | none =>
    if r.ans.fault = .none then r.ans.st.attrCheck n d.order (r.attr.getD (2, 0)).2
    else r.ans.st.storeError n (64 * line) 6 d.seg r.ans.gate

/-- A line leaves the data cache, written back if it is dirty. -/
def State.evict (s : State) (n line : Nat) : State :=
  match tfind (s.core n).dcache line with
  | some d =>
    let s1 := s.modCore n fun c => { c with dcache := tdel c.dcache line }
    if d.dirty then s1.writeBack n line d else s1
  | none => s

/-- A line enters the data cache: 128 sets of four ways, whose victim the spec does not name (R69). -/
def State.allocate (s : State) (n line : Nat) (d : DLine) : State :=
  let set := (s.core n).dcache.filter fun e => e.1 % 128 == line % 128
  let s1 :=
    if set.length < 4 then s
    else ((s.evict n ((set.map (·.1)).getD (Config.freeNat s.free % 4) 0)).draw)
  s1.modCore n fun c => { c with dcache := tset c.dcache line d }

/-- The class with which a line fill through a segment would come, or has come for an instruction that waited: none
where the access goes alone. -/
def State.fillClass (s : State) (n : Nat) (g : Seg) (line : Nat) (k : AccKind) : Option Nat :=
  if !g.holdsLine line then none
  else
    match (s.core n).got with
    | some r => if r.size = 64 then some (max (r.attr.getD (0, 0)).1 g.cls) else none
    | none =>
    match s.coreAttrs n (64 * line) 64 k with
    | some (c, _) => if max c g.cls < 2 then some (max c g.cls) else none
    | none => none

/-- A line is read into the data cache. -/
def State.fill (s : State) (n seg : Nat) (g : Seg) (line cls : Nat) (u : Upset) : DataAns :=
  let r := s.coreBus n (64 * line) 64 .read [] g.order u
  match r.res with
  | .done bs =>
    let d : DLine := { data := bs, dirty := false, wt := cls == 1, seg := seg, order := g.order }
    { r with st := (r.st.attrCheck n g.order r.order).allocate n line d }
  | _ => r

/-! ### Loads and stores -/

/-- What an access through a segment answers: the bytes, a fault with the SIZE code of FINFO and the gate, or not
yet. -/
inductive SegRes where
  | done (data : List Byte)
  | fault (code size gate : Nat)
  | wait

/-- The SIZE code (R80). -/
def DataRes.sized (r : DataRes) (size : Nat) : SegRes :=
  match r with
  | .done bs => .done bs
  | .fault c g => .fault c size g
  | .wait => .wait

/-- A load alone on the fabric or the private path. -/
def State.loadAlone (s : State) (n : Nat) (g : Seg) (addr size : Nat) (u : Upset) : State × SegRes :=
  let r := s.coreBus n addr size .read [] g.order u
  match r.res with
  | .done bs => (r.st.attrCheck n g.order r.order, .done bs)
  | x => (r.st, x.sized size)

/-- A load of bytes that the segment admitted (R69, R70). -/
def State.loadThrough (s : State) (n seg : Nat) (g : Seg) (addr size : Nat) (u : Upset) : State × SegRes :=
  let line := addr / 64
  if !cacheable n addr size || g.cls = 2 then s.loadAlone n g addr size u
  else
    match tfind (s.core n).dcache line with
    | some d => (s, .done ((d.data.drop (addr % 64)).take size))
    | none =>
      match s.fillClass n g line .read with
      | none => s.loadAlone n g addr size u
      | some cls =>
        let r := s.fill n seg g line cls u
        match r.res with
        | .done bs => (r.st, .done ((bs.drop (addr % 64)).take size))
        | x => (r.st, x.sized 6)

/-- A store alone: precise through a device segment, else buffered (R70, R73). -/
def State.storeAlone (s : State) (n seg : Nat) (g : Seg) (addr : Nat) (bs : List Byte) (u : Upset) :
    State × SegRes :=
  let r := s.coreBus n addr bs.length .write bs g.order u
  match r.res with
  | .done _ => (r.st.attrCheck n g.order r.order, .done bs)
  | .wait =>
    if g.order = 2 then (r.st, .wait)
    else ((r.st.modCore n fun c => { c with await := none }).bufferFlight s.flightNo n seg bs.length, .done bs)
  | .fault c gt =>
    if g.order = 2 then (r.st, .fault c bs.length gt)
    else (r.st.storeError n addr bs.length seg gt, .done [])

/-- Bytes put into a cached line. -/
def State.cachePut (s : State) (n line off : Nat) (bs : List Byte) (dirty : Bool) (seg order : Nat) : State :=
  match tfind (s.core n).dcache line with
  | some d =>
    let e : DLine :=
      { data := overlay d.data off bs, dirty := d.dirty || dirty, wt := d.wt, seg := if dirty then seg else d.seg,
        order := if dirty then order else d.order }
    s.modCore n fun c => { c with dcache := tset c.dcache line e }
  | none => s

/-- A store of bytes that the segment admitted (R69): WB lines are written in the cache, allocated on a miss;
WT lines are written through. -/
def State.storeThrough (s : State) (n seg : Nat) (g : Seg) (addr : Nat) (bs : List Byte) (u : Upset) :
    State × SegRes :=
  let line := addr / 64
  if !cacheable n addr bs.length || g.cls = 2 then s.storeAlone n seg g addr bs u
  else
    match tfind (s.core n).dcache line with
    | some d =>
      if g.cls = 0 && !d.wt then (s.cachePut n line (addr % 64) bs true seg g.order, .done bs)
      else
        (match s.storeAlone n seg g addr bs u with
         | (t, .done (b :: r)) => (t.cachePut n line (addr % 64) (b :: r) false seg g.order, .done (b :: r))
         | x => x)
    | none =>
      let cls : Option Nat := if g.cls = 0 then s.fillClass n g line .read else none
      match cls with
      | some 0 =>
        let r := s.fill n seg g line 0 u
        (match r.res with
         | .done _ => (r.st.cachePut n line (addr % 64) bs true seg g.order, .done bs)
         | .wait => (r.st, .wait)
         | .fault _ gt => (r.st.storeError n addr bs.length seg gt, .done []))
      | _ => s.storeAlone n seg g addr bs u

/-! ### Fetch -/

/-- The fetch of the next instruction (R43, R55, R77): admitted, refused with cause, FADDR and FINFO, or not
yet. -/
inductive FetchRes where
  | ok
  | fault (code : Nat) (faddr : Word) (finfo : Nat)
  | wait

/-- The instruction at PC is fetched through s0 (R43), from the instruction cache where the core has one. -/
def State.fetch (s : State) (n : Nat) : State × FetchRes :=
  let c := s.core n
  let g := c.seg 0
  if c.pc.toNat % 4 ≠ 0 then (s, .fault 0x18 c.pc (finfoOf 0 4 2 0))
  else
    match c.check 0 c.pc 4 (·.x) with
    | .inr code => (s, .fault code c.pc (finfoOf 0 4 2 0))
    | .inl addr =>
      let line := addr / 64
      let may := cacheable n addr 4 && g.cls != 2 && addr % 4 == 0
      if may && c.icache.contains line then (s, .ok)
      else
        let cls := if may then s.fillClass n g line .fetch else none
        let r := if cls.isSome then s.coreBus n (64 * line) 64 .fetch [] g.order .none
          else s.coreBus n addr 4 .fetch [] g.order .none
        match r.res with
        | .wait => (r.st, .wait)
        | .fault code gt => (r.st, .fault code c.pc (finfoOf 0 (if cls.isSome then 6 else 4) 2 gt))
        | .done _ =>
          let s1 := r.st.attrCheck n g.order r.order
          if cls.isNone then (s1, .ok)
          else
            let set := (s1.core n).icache.filter fun l => l % 128 == line % 128
            if set.length < 4 then (s1.modCore n fun x => { x with icache := line :: x.icache }, .ok)
            else
              let out := set.getD (Config.freeNat s1.free % 4) 0
              (s1.draw.modCore n fun x => { x with icache := line :: x.icache.filter fun l => l != out }, .ok)

/-! ### CACHE operations (R72) -/

/-- Every dirty line written back and kept. -/
def State.cleanLine (s : State) (n line : Nat) : State :=
  match tfind (s.core n).dcache line with
  | some d =>
    if d.dirty then
      (s.modCore n fun c => { c with dcache := tset c.dcache line { d with dirty := false } }).writeBack n line d
    else s
  | none => s

def State.discardLine (s : State) (n line : Nat) : State :=
  s.modCore n fun c => { c with dcache := tdel c.dcache line }

def State.discardFetched (s : State) (n line : Nat) : State :=
  s.modCore n fun c => { c with icache := c.icache.filter fun l => l != line }

/-- An operation on lines, one after another. -/
def State.eachLine (s : State) (ls : List Nat) (f : State → Nat → State) : State := ls.foldl f s

end Sys2Proof.Machine
end

