-- ==== Sys2Proof/Machine/CoreRun.lean ====
section
/-!
DEFINITION. How a core runs one instruction: what comes before it at the boundary (R77), its fetch (R43), the
ILLEGAL group (R47, R52, R59, R77, R84), its effect, and where execution goes on (R46, R49, R50, R81).
-/
namespace Sys2Proof.Machine

/-- What the boundary rules know of an instruction (R47, R52, R58, R84). -/
inductive Kind where
  | plain | branch | loop | lexit | segld (code : Bool) | hold | retx | wait | trap
  deriving DecidableEq, Repr

/-- ILLEGAL_SLOT (R47). -/
def Kind.slotBad (k : Kind) : Bool := k != .plain

/-- ILLEGAL_LOOPEND (R52). -/
def Kind.endBad (k : Kind) : Bool :=
  match k with
  | .branch | .loop | .lexit | .retx | .segld true => true
  | _ => false

/-- An instruction with a shadow (R58). -/
def Kind.shadows (k : Kind) : Bool :=
  match k with
  | .segld _ | .hold => true
  | _ => false

/-- Where execution goes after an instruction: on, to a branch or jump target behind the delay slot, or past a
skipped loop body (R46, R48). -/
inductive Onward where
  | seq
  | jump (target : Word) (taken : Bool)
  | skip (pc : Word)

/-- What the effect of an instruction answers: done, done and then the TRAP of a code, a return to be made (R86), a
precise fault with FADDR and FINFO, an interrupt taken inside it (R72), or a stall. -/
inductive Res where
  | ok (f : Onward)
  | cut (e : Exc)
  | trap (code : Word)
  | ret
  | fault (code : Nat) (faddr : Word) (finfo : Nat)
  | stall

/-- ILLEGAL_LOOPEND for an instruction at a loop's end, and for a branch or jump before its last
instruction (R52, R84). -/
def CoreSt.loopEndBad (c : CoreSt) (k : Kind) : Bool :=
  (k.endBad && (c.loopAt c.pc).isSome) || (k == .branch && (c.loopAt (c.pc + 4)).isSome)

/-- One loop's decision (R49): its pass count and activity after, and the next PC. -/
def loopStep (count : Word) (start fin : Word) : Word × Bool × Word :=
  if 1 < count.toNat then (count - 1, true, start) else (0, false, fin + 4)

/-- The loop decisions at an instruction's completion edge (R49, R50), with the next PC; without one the
successor `next` stands. -/
def CoreSt.decide (c : CoreSt) (pc next : Word) : CoreSt :=
  let zero (d : CoreSt) : CoreSt :=
    let r := loopStep d.lcount0 d.lstart0 d.lend0
    { d with lcount0 := r.1, la0 := r.2.1, pc := r.2.2 }
  if c.la1 && c.lend1 == pc then
    let r := loopStep c.lcount1 c.lstart1 c.lend1
    let d := { c with lcount1 := r.1, la1 := r.2.1, pc := r.2.2 }
    if !r.2.1 && c.la0 && c.lend0 == pc then zero d else d
  else if c.la0 && c.lend0 == pc then zero c
  else { c with pc := next }

/-- An instruction completes: the next PC, the delay slot, and what an asynchronous exception would describe
(R46, R49, R81). `b` is the core as the instruction began. -/
def CoreSt.complete (c b : CoreSt) (k : Kind) (f : Onward) : CoreSt :=
  let ref : Ref := { epc := b.pc, done := true, slot := b.slot.isSome, shadow := b.shadow,
                     loopEnd := if b.slot.isSome then none else b.loopAt b.pc }
  let next := b.kept.getD (b.pc + 4)
  let c1 :=
    match b.slot, f with
    | some t, _ => { c with pc := t, slot := none }
    | none, .jump t taken => { c with pc := next, slot := some (if taken then t else next + 4) }
    | none, .skip p => { c with pc := p }
    | none, .seq => c.decide b.pc next
  { c1 with last := ref, kept := none, closed := false, got := none, fetched := false, shadow := k.shadows,
            dbgStep := c1.dbgStep && c1.slot.isSome }

/-- A step of the debug port is over (R465). -/
def State.stepOver (s : State) (n : Nat) : State := s.modCore n fun c => { c with dbgStep := false, got := none, fetched := false }

/-- A fault of the instruction ends it; a core that its own alarm halted takes nothing more (R443). -/
def State.faultEnds (s : State) (n code : Nat) (faddr : Word) (finfo : Nat) : State :=
  if (s.core n).run = .run then (s.faultAt n code faddr finfo).stepOver n else s

/-- The instruction is completed, with the trace of a taken branch (R468). One that returned its own core to
RESET leaves it there (R75). -/
def State.finish (s : State) (n : Nat) (b : CoreSt) (k : Kind) (f : Onward) : State :=
  if (s.core n).run = .reset then s
  else
    let s1 := s.modCore n fun c => c.complete b k f
    match f with
    | .jump t true => s1.traceEvent n 0 t
    | _ => s1

/-- The instruction is fetched unless it was before it began to wait. -/
def State.fetchOnce (s : State) (n : Nat) : State × FetchRes :=
  if (s.core n).fetched && (s.core n).got.isSome then (s, .ok) else s.fetch n

/-- The instruction's effect and its end. -/
def State.execute (s : State) (n : Nat) (k : Kind) (f : State → State × Res) : State :=
  match f s with
  | (t, .ok fl) => t.finish n (s.core n) k fl
  | (t, .trap code) =>
    let u := t.finish n (s.core n) k .seq
    (u.take n { code := 4, faddr := code, ref := (u.core n).asyncRef }).stepOver n
  | (t, .ret) => (t.retx n).stepOver n
  | (t, .cut e) => t.enter n e
  | (t, .fault code faddr finfo) => t.faultEnds n code faddr finfo
  | (t, .stall) => t.modCore n fun c => { c with fetched := true }

/-- The checks of the ILLEGAL group (R77), then the effect. -/
def State.judged (s : State) (n : Nat) (k : Kind) (legal : Bool) (f : State → State × Res) : State :=
  let c := s.core n
  if !legal then s.faultEnds n 0x10 0 0
  else if k.slotBad && c.slot.isSome then s.faultEnds n 0x11 0 0
  else if c.loopEndBad k then s.faultEnds n 0x13 0 0
  else s.execute n k f

/-- The next instruction of a core, after what the boundary takes first. -/
def State.issue (s : State) (n : Nat) (k : Kind) (legal : Bool) (f : State → State × Res) : State :=
  let b := if (s.core n).dbgHalt then s else s.breakpoint n (k == .branch)
  if (b.core n).dbgHalt && !(s.core n).dbgHalt then b
  else
    let c := s.modCore n fun c => { c with run := .run }
    match c.fetchOnce n with
    | (t, .wait) => t.modCore n fun c => { c with fetched := false }
    | (t, .fault code faddr finfo) => t.faultEnds n code faddr finfo
    | (t, .ok) => t.judged n k legal f

/-- A waiting core wakes when an interrupt is presented to it (notes/assumptions/41.md). -/
def State.asleep (s : State) (n : Nat) : Bool :=
  (s.core n).run == .wait && (s.presentedTo n).isNone && !(s.core n).dbgStep

/-- A core is given its next instruction (R44, R77): nothing while it does not run or waits for an answer; an
exception that comes first at the boundary is taken in its place. -/
def State.instr (s : State) (n : Nat) (k : Kind) (legal : Bool) (f : State → State × Res) : State :=
  if !s.coreLive n || (s.core n).await.isSome then s
  else
    match s.boundary n with
    | some e => s.takeAt n e.code
    | none => if s.asleep n then s else s.orHeld (s.issue n k legal f)

/-! ### Shapes of instructions -/

/-- A field of an instruction names a general register (R42). -/
def CoreSt.reg (c : CoreSt) (r : BitVec 5) : Word := c.gr r.toNat

def CoreSt.setReg (c : CoreSt) (r : BitVec 5) (v : Word) : CoreSt := c.setGr r.toNat v

/-- An instruction whose effect is one change of its core. -/
def State.onCore (s : State) (n : Nat) (legal : Bool) (f : CoreSt → CoreSt) : State :=
  s.instr n .plain legal fun t => (t.modCore n f, .ok .seq)

/-- An instruction that writes one register (R59). -/
def State.alu (s : State) (n : Nat) (d : BitVec 5) (legal : Bool) (f : CoreSt → Word) : State :=
  s.onCore n legal fun c => c.setReg d (f c)

/-- A branch or jump (R46): the link register is written with PC + 8. -/
def State.jumps (s : State) (n : Nat) (legal link : Bool) (target : CoreSt → Word) (taken : CoreSt → Bool) : State :=
  s.instr n .branch legal fun t =>
    let c := t.core n
    (if link then t.setCore n (c.setGr 31 (c.pc + 8)) else t, .ok (.jump (target c) (taken c)))

end Sys2Proof.Machine
end

