-- ==== Sys2Proof/Machine/CoreAlu.lean ====
section
/-!
DEFINITION. The arithmetic, logic, shift, multiply, divide, bit and CRC instructions (R59–R64).
-/
namespace Sys2Proof.Machine

/-! ### Operations -/

/-- A sum with a carry in: the word, the carry out, and signed overflow (R45, R59). -/
def addCarry (x y : Word) (cin : Bool) : Word × Bool × Bool :=
  let n := x.toNat + y.toNat + b01 cin
  let z := wd n
  (z, decide (2 ^ 32 ≤ n), x.msb == y.msb && z.msb != x.msb)

/-- ADC and SBC (R59): `y` is gt or its complement. -/
def CoreSt.addWithCarry (c : CoreSt) (d : BitVec 5) (x y : Word) : CoreSt :=
  let r := addCarry x y c.c
  { c.setReg d r.1 with c := r.2.1, v := r.2.2 }

/-- The shift count (R59): gt[4:0], or the c field when the t field is 0. -/
def CoreSt.shiftBy (c : CoreSt) (t cf : BitVec 5) : Nat := if t = 0 then cf.toNat else (c.reg t).toNat % 32

/-- The signed quotient (R59). -/
def quotS (x y : Word) : Word := if y = 0 then 0xFFFFFFFF else BitVec.ofInt 32 (x.toInt.tdiv y.toInt)

/-- The unsigned quotient (R59). -/
def quotU (x y : Word) : Word := if y = 0 then 0xFFFFFFFF else wd (x.toNat / y.toNat)

/-- The signed remainder, with the sign of the dividend (R59). -/
def remS (x y : Word) : Word := if y = 0 then x else BitVec.ofInt 32 (x.toInt.tmod y.toInt)

/-- The unsigned remainder (R59). -/
def remU (x y : Word) : Word := if y = 0 then x else wd (x.toNat % y.toNat)

/-- The low `n` bits of a number in reverse order. -/
def revBits (n x : Nat) : Nat :=
  match n with
  | 0 => 0
  | k + 1 => x % 2 * 2 ^ k + revBits k (x / 2)

/-- BREV.B (R62): the bits of each byte reversed. -/
def revBytesBits (x : Word) : Word := wd (leNat ((leBytes 4 x.toNat).map fun b => BitVec.ofNat 8 (revBits 8 b.toNat)))

/-- BSWAP (R59). -/
def swapBytes (x : Word) : Word := wd (beNat (leBytes 4 x.toNat))

/-- The number of leading zero bits among the low `n` bits. -/
def leadingZeros (n x : Nat) : Nat :=
  match n with
  | 0 => 0
  | k + 1 => if x.testBit k then 0 else 1 + leadingZeros k x

/-- CRCCFG.WIDTH, and whether it is 8–32 (R60). -/
def CoreSt.crcWidth (c : CoreSt) : Nat := fld c.crccfg 0 6

def CoreSt.crcOk (c : CoreSt) : Bool := 8 ≤ c.crcWidth && c.crcWidth ≤ 32

/-- Eight shifts of a CRC accumulator, most significant bit first (R60). -/
def crcUp (w poly k a : Nat) : Nat :=
  match k with
  | 0 => a
  | j + 1 => crcUp w poly j (if a.testBit (w - 1) then (a * 2 ^^^ poly) % 2 ^ w else a * 2 % 2 ^ w)

/-- Eight shifts of a CRC accumulator, least significant bit first (R60). -/
def crcDown (p k a : Nat) : Nat :=
  match k with
  | 0 => a
  | j + 1 => crcDown p j (if a % 2 = 1 then a / 2 ^^^ p else a / 2)

/-- CRCSTEP (R60). -/
def CoreSt.crcFold (c : CoreSt) (acc byte : Word) : Word :=
  let w := c.crcWidth
  let a := acc.toNat % 2 ^ w
  let b := byte.toNat % 256
  if bitAt c.crccfg 8 then wd (crcDown (revBits w (c.crcpoly.toNat % 2 ^ w)) 8 (a ^^^ b))
  else wd (crcUp w c.crcpoly.toNat 8 (a ^^^ (b * 2 ^ (w - 8))))

/-- The 64-bit product into the register pair (R64). -/
def CoreSt.setPair (c : CoreSt) (d : BitVec 5) (n : Nat) : CoreSt :=
  (c.setGr d.toNat (wd n)).setGr (d.toNat + 1) (wd (n / 2 ^ 32))

/-- A register of a pair is even and not 0 (R64). -/
def pairOk (d : BitVec 5) : Bool := d.toNat % 2 == 0 && d != 0

/-- The immediate sign-extended or zero-extended to a word (R59). -/
def immS (i : BitVec 16) : Word := i.signExtend 32

def immZ (i : BitVec 16) : Word := i.zeroExtend 32

/-- 1 for true (R59). -/
def flagWord (b : Bool) : Word := if b then 1 else 0

/-! ### Instructions -/

/-- ADD (R59). -/
def execAdd (core : Fin 11) (gd gs gt cf : BitVec 5) (s : State) :
    Host.Outcome State Fault Refusal :=
  .next (s.alu core gd (cf = 0) fun c => c.reg gs + c.reg gt)

/-- ADC (R59): the carry in is SW.C, and C and V are set. -/
def execAdc (core : Fin 11) (gd gs gt cf : BitVec 5) (s : State) :
    Host.Outcome State Fault Refusal :=
  .next (s.onCore core (cf = 0) fun c => c.addWithCarry gd (c.reg gs) (c.reg gt))

/-- SUB (R59). -/
def execSub (core : Fin 11) (gd gs gt cf : BitVec 5) (s : State) :
    Host.Outcome State Fault Refusal :=
  .next (s.alu core gd (cf = 0) fun c => c.reg gs - c.reg gt)

/-- SBC (R59): gs + (not gt) + C. -/
def execSbc (core : Fin 11) (gd gs gt cf : BitVec 5) (s : State) :
    Host.Outcome State Fault Refusal :=
  .next (s.onCore core (cf = 0) fun c => c.addWithCarry gd (c.reg gs) (~~~ c.reg gt))

/-- AND (R59). -/
def execAnd (core : Fin 11) (gd gs gt cf : BitVec 5) (s : State) :
    Host.Outcome State Fault Refusal :=
  .next (s.alu core gd (cf = 0) fun c => c.reg gs &&& c.reg gt)

/-- IOR (R59). -/
def execIor (core : Fin 11) (gd gs gt cf : BitVec 5) (s : State) :
    Host.Outcome State Fault Refusal :=
  .next (s.alu core gd (cf = 0) fun c => c.reg gs ||| c.reg gt)

/-- XOR (R59). -/
def execXor (core : Fin 11) (gd gs gt cf : BitVec 5) (s : State) :
    Host.Outcome State Fault Refusal :=
  .next (s.alu core gd (cf = 0) fun c => c.reg gs ^^^ c.reg gt)

/-- ANDN (R59). -/
def execAndn (core : Fin 11) (gd gs gt cf : BitVec 5) (s : State) :
    Host.Outcome State Fault Refusal :=
  .next (s.alu core gd (cf = 0) fun c => c.reg gs &&& ~~~ c.reg gt)

/-- SHL (R59): a non-zero c field is never illegal. -/
def execShl (core : Fin 11) (gd gs gt cf : BitVec 5) (s : State) :
    Host.Outcome State Fault Refusal :=
  .next (s.alu core gd true fun c => c.reg gs <<< c.shiftBy gt cf)

/-- SHR (R59). -/
def execShr (core : Fin 11) (gd gs gt cf : BitVec 5) (s : State) :
    Host.Outcome State Fault Refusal :=
  .next (s.alu core gd true fun c => c.reg gs >>> c.shiftBy gt cf)

/-- ASR (R59). -/
def execAsr (core : Fin 11) (gd gs gt cf : BitVec 5) (s : State) :
    Host.Outcome State Fault Refusal :=
  .next (s.alu core gd true fun c => (c.reg gs).sshiftRight (c.shiftBy gt cf))

/-- ROR (R59). -/
def execRor (core : Fin 11) (gd gs gt cf : BitVec 5) (s : State) :
    Host.Outcome State Fault Refusal :=
  .next (s.alu core gd true fun c => (c.reg gs).rotateRight (c.shiftBy gt cf))

/-- CMPLT (R59). -/
def execCmplt (core : Fin 11) (gd gs gt cf : BitVec 5) (s : State) :
    Host.Outcome State Fault Refusal :=
  .next (s.alu core gd (cf = 0) fun c => flagWord ((c.reg gs).slt (c.reg gt)))

/-- CMPLTU (R59). -/
def execCmpltu (core : Fin 11) (gd gs gt cf : BitVec 5) (s : State) :
    Host.Outcome State Fault Refusal :=
  .next (s.alu core gd (cf = 0) fun c => flagWord ((c.reg gs).ult (c.reg gt)))

/-- MUL (R59). -/
def execMul (core : Fin 11) (gd gs gt cf : BitVec 5) (s : State) :
    Host.Outcome State Fault Refusal :=
  .next (s.alu core gd (cf = 0) fun c => c.reg gs * c.reg gt)

/-- MULL (R64). -/
def execMull (core : Fin 11) (gd gs gt cf : BitVec 5) (s : State) :
    Host.Outcome State Fault Refusal :=
  .next (s.onCore core (cf = 0 && pairOk gd) fun c =>
    c.setPair gd (BitVec.ofInt 64 ((c.reg gs).toInt * (c.reg gt).toInt)).toNat)

/-- MULLU (R64). -/
def execMullu (core : Fin 11) (gd gs gt cf : BitVec 5) (s : State) :
    Host.Outcome State Fault Refusal :=
  .next (s.onCore core (cf = 0 && pairOk gd) fun c => c.setPair gd ((c.reg gs).toNat * (c.reg gt).toNat))

/-- DIV (R59). -/
def execDiv (core : Fin 11) (gd gs gt cf : BitVec 5) (s : State) :
    Host.Outcome State Fault Refusal :=
  .next (s.alu core gd (cf = 0) fun c => quotS (c.reg gs) (c.reg gt))

/-- DIVU (R59). -/
def execDivu (core : Fin 11) (gd gs gt cf : BitVec 5) (s : State) :
    Host.Outcome State Fault Refusal :=
  .next (s.alu core gd (cf = 0) fun c => quotU (c.reg gs) (c.reg gt))

/-- REM (R59). -/
def execRem (core : Fin 11) (gd gs gt cf : BitVec 5) (s : State) :
    Host.Outcome State Fault Refusal :=
  .next (s.alu core gd (cf = 0) fun c => remS (c.reg gs) (c.reg gt))

/-- REMU (R59). -/
def execRemu (core : Fin 11) (gd gs gt cf : BitVec 5) (s : State) :
    Host.Outcome State Fault Refusal :=
  .next (s.alu core gd (cf = 0) fun c => remU (c.reg gs) (c.reg gt))

/-- CSEL (R63). -/
def execCsel (core : Fin 11) (gd gs gt gc : BitVec 5) (s : State) :
    Host.Outcome State Fault Refusal :=
  .next (s.alu core gd true fun c => if c.reg gc ≠ 0 then c.reg gs else c.reg gt)

/-- PAR (R62). -/
def execPar (core : Fin 11) (gd gs cf : BitVec 5) (s : State) :
    Host.Outcome State Fault Refusal :=
  .next (s.alu core gd (cf = 0) fun c => wd (popcount (c.reg gs).toNat 32 % 2))

/-- BREV.W (R62). -/
def execBrevW (core : Fin 11) (gd gs cf : BitVec 5) (s : State) :
    Host.Outcome State Fault Refusal :=
  .next (s.alu core gd (cf = 0) fun c => wd (revBits 32 (c.reg gs).toNat))

/-- BREV.B (R62). -/
def execBrevB (core : Fin 11) (gd gs cf : BitVec 5) (s : State) :
    Host.Outcome State Fault Refusal :=
  .next (s.alu core gd (cf = 0) fun c => revBytesBits (c.reg gs))

/-- BSWAP (R59). -/
def execBswap (core : Fin 11) (gd gs cf : BitVec 5) (s : State) :
    Host.Outcome State Fault Refusal :=
  .next (s.alu core gd (cf = 0) fun c => swapBytes (c.reg gs))

/-- CLZ (R59). -/
def execClz (core : Fin 11) (gd gs cf : BitVec 5) (s : State) :
    Host.Outcome State Fault Refusal :=
  .next (s.alu core gd (cf = 0) fun c => wd (leadingZeros 32 (c.reg gs).toNat))

/-- CRCSTEP (R60). -/
def execCrcstep (core : Fin 11) (gd gs gt cf : BitVec 5) (s : State) :
    Host.Outcome State Fault Refusal :=
  .next (s.alu core gd (cf = 0 && (s.core core).crcOk) fun c => c.crcFold (c.reg gs) (c.reg gt))

/-- CRCFIN (R61). -/
def execCrcfin (core : Fin 11) (gd gs cf : BitVec 5) (s : State) :
    Host.Outcome State Fault Refusal :=
  .next (s.alu core gd (cf = 0 && (s.core core).crcOk) fun c => wd ((c.reg gs ^^^ c.crcxor).toNat % 2 ^ c.crcWidth))

/-- ADDK (R59). -/
def execAddk (core : Fin 11) (gd gs : BitVec 5) (imm : BitVec 16) (s : State) :
    Host.Outcome State Fault Refusal :=
  .next (s.alu core gd true fun c => c.reg gs + immS imm)

/-- ANDK (R59). -/
def execAndk (core : Fin 11) (gd gs : BitVec 5) (imm : BitVec 16) (s : State) :
    Host.Outcome State Fault Refusal :=
  .next (s.alu core gd true fun c => c.reg gs &&& immZ imm)

/-- IORK (R59). -/
def execIork (core : Fin 11) (gd gs : BitVec 5) (imm : BitVec 16) (s : State) :
    Host.Outcome State Fault Refusal :=
  .next (s.alu core gd true fun c => c.reg gs ||| immZ imm)

/-- XORK (R59). -/
def execXork (core : Fin 11) (gd gs : BitVec 5) (imm : BitVec 16) (s : State) :
    Host.Outcome State Fault Refusal :=
  .next (s.alu core gd true fun c => c.reg gs ^^^ immZ imm)

/-- HIK (R59). -/
def execHik (core : Fin 11) (gd : BitVec 5) (imm : BitVec 16) (s : State) :
    Host.Outcome State Fault Refusal :=
  .next (s.alu core gd true fun _ => immZ imm <<< 16)

/-- CMPLTK (R59). -/
def execCmpltk (core : Fin 11) (gd gs : BitVec 5) (imm : BitVec 16) (s : State) :
    Host.Outcome State Fault Refusal :=
  .next (s.alu core gd true fun c => flagWord ((c.reg gs).slt (immS imm)))

end Sys2Proof.Machine
end

