-- ==== Sys2Proof/Machine/CoreFlow.lean ====
section
/-!
DEFINITION. Branches, jumps, hardware loops, segments, holds, special registers and exceptions: the instructions that
change where or how a core runs (R45–R58, R65–R67, R76–R90), and its release and reset (R75).
-/
namespace Sys2Proof.Machine

/-! ### Branches and jumps -/

/-- A target relative to PC + 4, in words (R46). -/
def CoreSt.rel (c : CoreSt) (off : Word) : Word := c.pc + 4 + off * 4

/-- A conditional branch (R46). -/
def State.branch (s : State) (n : Nat) (gs gt : BitVec 5) (off : BitVec 16) (p : Word → Word → Bool) : State :=
  s.jumps n true false (fun c => c.rel (off.signExtend 32)) fun c => p (c.reg gs) (c.reg gt)

/-- BREQ (R46). -/
def execBreq (core : Fin 11) (gs gt : BitVec 5) (off : BitVec 16) (s : State) : Host.Outcome State Fault Refusal :=
  .next (s.branch core gs gt off fun x y => x == y)

/-- BRNE (R46). -/
def execBrne (core : Fin 11) (gs gt : BitVec 5) (off : BitVec 16) (s : State) : Host.Outcome State Fault Refusal :=
  .next (s.branch core gs gt off fun x y => x != y)

/-- BRLT (R46). -/
def execBrlt (core : Fin 11) (gs gt : BitVec 5) (off : BitVec 16) (s : State) : Host.Outcome State Fault Refusal :=
  .next (s.branch core gs gt off fun x y => x.slt y)

/-- BRGE (R46). -/
def execBrge (core : Fin 11) (gs gt : BitVec 5) (off : BitVec 16) (s : State) : Host.Outcome State Fault Refusal :=
  .next (s.branch core gs gt off fun x y => !x.slt y)

/-- BRLTU (R46). -/
def execBrltu (core : Fin 11) (gs gt : BitVec 5) (off : BitVec 16) (s : State) : Host.Outcome State Fault Refusal :=
  .next (s.branch core gs gt off fun x y => x.ult y)

/-- BRGEU (R46). -/
def execBrgeu (core : Fin 11) (gs gt : BitVec 5) (off : BitVec 16) (s : State) : Host.Outcome State Fault Refusal :=
  .next (s.branch core gs gt off fun x y => !x.ult y)

/-- GOTO (R46). -/
def execGoto (core : Fin 11) (off : BitVec 26) (s : State) : Host.Outcome State Fault Refusal :=
  .next (s.jumps core true false (fun c => c.rel (off.signExtend 32)) fun _ => true)

/-- CALL (R46). -/
def execCall (core : Fin 11) (off : BitVec 26) (s : State) : Host.Outcome State Fault Refusal :=
  .next (s.jumps core true true (fun c => c.rel (off.signExtend 32)) fun _ => true)

/-- GOTOR (R46): the d, t and c fields are zero. -/
def execGotor (core : Fin 11) (gd gs gt cf : BitVec 5) (s : State) : Host.Outcome State Fault Refusal :=
  .next (s.jumps core (gd = 0 && gt = 0 && cf = 0) false (fun c => c.reg gs) fun _ => true)

/-- CALLR (R46): gs is read before g31 is written. -/
def execCallr (core : Fin 11) (gd gs gt cf : BitVec 5) (s : State) : Host.Outcome State Fault Refusal :=
  .next (s.jumps core (gd = 0 && gt = 0 && cf = 0) true (fun c => c.reg gs) fun _ => true)

/-! ### Hardware loops -/

/-- The pass count of a LOOPn: gs, or the immediate where the s field is 0 (R48). -/
def CoreSt.loopCount (c : CoreSt) (gs : BitVec 5) (cnt : BitVec 9) : Word :=
  if gs = 0 then cnt.zeroExtend 32 else c.reg gs

/-- The last instruction of a new loop's body (R48). -/
def CoreSt.loopLast (c : CoreSt) (fin : BitVec 12) : Word := c.pc + 4 + 4 * fin.zeroExtend 32

/-- LOOP0 (R48, R51). -/
def execLoop0 (core : Fin 11) (gs : BitVec 5) (fin : BitVec 12) (cnt : BitVec 9) (s : State) :
    Host.Outcome State Fault Refusal :=
  .next (s.instr core .loop true fun t =>
    let c := t.core core
    if c.la0 then (t, .fault 0x12 0 0)
    else if c.loopCount gs cnt = 0 then (t, .ok (.skip (c.loopLast fin + 4)))
    else
      (t.setCore core { c with lstart0 := c.pc + 4, lend0 := c.loopLast fin, lcount0 := c.loopCount gs cnt,
                               la0 := true }, .ok .seq))

/-- LOOP1 (R48, R51): its body lies inside an active loop 0. -/
def execLoop1 (core : Fin 11) (gs : BitVec 5) (fin : BitVec 12) (cnt : BitVec 9) (s : State) :
    Host.Outcome State Fault Refusal :=
  .next (s.instr core .loop true fun t =>
    let c := t.core core
    let inside := c.lstart0.toNat ≤ (c.pc + 4).toNat && (c.loopLast fin).toNat ≤ c.lend0.toNat
    if c.la1 || (c.la0 && !inside) then (t, .fault 0x12 0 0)
    else if c.loopCount gs cnt = 0 then (t, .ok (.skip (c.loopLast fin + 4)))
    else
      (t.setCore core { c with lstart1 := c.pc + 4, lend1 := c.loopLast fin, lcount1 := c.loopCount gs cnt,
                               la1 := true }, .ok .seq))

/-- LEXIT (R51): LEXIT 0 also ends loop 1. -/
def execLexit (core : Fin 11) (imm : BitVec 12) (s : State) : Host.Outcome State Fault Refusal :=
  .next (s.instr core .lexit true fun t =>
    (t.modCore core fun c => { c with la0 := c.la0 && imm.getLsbD 0, la1 := false }, .ok .seq))

/-! ### Segments -/

/-- SEGLD (R54): a failing load leaves the segment as it was. -/
def execSegld (core : Fin 11) (gs : BitVec 5) (imm : BitVec 12) (s : State) : Host.Outcome State Fault Refusal :=
  let n := imm.toNat % 8
  .next (s.instr core (.segld (n == 0)) true fun t =>
    match t.loadDesc core (((t.core core).reg gs).toNat % 4096) with
    | (u, .ok g, _) => (u.modCore core fun c => { c with segs := tset c.segs n g }, .ok .seq)
    | (u, .fail code, gate) => (u, .fault code 0 (finfoOf n 0 3 gate)))

/-- SEGRD (R57): the selector and VALID. -/
def execSegrd (core : Fin 11) (gd : BitVec 5) (imm : BitVec 12) (s : State) : Host.Outcome State Fault Refusal :=
  .next (s.alu core gd true fun c =>
    let g := c.seg (imm.toNat % 8)
    wd (g.sel % 4096 + flagAt (!g.null) 31))

/-! ### Holds and waits -/

/-- The hold of HOLD (R65): never longer than the one in force. -/
def CoreSt.holdFor (c : CoreSt) (n : Nat) : CoreSt := { c with h := true, hcnt := if c.h then min c.hcnt n else n }

/-- RELEASE (R65). -/
def CoreSt.unhold (c : CoreSt) : CoreSt := { c with h := false, hcnt := 0 }

/-- HOLD (R65): 0 cycles is illegal. -/
def execHold (core : Fin 11) (imm : BitVec 12) (s : State) : Host.Outcome State Fault Refusal :=
  .next (s.instr core .hold (imm ≠ 0) fun t => (t.modCore core fun c => c.holdFor imm.toNat, .ok .seq))

/-- RELEASE (R65). -/
def execRelease (core : Fin 11) (s : State) : Host.Outcome State Fault Refusal :=
  .next (s.instr core .hold true fun t => (t.modCore core CoreSt.unhold, .ok .seq))

/-- HOLD_EXPIRY (R65): HCNT reaches 0; it does not count in a debug halt (R465). -/
def execHoldExpiry (core : Fin 11) (s : State) : Host.Outcome State Fault Refusal :=
  .next (if (s.core core).h && !(s.core core).dbgHalt then s.modCore core CoreSt.unhold else s)

/-- WAIT (R65): RELEASE first, then the core waits. -/
def execWait (core : Fin 11) (s : State) : Host.Outcome State Fault Refusal :=
  .next (s.instr core .wait true fun t => (t.modCore core fun c => { c.unhold with run := .wait }, .ok .seq))

/-- FENCE (R71): every earlier access has its response. -/
def execFence (core : Fin 11) (s : State) : Host.Outcome State Fault Refusal :=
  .next (s.instr core .plain true fun t =>
    if t.flights.any fun f => f.agent == t.coreAgent core && !f.timedOut then (t, .stall) else (t, .ok .seq))

/-! ### Special and feature registers -/

/-- The numbers of the special registers (R45). -/
def specialNo (i : Nat) : Bool := i ≤ 6 || (8 ≤ i && i ≤ 10) || i == 12 || i == 13

/-- A special register (R45). -/
def CoreSt.special (c : CoreSt) (i : Nat) : Word :=
  match i with
  | 0 => swOf c
  | 1 => c.lstart0
  | 2 => c.lend0
  | 3 => c.lcount0
  | 4 => c.lstart1
  | 5 => c.lend1
  | 6 => c.lcount1
  | 8 => c.crcpoly
  | 9 => c.crccfg
  | 10 => c.crcxor
  | 12 => wd c.cycle
  | 13 => c.cycHi
  | _ => 0

/-- A special register written (R45): of SW only C and V; a read-only register discards the write. -/
def CoreSt.setSpecial (c : CoreSt) (i : Nat) (v : Word) : CoreSt :=
  match i with
  | 0 => { c with c := bitAt v 0, v := bitAt v 1 }
  | 1 => { c with lstart0 := v }
  | 2 => { c with lend0 := v }
  | 3 => { c with lcount0 := v }
  | 4 => { c with lstart1 := v }
  | 5 => { c with lend1 := v }
  | 6 => { c with lcount1 := v }
  | 8 => { c with crcpoly := v }
  | 9 => { c with crccfg := v &&& 0x13F }
  | 10 => { c with crcxor := v }
  | _ => c

/-- MFS (R45): a read of CYCLE_LO latches CYCLE_HI. -/
def execMfs (core : Fin 11) (gd : BitVec 5) (imm : BitVec 12) (s : State) : Host.Outcome State Fault Refusal :=
  let i := imm.toNat
  .next (s.onCore core (specialNo i) fun c =>
    let d := if i = 12 then { c with cycHi := wd (c.cycle / 2 ^ 32) } else c
    d.setReg gd (c.special i))

/-- MTS (R45). -/
def execMts (core : Fin 11) (gs : BitVec 5) (imm : BitVec 12) (s : State) : Host.Outcome State Fault Refusal :=
  .next (s.onCore core (specialNo imm.toNat) fun c => c.setSpecial imm.toNat (c.reg gs))

/-- A feature register (R67). -/
def State.feature (s : State) (n i : Nat) : Word :=
  match i with
  | 0 => if n < 8 then 0x000101FF else 0x0001017F
  | 1 => if n < 8 then 0x10062020 else if n = 10 then 0x04000000 else 0x10000000
  | 2 => wd (n + flagAt (n < 8 && decide (8 ≤ s.coreAgent n)) 4 + at' (s.coreAgent n) 8)
  | _ => 0

/-- FEAT (R67): a register above 3 is illegal. -/
def execFeat (core : Fin 11) (gd : BitVec 5) (imm : BitVec 12) (s : State) : Host.Outcome State Fault Refusal :=
  .next (s.alu core gd (decide (imm.toNat ≤ 3)) fun _ => s.feature core imm.toNat)

/-! ### Exceptions -/

/-- TRAP (R76, R81): the instruction completes, then the exception is taken with its code in FADDR. -/
def execTrap (core : Fin 11) (imm : BitVec 12) (s : State) : Host.Outcome State Fault Refusal :=
  .next (s.instr core .trap true fun t => (t, .trap (imm.zeroExtend 32)))

/-- RETX (R86, R87). -/
def execRetx (core : Fin 11) (s : State) : Host.Outcome State Fault Refusal :=
  .next (s.instr core .retx true fun t => (t, .ret))

/-- INTERRUPT_TAKEN (R77). -/
def execInterruptTaken (core : Fin 11) (s : State) : Host.Outcome State Fault Refusal := .next (s.takeAt core 1)

/-- ALARM_EXCEPTION (R76, R77). -/
def execAlarmException (core : Fin 11) (s : State) : Host.Outcome State Fault Refusal := .next (s.takeAt core 2)

/-- STORE_ERROR (R73, R77). -/
def execStoreError (core : Fin 11) (s : State) : Host.Outcome State Fault Refusal := .next (s.takeAt core 3)

/-! ### Release and reset -/

/-- CORE_RELEASE (R75): EN = 1 and its complement written to the core's CTRL. -/
def execCoreRelease (agent : AgentId) (core : Fin 11) (s : State) : Host.Outcome State Fault Refusal :=
  .next (s.ctrlCmd agent.toNat (pCORE core) 1 0xFFFFFFFE)

/-- CORE_RESET_WRITE (R75): SRST, or EN = 0, and its complement. -/
def execCoreResetWrite (agent : AgentId) (core : Fin 11) (srst : Bool) (s : State) :
    Host.Outcome State Fault Refusal :=
  .next (s.ctrlCmd agent.toNat (pCORE core) (if srst then 2 else 0) (if srst then 0xFFFFFFFD else 0xFFFFFFFF))

/-- DBG_BREAKPOINT (R467): `branch` that the next instruction is a branch or jump. -/
def execDbgBreakpoint (core : Fin 11) (branch : Bool) (s : State) : Host.Outcome State Fault Refusal :=
  .next (if s.coreLive core then s.breakpoint core branch else s)

end Sys2Proof.Machine
end

