-- ==== Sys2Proof/Machine/CoreMemCmd.lean ====
section
/-!
DEFINITION. Loads, stores and cache operations (R55, R56, R69–R73).
-/
namespace Sys2Proof.Machine

/-- The offset of an access: gb plus the sign-extended immediate (R55). -/
def CoreSt.offset (c : CoreSt) (gb : BitVec 5) (imm : BitVec 13) : Word := c.reg gb + imm.signExtend 32

/-- The end of an access through a segment: `f` takes the bytes. -/
def segEnd (r : State × SegRes) (seg acc : Nat) (off : Word) (f : List Byte → CoreSt → CoreSt) (n : Nat) : State × Res :=
  match r.2 with
  | .done bs => (r.1.modCore n (f bs), .ok .seq)
  | .fault code size gate => (r.1, .fault code off (finfoOf seg size acc gate))
  | .wait => (r.1, .stall)

/-- A load (R55, R77): MISALIGNED before the segment's faults, and those before the access's own. -/
def State.load (s : State) (n : Nat) (gd gb : BitVec 5) (seg : BitVec 3) (imm : BitVec 13) (size : Nat) (u : Upset)
    (ext : Nat → Word) : State :=
  s.instr n .plain true fun t =>
    let c := t.core n
    let i := seg.toNat
    let off := c.offset gb imm
    if ((c.seg i).base + off.toNat) % size ≠ 0 then (t, .fault 0x18 off (finfoOf i size 0 0))
    else
      match c.check i off size (·.r) with
      | .inr code => (t, .fault code off (finfoOf i size 0 0))
      | .inl addr =>
        segEnd (t.loadThrough n i (c.seg i) addr size u) i 0 off (fun bs d => d.setReg gd (ext (leNat bs))) n

/-- A store (R55, R77). -/
def State.store (s : State) (n : Nat) (gd gb : BitVec 5) (seg : BitVec 3) (imm : BitVec 13) (size : Nat) (u : Upset) :
    State :=
  s.instr n .plain true fun t =>
    let c := t.core n
    let i := seg.toNat
    let off := c.offset gb imm
    if ((c.seg i).base + off.toNat) % size ≠ 0 then (t, .fault 0x18 off (finfoOf i size 1 0))
    else
      match c.check i off size (·.w) with
      | .inr code => (t, .fault code off (finfoOf i size 1 0))
      | .inl addr =>
        segEnd (t.storeThrough n i (c.seg i) addr (leBytes size (c.reg gd).toNat) u) i 1 off (fun _ d => d) n

/-- A number of `w` bits sign-extended to a word. -/
def extS (w n : Nat) : Word := BitVec.ofInt 32 (sext n w)

/-- LDW (R55). -/
def execLdw (core : Fin 11) (gd gb : BitVec 5) (seg : BitVec 3) (imm : BitVec 13) (upset : Upset) (s : State) :
    Host.Outcome State Fault Refusal := .next (s.load core gd gb seg imm 4 upset wd).settle

/-- LDH (R55). -/
def execLdh (core : Fin 11) (gd gb : BitVec 5) (seg : BitVec 3) (imm : BitVec 13) (upset : Upset) (s : State) :
    Host.Outcome State Fault Refusal := .next (s.load core gd gb seg imm 2 upset (extS 16)).settle

/-- LDHU (R55). -/
def execLdhu (core : Fin 11) (gd gb : BitVec 5) (seg : BitVec 3) (imm : BitVec 13) (upset : Upset) (s : State) :
    Host.Outcome State Fault Refusal := .next (s.load core gd gb seg imm 2 upset wd).settle

/-- LDB (R55). -/
def execLdb (core : Fin 11) (gd gb : BitVec 5) (seg : BitVec 3) (imm : BitVec 13) (upset : Upset) (s : State) :
    Host.Outcome State Fault Refusal := .next (s.load core gd gb seg imm 1 upset (extS 8)).settle

/-- LDBU (R55). -/
def execLdbu (core : Fin 11) (gd gb : BitVec 5) (seg : BitVec 3) (imm : BitVec 13) (upset : Upset) (s : State) :
    Host.Outcome State Fault Refusal := .next (s.load core gd gb seg imm 1 upset wd).settle

/-- STW (R55, R73). -/
def execStw (core : Fin 11) (gd gb : BitVec 5) (seg : BitVec 3) (imm : BitVec 13) (upset : Upset) (s : State) :
    Host.Outcome State Fault Refusal := .next (s.store core gd gb seg imm 4 upset).settle

/-- STH (R55, R73). -/
def execSth (core : Fin 11) (gd gb : BitVec 5) (seg : BitVec 3) (imm : BitVec 13) (upset : Upset) (s : State) :
    Host.Outcome State Fault Refusal := .next (s.store core gd gb seg imm 2 upset).settle

/-- STB (R55, R73). -/
def execStb (core : Fin 11) (gd gb : BitVec 5) (seg : BitVec 3) (imm : BitVec 13) (upset : Upset) (s : State) :
    Host.Outcome State Fault Refusal := .next (s.store core gd gb seg imm 1 upset).settle

/-! ### Cache operations -/

/-- A line operation (R72): the addressed byte is checked under R55, then the line is acted on; a core without
caches does nothing. `acc` is the ACC of FINFO. -/
def State.lineOp (s : State) (n : Nat) (gb : BitVec 5) (seg : BitVec 3) (imm : BitVec 13) (acc : Nat)
    (right : Seg → Bool) (f : State → Nat → State) : State :=
  s.instr n .plain true fun t =>
    if !hasCache n then (t, .ok .seq)
    else
      let c := t.core n
      let off := c.offset gb imm
      match c.check seg.toNat off 1 right with
      | .inr code => (t, .fault code off (finfoOf seg.toNat 1 acc 0))
      | .inl addr => (f t (addr / 64), .ok .seq)

/-- DCLEAN (R72). -/
def execDclean (core : Fin 11) (gb : BitVec 5) (seg : BitVec 3) (imm : BitVec 13) (s : State) :
    Host.Outcome State Fault Refusal :=
  .next (s.lineOp core gb seg imm 0 (fun g => g.r || g.w) fun t l => t.cleanLine core l).settle

/-- DINV (R72): dirty data are discarded. -/
def execDinv (core : Fin 11) (gb : BitVec 5) (seg : BitVec 3) (imm : BitVec 13) (s : State) :
    Host.Outcome State Fault Refusal :=
  .next (s.lineOp core gb seg imm 1 (·.w) fun t l => t.discardLine core l)

/-- DFLUSH (R72). -/
def execDflush (core : Fin 11) (gb : BitVec 5) (seg : BitVec 3) (imm : BitVec 13) (s : State) :
    Host.Outcome State Fault Refusal :=
  .next (s.lineOp core gb seg imm 0 (fun g => g.r || g.w) fun t l => t.evict core l).settle

/-- IINV (R72). -/
def execIinv (core : Fin 11) (gb : BitVec 5) (seg : BitVec 3) (imm : BitVec 13) (s : State) :
    Host.Outcome State Fault Refusal :=
  .next (s.lineOp core gb seg imm 2 (·.x) fun t l => t.discardFetched core l)

/-- A .ALL operation (R72): `f` on every line. With `cut`, an interrupt that the core can take is taken behind so many
lines, and its return starts the operation again. -/
def State.allOp (s : State) (n : Nat) (lines : CoreSt → List Nat) (cut : Option Nat) (f : State → Nat → State) : State :=
  s.instr n .plain true fun t =>
    let ls := if hasCache n then lines (t.core n) else []
    let whole := (t.eachLine ls f, Res.ok .seq)
    match cut with
    | none => whole
    | some k =>
      if k = 0 || ls.length ≤ k then whole
      else
        let u := t.eachLine (ls.take k) f
        match u.interruptInside n with
        | some e => (u, .cut e)
        | none => whole

/-- DCLEAN.ALL (R72). -/
def execDcleanAll (op : AllOp) (s : State) : Host.Outcome State Fault Refusal :=
  .next (s.allOp op.core (·.dcache.map (·.1)) op.cut fun u l => u.cleanLine op.core l).settle

/-- DFLUSH.ALL (R72). -/
def execDflushAll (op : AllOp) (s : State) : Host.Outcome State Fault Refusal :=
  .next (s.allOp op.core (·.dcache.map (·.1)) op.cut fun u l => u.evict op.core l).settle

/-- IINV.ALL (R72). -/
def execIinvAll (op : AllOp) (s : State) : Host.Outcome State Fault Refusal :=
  .next (s.allOp op.core (·.icache) op.cut fun u l => u.discardFetched op.core l)

end Sys2Proof.Machine
end

