-- ==== Sys2Proof/Machine/EngineCmd.lean ====
section
/-!
DEFINITION. The commands of the key store, the Press and digest units, the Staves and the bin store (chapters "Key store
and key hierarchy" to "Bin store").
-/
namespace Sys2Proof.Machine

/-! ### Key store -/

/-- KCORE's write of KEY.CMD, or another agent's, which R178 turns away. -/
def State.keyCmd (s : State) (agent : AgentId) (code : Word) : State := s.regCmd agent.toNat pKEY 0x108 code

/-- KEY_LOAD (R178): command code 1 on the argument registers. -/
def execKeyLoad (agent : AgentId) (s : State) : Host.Outcome State Fault Refusal :=
  .next (s.keyCmd agent 1)

/-- KEY_UNWRAP (R181): command code 2 on the argument registers. -/
def execKeyUnwrap (agent : AgentId) (s : State) : Host.Outcome State Fault Refusal :=
  .next (s.keyCmd agent 2)

/-- KEY_GENERATE (R184): command code 3 on the argument registers. -/
def execKeyGenerate (agent : AgentId) (s : State) : Host.Outcome State Fault Refusal :=
  .next (s.keyCmd agent 3)

/-- KEY_DERIVE (R185): command code 4 on the argument registers. -/
def execKeyDerive (agent : AgentId) (s : State) : Host.Outcome State Fault Refusal :=
  .next (s.keyCmd agent 4)

/-- KEY_EXPORT (R182): command code 5 on the argument registers. -/
def execKeyExport (agent : AgentId) (s : State) : Host.Outcome State Fault Refusal :=
  .next (s.keyCmd agent 5)

/-- KEY_RESTRICT (R178): command code 6 on the argument registers. -/
def execKeyRestrict (agent : AgentId) (s : State) : Host.Outcome State Fault Refusal :=
  .next (s.keyCmd agent 6)

/-- KEY_ZEROIZE (R187): command code 7 on the argument registers. -/
def execKeyZeroize (agent : AgentId) (s : State) : Host.Outcome State Fault Refusal :=
  .next (s.keyCmd agent 7)

/-- KEY_ZEROIZE_INST (R187): command code 8 on the argument registers. -/
def execKeyZeroizeInst (agent : AgentId) (s : State) : Host.Outcome State Fault Refusal :=
  .next (s.keyCmd agent 8)

/-- KEY_ROOT_GEN (R174): command code 9 on the argument registers. -/
def execKeyRootGen (agent : AgentId) (s : State) : Host.Outcome State Fault Refusal :=
  .next (s.keyCmd agent 9)

/-- KEY_COMMAND_DONE (R179). -/
def execKeyCommandDone (s : State) : Host.Outcome State Fault Refusal :=
  .next (s.orHeld ((s.keyDone).settle))

/-- KEY_CLASS_DERIVE (R175): whether the root passes its parity check. A fresh mask of the battery key RAM is
drawn first where one is due (R448). -/
def execKeyClassDerive (parityOk : Bool) (s : State) : Host.Outcome State Fault Refusal :=
  .next (s.newBackupMask.keyClassDerive parityOk).settle

/-- KEY_CLASS_READY (R175). -/
def execKeyClassReady (s : State) : Host.Outcome State Fault Refusal :=
  .next (s.keyClassReady)

/-- KEY_CFG_WRITE (R177): KEY.CFG and its complement. -/
def execKeyCfgWrite (agent : AgentId) (value compl : Word) (s : State) : Host.Outcome State Fault Refusal :=
  .next (s.pairCmd agent.toNat pKEY 0x100 value compl)

/-- KEY_BOOT_OFF (R176). -/
def execKeyBootOff (agent : AgentId) (s : State) : Host.Outcome State Fault Refusal :=
  .next (s.ctrlSet agent.toNat pKEY 0x100)

/-- KEY_INJECT (R186): a write of INJ_REQ. -/
def execKeyInject (agent : AgentId) (value : Word) (s : State) : Host.Outcome State Fault Refusal :=
  .next (s.regCmd agent.toNat pKEY 0x13C value)

/-- KEY_INJECT_DONE (R186): of an agent's injection. -/
def execKeyInjectDone (agent : AgentId) (s : State) : Host.Outcome State Fault Refusal :=
  .next (s.keyInjectDone agent.toNat)

/-! ### Press units -/

/-- PRESS_SUBMIT (R194): a write of PRESSn.SUBMIT. -/
def execPressSubmit (unit : Fin 4) (agent : AgentId) (value : Word) (s : State) : Host.Outcome State Fault Refusal :=
  .next (s.regCmd agent.toNat (unitPage unit) 0x104 value)

/-- PRESS_DESCRIPTOR_FETCH (R194, R196). -/
def execPressDescriptorFetch (unit : Fin 4) (s : State) : Host.Outcome State Fault Refusal :=
  .next (s.orHeld ((s.unlessHalted fun t => t.unitRuns unit fun x => x.pressFetch unit).settle))

/-- PRESS_QUANTUM (R202): `fault` is a mismatch of the duplicated or inverse computation (R207). A frame or a pair blob
that the unit has run goes on. -/
def execPressQuantum (unit : Fin 4) (fault : Bool) (s : State) : Host.Outcome State Fault Refusal :=
  .next (s.orHeld ((s.unlessHalted fun t =>
    (t.unitRuns unit fun x => x.pressQuantum unit fault).strmServe.pairTry).settle))

/-- PRESS_SEGMENT_COMPLETE (R200), with a mismatch in the segment's last block or without; a clearing that a block reset
left waiting (R210, R270) ends first. -/
def execPressSegmentComplete (e : UnitEnd 4) (s : State) : Host.Outcome State Fault Refusal :=
  .next (s.orHeld ((s.unlessHalted fun t => t.unitWork e.unit fun x => x.pressComplete e.unit e.fault).settle))

/-- PRESS_CONTEXT_SPILL (R201). -/
def execPressContextSpill (unit : Fin 4) (s : State) : Host.Outcome State Fault Refusal :=
  .next (s.orHeld ((s.unlessHalted fun t => t.unitRuns unit fun x => x.unitSpill unit).settle))

/-- PRESS_CONTEXT_RESTORE (R201). -/
def execPressContextRestore (unit : Fin 4) (s : State) : Host.Outcome State Fault Refusal :=
  .next (s.orHeld ((s.unlessHalted fun t => t.unitRuns unit fun x => x.unitRestore unit).settle))

/-- PRESS_SAVE (R205): the context command that the unit has next. -/
def execPressSave (unit : Fin 4) (s : State) : Host.Outcome State Fault Refusal :=
  .next (s.unlessHalted fun t => t.unitRuns unit fun x => x.ctxSave unit).settle

/-- PRESS_EXPORT (R206): the context command that the unit has next. -/
def execPressExport (unit : Fin 4) (s : State) : Host.Outcome State Fault Refusal :=
  .next (s.orHeld ((s.unlessHalted fun t => t.unitRuns unit fun x => x.ctxExport unit).settle))

/-- PRESS_IMPORT (R206): the context command that the unit has next. -/
def execPressImport (unit : Fin 4) (s : State) : Host.Outcome State Fault Refusal :=
  .next (s.orHeld ((s.unlessHalted fun t => t.unitRuns unit fun x => x.ctxImport unit).settle))

/-- PRESS_ABORT (R208): the context command that the unit has next. -/
def execPressAbort (unit : Fin 4) (s : State) : Host.Outcome State Fault Refusal :=
  .next (s.orHeld ((s.unlessHalted fun t => t.unitRuns unit fun x => x.ctxAbort unit).settle))

/-- PRESS_GENIV_DRAW (R211). -/
def execPressGenivDraw (unit : Fin 4) (s : State) : Host.Outcome State Fault Refusal :=
  .next (s.unlessHalted fun t => t.unitRuns unit fun x => x.pressGeniv unit).settle

/-- PRESS_QUANTUM_WRITE (R203): QUANTUM0 to QUANTUM63, or QUANTUM_DEF for 64. -/
def execPressQuantumWrite (unit : Fin 4) (agent : AgentId) (which : Fin 65) (value : Word) (s : State) :
    Host.Outcome State Fault Refusal :=
  .next (s.regCmd agent.toNat (unitPage unit) (if which.val = 64 then 0x134 else 0x200 + 4 * which) value)

/-! ### Digest units -/

/-- DIGEST_SUBMIT (R216): a write of DIGESTn.SUBMIT. -/
def execDigestSubmit (unit : Fin 6) (agent : AgentId) (value : Word) (s : State) : Host.Outcome State Fault Refusal :=
  .next (s.regCmd agent.toNat (unitPage (4 + unit)) 0x104 value)

/-- DIGEST_DESCRIPTOR_FETCH (R217). -/
def execDigestDescriptorFetch (unit : Fin 6) (s : State) : Host.Outcome State Fault Refusal :=
  .next (s.orHeld ((s.unlessHalted fun t => t.unitRuns (4 + unit) fun x => x.digestFetch (4 + unit)).settle))

/-- DIGEST_QUANTUM (R222): `fault` is a mismatch of R223. -/
def execDigestQuantum (unit : Fin 6) (fault : Bool) (s : State) : Host.Outcome State Fault Refusal :=
  .next (s.orHeld ((s.unlessHalted fun t => t.unitRuns (4 + unit) fun x => x.digestQuantum (4 + unit) fault).settle))

/-- DIGEST_SEGMENT_COMPLETE (R219), with a mismatch in the segment's last blocks or without; a clearing that a block reset
left waiting ends first. -/
def execDigestSegmentComplete (e : UnitEnd 6) (s : State) : Host.Outcome State Fault Refusal :=
  .next (s.orHeld ((s.unlessHalted fun t =>
    t.unitWork (4 + e.unit) fun x => x.digestComplete (4 + e.unit) e.fault).settle))

/-- DIGEST_CONTEXT_SPILL (R222). -/
def execDigestContextSpill (unit : Fin 6) (s : State) : Host.Outcome State Fault Refusal :=
  .next (s.orHeld ((s.unlessHalted fun t => t.unitRuns (4 + unit) fun x => x.unitSpill (4 + unit)).settle))

/-- DIGEST_CONTEXT_RESTORE (R222). -/
def execDigestContextRestore (unit : Fin 6) (s : State) : Host.Outcome State Fault Refusal :=
  .next (s.orHeld ((s.unlessHalted fun t => t.unitRuns (4 + unit) fun x => x.unitRestore (4 + unit)).settle))

/-- DIGEST_SAVE (R222). -/
def execDigestSave (unit : Fin 6) (s : State) : Host.Outcome State Fault Refusal :=
  .next (s.unlessHalted fun t => t.unitRuns (4 + unit) fun x => x.ctxSave (4 + unit)).settle

/-- DIGEST_ABORT (R224). -/
def execDigestAbort (unit : Fin 6) (s : State) : Host.Outcome State Fault Refusal :=
  .next (s.orHeld ((s.unlessHalted fun t => t.unitRuns (4 + unit) fun x => x.ctxAbort (4 + unit)).settle))

/-- DIGEST_KEYSTORE_HASH (R226). -/
def execDigestKeystoreHash (s : State) : Host.Outcome State Fault Refusal :=
  .next (s.unlessHalted fun t => t.keystoreHash).settle

/-! ### Staves; unit 4 is STAVE-L -/

/-- STAVE_CLAIM (R235): a write of CLAIM = 1. -/
def execStaveClaim (unit : Fin 5) (agent : AgentId) (s : State) : Host.Outcome State Fault Refusal :=
  .next (s.regCmd agent.toNat (pSTAVE unit) 0x100 1)

/-- STAVE_CLAIM_END (R235): a write of CLAIM = 0. -/
def execStaveClaimEnd (unit : Fin 5) (agent : AgentId) (s : State) : Host.Outcome State Fault Refusal :=
  .next (s.regCmd agent.toNat (pSTAVE unit) 0x100 0)

/-- STAVE_COMMAND_ENTRY (R237): a write of CMD_HI after CMD_LO. -/
def execStaveCommandEntry (unit : Fin 5) (agent : AgentId) (lo hi : Word) (s : State) :
    Host.Outcome State Fault Refusal :=
  .next ((s.regCmd agent.toNat (pSTAVE unit) 0x104 lo).regCmd agent.toNat (pSTAVE unit) 0x108 hi)

/-- STAVE_MUL (R233): the command at the front of the unit's queue, where it is one. -/
def execStaveMul (unit : Fin 5) (s : State) : Host.Outcome State Fault Refusal :=
  .next ((s.staveRun unit 1).staveUnhold unit)

/-- STAVE_MULLO (R233): the command at the front of the unit's queue, where it is one. -/
def execStaveMullo (unit : Fin 5) (s : State) : Host.Outcome State Fault Refusal :=
  .next ((s.staveRun unit 2).staveUnhold unit)

/-- STAVE_SHIFT (R233): the command at the front of the unit's queue, where it is one. -/
def execStaveShift (unit : Fin 5) (s : State) : Host.Outcome State Fault Refusal :=
  .next ((s.staveRun unit 3).staveUnhold unit)

/-- STAVE_LDACC (R233): the command at the front of the unit's queue, where it is one. -/
def execStaveLdacc (unit : Fin 5) (s : State) : Host.Outcome State Fault Refusal :=
  .next ((s.staveRun unit 4).staveUnhold unit)

/-- STAVE_STACC (R233): the command at the front of the unit's queue, where it is one. -/
def execStaveStacc (unit : Fin 5) (s : State) : Host.Outcome State Fault Refusal :=
  .next ((s.staveRun unit 5).staveUnhold unit)

/-- STAVE_RAND (R233, R247): the command at the front of the unit's queue, where it is one. -/
def execStaveRand (unit : Fin 5) (s : State) : Host.Outcome State Fault Refusal :=
  .next ((s.staveRun unit 6).staveUnhold unit)

/-- STAVE_RELEASE (R242): the command at the front of the unit's queue, where it is one. -/
def execStaveRelease (unit : Fin 5) (s : State) : Host.Outcome State Fault Refusal :=
  .next ((s.staveRun unit 7).staveUnhold unit)

/-- STAVE_LIST_START (R236): a write of LIST_LEN. -/
def execStaveListStart (unit : Fin 5) (agent : AgentId) (length : Word) (s : State) :
    Host.Outcome State Fault Refusal :=
  .next (s.regCmd agent.toNat (pSTAVE unit) 0x114 length)

/-- STAVE_LIST_FETCH (R236). -/
def execStaveListFetch (unit : Fin 5) (s : State) : Host.Outcome State Fault Refusal :=
  .next (s.orHeld (s.staveListFetch unit))

/-- STAVE_ABORT (R245). -/
def execStaveAbort (unit : Fin 5) (agent : AgentId) (s : State) : Host.Outcome State Fault Refusal :=
  .next (s.regCmd agent.toNat (pSTAVE unit) 0x12C 1)

/-- STAVE_CLEARING_DONE (R245). -/
def execStaveClearingDone (unit : Fin 5) (s : State) : Host.Outcome State Fault Refusal :=
  .next ((s.staveCleared unit).staveUnhold unit)

/-- An access in flight to a Stave's operand RAM. -/
def State.staveFlight (s : State) (id : Nat) : Bool :=
  match s.flight id with
  | some f => (match regionOf f.addr with | some (.stave _) => true | _ => false)
  | none => false

/-- STAVE_RAM_ACCESS_RESUME (R239): an access to operand RAM, by its number, goes on. -/
def execStaveRamAccessResume (flight : Nat) (s : State) : Host.Outcome State Fault Refusal :=
  .next (s.orHeld (if s.staveFlight flight then s.respondFlight flight .none else s))

/-- STAVEL.KEYLD = 1 (R358): d as hidden words 0–3 bound for SIGN. Only a ROM-marked store of LCORE does it
(R342), under a claim that holds none yet (R240). -/
def State.stavelKeyld (s : State) (marked : Bool) : State :=
  let t := s.stave 4
  if !marked then s.err (pSTAVE 4) 3
  else if t.claim ≠ some aLCORE || t.clearing then s.err (pSTAVE 4) 16
  else
    match s.legal.key with
    | none => s
    | some (k, _) =>
      if t.bind.isSome || t.hidden.contains 0 || t.taint.contains 0 then s
      else
        (s.staveStore 4 0 512 (beNat (xorBytes k.1 k.2))).modStave 4 fun u =>
          { u with hidden := addAll u.hidden [0], written := addAll u.written [0],
                   bind := some (0, 1, (psetTypes 1).headD 0) }

/-- STAVEL_KEYLD (R358): `marked` that the store was fetched from island ROM. -/
def execStavelKeyld (marked : Bool) (s : State) : Host.Outcome State Fault Refusal :=
  .next (if s.issues aLCORE then s.stavelKeyld marked else s)

/-! ### Bin store -/

/-- BIN_ENABLE (R255). -/
def execBinEnable (agent : AgentId) (s : State) : Host.Outcome State Fault Refusal :=
  .next (s.ctrlSet agent.toNat pBIN 1)

/-- BIN_READY (R255). -/
def execBinReady (s : State) : Host.Outcome State Fault Refusal :=
  .next (s.binReady)

/-- BIN_OPEN (R258): command code 1 on the agent's argument registers. -/
def execBinOpen (agent : AgentId) (s : State) : Host.Outcome State Fault Refusal :=
  .next (s.regCmd agent.toNat pBIN 0x120 1)

/-- BIN_PIN (R262): command code 2 on the agent's argument registers. -/
def execBinPin (agent : AgentId) (s : State) : Host.Outcome State Fault Refusal :=
  .next (s.regCmd agent.toNat pBIN 0x120 2)

/-- BIN_UNPIN (R262): command code 3 on the agent's argument registers. -/
def execBinUnpin (agent : AgentId) (s : State) : Host.Outcome State Fault Refusal :=
  .next (s.regCmd agent.toNat pBIN 0x120 3)

/-- BIN_READ (R258): command code 4 on the agent's argument registers. -/
def execBinRead (agent : AgentId) (s : State) : Host.Outcome State Fault Refusal :=
  .next (s.regCmd agent.toNat pBIN 0x120 4)

/-- BIN_WRITE (R260): command code 5 on the agent's argument registers. -/
def execBinWrite (agent : AgentId) (s : State) : Host.Outcome State Fault Refusal :=
  .next (s.regCmd agent.toNat pBIN 0x120 5)

/-- BIN_INCR (R261): command code 6 on the agent's argument registers. -/
def execBinIncr (agent : AgentId) (s : State) : Host.Outcome State Fault Refusal :=
  .next (s.regCmd agent.toNat pBIN 0x120 6)

/-- BIN_CLOSE (R266): command code 7 on the agent's argument registers. -/
def execBinClose (agent : AgentId) (s : State) : Host.Outcome State Fault Refusal :=
  .next (s.regCmd agent.toNat pBIN 0x120 7)

/-- BIN_CANCEL (R263): command code 15 on the agent's argument registers. -/
def execBinCancel (agent : AgentId) (s : State) : Host.Outcome State Fault Refusal :=
  .next (s.regCmd agent.toNat pBIN 0x120 15)

/-- BIN_SPILL (R256). -/
def execBinSpill (s : State) : Host.Outcome State Fault Refusal :=
  .next (s.orHeld ((s.unlessHalted fun t => t.binSpillNext).settle))

/-- BIN_FILL (R257). -/
def execBinFill (s : State) : Host.Outcome State Fault Refusal :=
  .next (s.orHeld ((s.unlessHalted fun t => t.binFillNext).settle))

/-- BIN_FRAME_WAIT_SERVED (R263). -/
def execBinFrameWaitServed (s : State) : Host.Outcome State Fault Refusal :=
  .next (s.orHeld ((s.binServe).settle))

/-- BIN_ENGINE_TRANSFER (R265): a Press (0–3) or digest (4–9) unit saves or restores a context. -/
def execBinEngineTransfer (unit : Fin 10) (save : Bool) (s : State) : Host.Outcome State Fault Refusal :=
  .next (s.orHeld ((s.unlessHalted fun t =>
    t.unitRuns unit fun x => if save then x.unitSpill unit else x.unitRestore unit).settle))

/-- BIN_INSTANCE_CLEAR (R269). -/
def execBinInstanceClear (inst : Fin 64) (s : State) : Host.Outcome State Fault Refusal :=
  .next (s.orHeld ((s.instBins inst).settle))

/-- BIN_QUOTA_WRITE (R259). -/
def execBinQuotaWrite (agent : AgentId) (inst : Fin 64) (value : Word) (s : State) :
    Host.Outcome State Fault Refusal :=
  .next (s.regCmd agent.toNat pBIN (0x200 + 4 * inst) value)

end Sys2Proof.Machine
end

