-- ==== Sys2Proof/Machine/FieldCmd.lean ====
section
/-!
DEFINITION. The commands of the reader channels, the tag island, the card slots and the journal (chapters "Reader channels",
"Field-powered tag island", "Card slots and the SD journal").
-/
namespace Sys2Proof.Machine

/-! ### Reader channels -/

/-- An agent writes RDRn.CMD: the code and the entry it names. -/
def State.rdrCmd (s : State) (chan : Fin 8) (agent : AgentId) (code entry : Nat) : State :=
  s.regCmd agent.toNat (pRDR chan) 0x110 (wd (code + at' entry 8))

/-- RDR_FIELD_WRITE (R274): a write of RDRn.FIELD. -/
def execRdrFieldWrite (chan : Fin 8) (agent : AgentId) (value : Word) (s : State) :
    Host.Outcome State Fault Refusal :=
  .next (s.regCmd agent.toNat (pRDR chan) 0x104 value)

/-- RDR_FULL_POWER_GRANT (R275). -/
def execRdrFullPowerGrant (s : State) : Host.Outcome State Fault Refusal :=
  .next (s.rdrGrantNext)

/-- RDR_FIELD_RAMP_DONE (R274). -/
def execRdrFieldRampDone (chan : Fin 8) (s : State) : Host.Outcome State Fault Refusal :=
  .next (s.rdrRampDone chan)

/-- RDR_GUARD_END (R276). -/
def execRdrGuardEnd (chan : Fin 8) (s : State) : Host.Outcome State Fault Refusal :=
  .next (s.rdrGuardEnd chan)

/-- RDR_ANTENNA_FAULT (R277). -/
def execRdrAntennaFault (chan : Fin 8) (s : State) : Host.Outcome State Fault Refusal :=
  .next (s.rdrAntenna chan)

/-- RDR_LOAD_WATCH (R278): the measured load. -/
def execRdrLoadWatch (chan : Fin 8) (load : Fin 65536) (s : State) : Host.Outcome State Fault Refusal :=
  .next (s.rdrLoadWatch chan load)

/-- RDR_CAP_WATCH (R279): the measured capacitance. -/
def execRdrCapWatch (chan : Fin 8) (cap : Fin 65536) (s : State) : Host.Outcome State Fault Refusal :=
  .next (s.rdrCapWatch chan cap)

/-- RDR_ROUND (R285). -/
def execRdrRound (chan : Fin 8) (agent : AgentId) (s : State) : Host.Outcome State Fault Refusal :=
  .next (s.rdrCmd chan agent 1 0)

/-- RDR_ACTIVATE (R290). -/
def execRdrActivate (chan : Fin 8) (agent : AgentId) (entry : Fin 64) (s : State) :
    Host.Outcome State Fault Refusal :=
  .next (s.rdrCmd chan agent 2 entry)

/-- RDR_XCHG (R291). -/
def execRdrXchg (chan : Fin 8) (agent : AgentId) (entry : Fin 64) (s : State) : Host.Outcome State Fault Refusal :=
  .next (s.rdrCmd chan agent 3 entry)

/-- RDR_RAW (R292). -/
def execRdrRaw (chan : Fin 8) (agent : AgentId) (s : State) : Host.Outcome State Fault Refusal :=
  .next (s.rdrCmd chan agent 4 0)

/-- RDR_HALT (R281). -/
def execRdrHalt (chan : Fin 8) (agent : AgentId) (entry : Fin 64) (s : State) : Host.Outcome State Fault Refusal :=
  .next (s.rdrCmd chan agent 5 entry)

/-- RDR_FORGET (R281). -/
def execRdrForget (chan : Fin 8) (agent : AgentId) (entry : Fin 64) (s : State) : Host.Outcome State Fault Refusal :=
  .next (s.rdrCmd chan agent 6 entry)

/-- RDR_ABORT (R293). -/
def execRdrAbort (chan : Fin 8) (agent : AgentId) (s : State) : Host.Outcome State Fault Refusal :=
  .next (s.rdrCmd chan agent 15 0)

/-- RDR_FRAME_RECEIVED (R283): the frame's bytes, the bits of a last short byte, the first collision, and whether its check held. -/
def execRdrFrameReceived (chan : Fin 8) (data : List Byte) (bits : Fin 8) (coll : Option Nat) (good : Bool) (s : State) :
    Host.Outcome State Fault Refusal :=
  .next (s.rdrReceived chan { data := data, bits := bits, coll := coll, good := good })

/-- RDR_RESPONSE_TIMEOUT (R283). -/
def execRdrResponseTimeout (chan : Fin 8) (s : State) : Host.Outcome State Fault Refusal :=
  .next (s.rdrTimeout chan)

/-- RDR_PQ_HOLD_EXPIRY (R289). -/
def execRdrPqHoldExpiry (chan : Fin 8) (entry : Fin 64) (s : State) : Host.Outcome State Fault Refusal :=
  .next (s.rdrPqExpire chan entry)

/-! ### Tag island -/

/-- TAG_FIELD_CHANGE (R296). -/
def execTagFieldChange (present : Bool) (s : State) : Host.Outcome State Fault Refusal :=
  .next (s.tagField present)

/-- TAG_POWER_UP (R307): whether a field powers it, and whether the capacitor holds the recovery's energy. -/
def execTagPowerUp (field reserve : Bool) (s : State) : Host.Outcome State Fault Refusal :=
  .next (s.tagPowerUp field reserve)

/-- TAG_SUPPLY_LOSS (R300, R307): the step of R306 that a change under way was in. -/
def execTagSupplyLoss (step : Fin 6) (s : State) : Host.Outcome State Fault Refusal :=
  .next (s.tagLoss step)

/-- TAG_INVENTORY (R295). -/
def execTagInventory (req : TagReq) (afi maskLen : Byte) (mask : BitVec 64) (s : State) :
    Host.Outcome State Fault Refusal :=
  .next (s.tagInventory req afi.toNat maskLen.toNat mask.toNat false)

/-- TAG_STAY_QUIET (R304). -/
def execTagStayQuiet (req : TagReq) (s : State) : Host.Outcome State Fault Refusal :=
  .next (s.tagStayQuiet req)

/-- TAG_READ_SINGLE_BLOCK (R299). -/
def execTagReadSingleBlock (req : TagReq) (block : Byte) (s : State) : Host.Outcome State Fault Refusal :=
  .next (s.tagRead req block.toNat 1 255)

/-- TAG_WRITE_SINGLE_BLOCK (R306). -/
def execTagWriteSingleBlock (req : TagReq) (block : Byte) (value : Word) (s : State) :
    Host.Outcome State Fault Refusal :=
  .next (s.tagWriteBlock req block.toNat 255 value)

/-- TAG_READ_MULTIPLE_BLOCKS (R299): `more` blocks after the first. -/
def execTagReadMultipleBlocks (req : TagReq) (first more : Byte) (s : State) : Host.Outcome State Fault Refusal :=
  .next (s.tagRead req first.toNat (more.toNat + 1) 255)

/-- TAG_SELECT (R304). -/
def execTagSelect (req : TagReq) (s : State) : Host.Outcome State Fault Refusal :=
  .next (s.tagSelect req)

/-- TAG_RESET_TO_READY (R304). -/
def execTagResetToReady (req : TagReq) (s : State) : Host.Outcome State Fault Refusal :=
  .next (s.tagResetReady req)

/-- TAG_WRITE_AFI (R306). -/
def execTagWriteAfi (req : TagReq) (value : Byte) (s : State) : Host.Outcome State Fault Refusal :=
  .next (s.tagWriteSys req (.afi value.toNat))

/-- TAG_WRITE_DSFID (R306). -/
def execTagWriteDsfid (req : TagReq) (value : Byte) (s : State) : Host.Outcome State Fault Refusal :=
  .next (s.tagWriteSys req (.dsfid value.toNat))

/-- TAG_GET_SYSTEM_INFORMATION (R295). -/
def execTagGetSystemInformation (req : TagReq) (s : State) : Host.Outcome State Fault Refusal :=
  .next (s.tagSysInfo req false)

/-- TAG_GET_MULTIPLE_BLOCK_SECURITY (R299): `more` blocks after the first. -/
def execTagGetMultipleBlockSecurity (req : TagReq) (first more : Byte) (s : State) :
    Host.Outcome State Fault Refusal :=
  .next (s.tagSecurity req first.toNat (more.toNat + 1))

/-- TAG_EXT_READ (R295). -/
def execTagExtRead (req : TagReq) (block : BitVec 16) (s : State) : Host.Outcome State Fault Refusal :=
  .next (s.tagRead req block.toNat 1 2047)

/-- TAG_EXT_WRITE (R306). -/
def execTagExtWrite (req : TagReq) (block : BitVec 16) (value : Word) (s : State) :
    Host.Outcome State Fault Refusal :=
  .next (s.tagWriteBlock req block.toNat 2047 value)

/-- TAG_EXT_READ_MULTIPLE (R295): `more` blocks after the first. -/
def execTagExtReadMultiple (req : TagReq) (first more : BitVec 16) (s : State) : Host.Outcome State Fault Refusal :=
  .next (s.tagRead req first.toNat (more.toNat + 1) 2047)

/-- TAG_EXT_GET_SYSTEM_INFORMATION (R295). -/
def execTagExtGetSystemInformation (req : TagReq) (s : State) : Host.Outcome State Fault Refusal :=
  .next (s.tagSysInfo req true)

/-- TINVENTORY (R301). -/
def execTinventory (req : TagReq) (afi maskLen : Byte) (mask : BitVec 64) (s : State) :
    Host.Outcome State Fault Refusal :=
  .next (s.tagInventory req afi.toNat maskLen.toNat mask.toNat true)

/-- TRERAND (R302). -/
def execTrerand (req : TagReq) (s : State) : Host.Outcome State Fault Refusal :=
  .next (s.tagRerand req)

/-- TPASSWORD (R300): the password's number and the covered value. -/
def execTpassword (req : TagReq) (number : Byte) (value : Word) (s : State) : Host.Outcome State Fault Refusal :=
  .next (s.tagPassword req number.toNat value)

/-- TCHALLENGE (R301). -/
def execTchallenge (req : TagReq) (s : State) : Host.Outcome State Fault Refusal :=
  .next (s.tagChallenge req)

/-- TGETPWSTAT (R301). -/
def execTgetpwstat (req : TagReq) (s : State) : Host.Outcome State Fault Refusal :=
  .next (s.tagPwStat req)

/-- TLOCKBLOCK (R301). -/
def execTlockblock (req : TagReq) (block : BitVec 16) (s : State) : Host.Outcome State Fault Refusal :=
  .next (s.tagLockBlock req block.toNat)

/-- TKILL (R305). -/
def execTkill (req : TagReq) (value : Word) (s : State) : Host.Outcome State Fault Refusal :=
  .next (s.tagRfKill req value)

/-- TREADUID (R301). -/
def execTreaduid (req : TagReq) (s : State) : Host.Outcome State Fault Refusal :=
  .next (s.tagReadUid req)

/-- TAG_WRITE_CYCLE_DONE (R306): whether the verify held. -/
def execTagWriteCycleDone (good : Bool) (s : State) : Host.Outcome State Fault Refusal :=
  .next (s.tagCycleDone good)

/-- TAG_QUIET_EXPIRY (R304). -/
def execTagQuietExpiry (s : State) : Host.Outcome State Fault Refusal :=
  .next (s.tagQuietEnd)

/-- An agent writes TAG.CMD. -/
def State.tagCmd (s : State) (agent : AgentId) (code : Word) : State := s.regCmd agent.toNat pTAG 0x100 code

/-- TAG_WIRE_READ (R309): wire command 1 on the agent's ARG and DATA. -/
def execTagWireRead (agent : AgentId) (s : State) : Host.Outcome State Fault Refusal :=
  .next (s.tagCmd agent 1)

/-- TAG_WIRE_WRITE (R309): wire command 2 on the agent's ARG and DATA. -/
def execTagWireWrite (agent : AgentId) (s : State) : Host.Outcome State Fault Refusal :=
  .next (s.tagCmd agent 2)

/-- TAG_PROTECT (R309): wire command 3 on the agent's ARG and DATA. -/
def execTagProtect (agent : AgentId) (s : State) : Host.Outcome State Fault Refusal :=
  .next (s.tagCmd agent 3)

/-- TAG_SETPW (R309): wire command 4 on the agent's ARG and DATA. -/
def execTagSetpw (agent : AgentId) (s : State) : Host.Outcome State Fault Refusal :=
  .next (s.tagCmd agent 4)

/-- TAG_PWRESET (R309): wire command 5 on the agent's ARG and DATA. -/
def execTagPwreset (agent : AgentId) (s : State) : Host.Outcome State Fault Refusal :=
  .next (s.tagCmd agent 5)

/-- TAG_CONFIG (R309): wire command 6 on the agent's ARG and DATA. -/
def execTagConfig (agent : AgentId) (s : State) : Host.Outcome State Fault Refusal :=
  .next (s.tagCmd agent 6)

/-- TAG_SEED (R303): an agent's wire command 7, or the port's own draw when it is due. -/
def execTagSeed (agent : Option AgentId) (s : State) : Host.Outcome State Fault Refusal :=
  .next (match agent with | some a => s.tagCmd a 7 | none => s.tagSeedDue)

/-- TAG_HOLD (R308): wire command 8. -/
def execTagHold (agent : AgentId) (s : State) : Host.Outcome State Fault Refusal :=
  .next (s.tagCmd agent 8)

/-- TAG_UNHOLD (R308): wire command 9. -/
def execTagUnhold (agent : AgentId) (s : State) : Host.Outcome State Fault Refusal :=
  .next (s.tagCmd agent 9)

/-- TAG_KILL (R305): wire command 10. -/
def execTagKill (agent : AgentId) (s : State) : Host.Outcome State Fault Refusal :=
  .next (s.tagCmd agent 10)

/-- TAG_LOCKBLOCK (R309): wire command 11. -/
def execTagLockblock (agent : AgentId) (s : State) : Host.Outcome State Fault Refusal :=
  .next (s.tagCmd agent 11)

/-- TAG_I2C_WRITE (R310): the first block and the words. -/
def execTagI2cWrite (block : BitVec 16) (words : List Word) (s : State) : Host.Outcome State Fault Refusal :=
  .next (s.tagI2cWrite block.toNat words)

/-- TAG_I2C_READ (R310). -/
def execTagI2cRead (block : BitVec 16) (count : Fin 33) (s : State) : Host.Outcome State Fault Refusal :=
  .next (s.tagI2cRead block.toNat count)

/-! ### Contact slots and the SD slot -/

/-- A card's answer is to the command it runs; without one, an agent first writes CARDn.CMD (R316). -/
def State.cardCmd (s : State) (slot : Fin 4) (agent : AgentId) (code : Word) (answered : Bool) : State :=
  if answered && (s.card slot).run.isSome then s else s.regCmd agent.toNat (pCARD slot) 0x108 code

/-- The same of SDC.CMD (R322). -/
def State.sdCmd (s : State) (agent : AgentId) (code : Word) (answered : Bool) : State :=
  if answered && s.sdc.run.isSome then s else s.regCmd agent.toNat pSDC 0x104 code

/-- CARD_ACTIVATE (R313): the command, and the card's answer to reset once it has come. -/
def execCardActivate (slot : Fin 4) (agent : AgentId) (answer : Option CardAtr) (s : State) :
    Host.Outcome State Fault Refusal :=
  .next (let t := s.cardCmd slot agent 1 answer.isSome
    match answer with
    | some x => t.cardAtr slot x
    | none => t)

/-- CARD_WARM (R316): the command, and the card's answer to reset once it has come. -/
def execCardWarm (slot : Fin 4) (agent : AgentId) (answer : Option CardAtr) (s : State) :
    Host.Outcome State Fault Refusal :=
  .next (let t := s.cardCmd slot agent 3 answer.isSome
    match answer with
    | some x => t.cardAtr slot x
    | none => t)

/-- CARD_APDU (R317): the command, what the I/O line carried, and the record word whose program failed. -/
def execCardApdu (slot : Fin 4) (agent : AgentId) (line : CardLine) (vfail : Option Nat) (s : State) :
    Host.Outcome State Fault Refusal :=
  .next (s.orHeld (((s.cardCmd slot agent 2 (line != .silent)).cardLine slot line vfail).settle))

/-- CARD_DEACTIVATE (R316). -/
def execCardDeactivate (slot : Fin 4) (agent : AgentId) (s : State) : Host.Outcome State Fault Refusal :=
  .next (s.cardCmd slot agent 4 false)

/-- CARD_ABORT (R317). -/
def execCardAbort (slot : Fin 4) (agent : AgentId) (s : State) : Host.Outcome State Fault Refusal :=
  .next (s.cardCmd slot agent 15 false)

/-- CARD_INSERTION (R315). -/
def execCardInsertion (slot : Fin 4) (s : State) : Host.Outcome State Fault Refusal :=
  .next (s.cardInsert slot)

/-- CARD_REMOVAL (R315). -/
def execCardRemoval (slot : Fin 4) (s : State) : Host.Outcome State Fault Refusal :=
  .next (s.orHeld (s.cardRemove slot))

/-- CARD_OVERCURRENT (R313). -/
def execCardOvercurrent (slot : Fin 4) (s : State) : Host.Outcome State Fault Refusal :=
  .next (s.orHeld (s.cardOvercurrent slot))

/-- CARD_ATR_TIMEOUT (R313). -/
def execCardAtrTimeout (slot : Fin 4) (s : State) : Host.Outcome State Fault Refusal :=
  .next (s.cardAtrTimeout slot)

/-- CARD_CLOCK_STOP (R318). -/
def execCardClockStop (slot : Fin 4) (s : State) : Host.Outcome State Fault Refusal :=
  .next (s.cardClockStop slot)

/-- CARD_TIMEOUT (R317). -/
def execCardTimeout (slot : Fin 4) (s : State) : Host.Outcome State Fault Refusal :=
  .next (s.orHeld (s.cardTimeout slot))

/-- SDC_INIT (R320): the command, and the card's answers once they have come. -/
def execSdcInit (agent : AgentId) (answer : Option SdInit) (s : State) : Host.Outcome State Fault Refusal :=
  .next (s.orHeld (let t := s.sdCmd agent 1 answer.isSome
    match answer with
    | some x => t.sdInit x
    | none => t))

/-- SDC_READ (R322): the command, and what the card gave. -/
def execSdcRead (agent : AgentId) (data : Option SdData) (s : State) : Host.Outcome State Fault Refusal :=
  .next (s.orHeld (let t := s.sdCmd agent 2 data.isSome
    match data with
    | some x => t.sdRead x
    | none => t))

/-- SDC_WRITE (R322, R327): the command, and its steps up to `upto`: 1 the record is open over the pre-image `pre`, 2 the data
have gone, 3 CMD13 is answered. -/
def execSdcWrite (agent : AgentId) (upto : Fin 4) (pre : List Byte) (ok : Bool) (vfail : Option Nat) (s : State) :
    Host.Outcome State Fault Refusal :=
  .next (s.orHeld ((s.sdCmd agent 3 (upto.val != 0)).sdWrite pre upto ok vfail))

/-- SDC_SWITCH (R320). -/
def execSdcSwitch (agent : AgentId) (answer : Option SdSwitch) (s : State) : Host.Outcome State Fault Refusal :=
  .next (s.orHeld (let t := s.sdCmd agent 4 answer.isSome
    match answer with
    | some x => t.sdSwitch x
    | none => t))

/-- SDC_POWER_OFF (R329). -/
def execSdcPowerOff (agent : AgentId) (s : State) : Host.Outcome State Fault Refusal :=
  .next (s.sdCmd agent 5 false)

/-- SDC_ABORT (R323). -/
def execSdcAbort (agent : AgentId) (s : State) : Host.Outcome State Fault Refusal :=
  .next (s.sdCmd agent 15 false)

/-- SDC_INSERTION (R323): with the write-protect switch as it stands. -/
def execSdcInsertion (wp : Bool) (s : State) : Host.Outcome State Fault Refusal :=
  .next (s.orHeld (s.sdInsert wp))

/-- SDC_REMOVAL (R323). -/
def execSdcRemoval (s : State) : Host.Outcome State Fault Refusal :=
  .next (s.orHeld (s.sdRemove))

/-- SDC_BUSY_TIMEOUT (R323). -/
def execSdcBusyTimeout (s : State) : Host.Outcome State Fault Refusal :=
  .next (s.orHeld (s.sdBusyTimeout))

/-- SDC_RESTORE (R329): whether the write, CMD13 and the comparison held. -/
def execSdcRestore (good : Bool) (s : State) : Host.Outcome State Fault Refusal :=
  .next (s.orHeld (s.sdRestore good))

/-! ### Journal -/

/-- JRNL_ACK (R332). -/
def execJrnlAck (agent : AgentId) (slot : Fin 8) (s : State) : Host.Outcome State Fault Refusal :=
  .next (s.regCmd agent.toNat pJRNL 0x138 (wd (1 + at' slot 8)))

/-- JRNL_DISCARD (R332). -/
def execJrnlDiscard (agent : AgentId) (slot : Fin 8) (s : State) : Host.Outcome State Fault Refusal :=
  .next (s.regCmd agent.toNat pJRNL 0x138 (wd (2 + at' slot 8)))

/-- JRNL_SCAN (R331). -/
def execJrnlScan (s : State) : Host.Outcome State Fault Refusal :=
  .next (s.jrnlScan)

end Sys2Proof.Machine
end

