-- ==== Sys2Proof/Machine/Dispatch.lean ====
section
/-!
DEFINITION. The meaning of every command: one arm per constructor, one direct call of its meaning.
-/
namespace Sys2Proof.Machine

/-- What a command does to everything but the queue. -/
def exec (i : Instr) (s : State) : Host.Outcome State Fault Refusal :=
  match i with
  | .registerWrite agent addr size value => Sys2Proof.Machine.execRegisterWrite agent addr size value s
  | .readClear agent page off hw => Sys2Proof.Machine.execReadClear agent page off hw s
  | .pairedWritePrimary agent page off value => Sys2Proof.Machine.execPairedWritePrimary agent page off value s
  | .pairedWriteComplement agent page off value => Sys2Proof.Machine.execPairedWriteComplement agent page off value s
  | .pairWindowExpiry page off => Sys2Proof.Machine.execPairWindowExpiry page off s
  | .lockSet agent page value => Sys2Proof.Machine.execLockSet agent page value s
  | .blockReset agent page => Sys2Proof.Machine.execBlockReset agent page s
  | .sysRoleWrite agent value compl => Sys2Proof.Machine.execSysRoleWrite agent value compl s
  | .sysCoreDomainWrite agent value compl => Sys2Proof.Machine.execSysCoreDomainWrite agent value compl s
  | .fabricRequest agent addr size how data upset => Sys2Proof.Machine.execFabricRequest agent addr size how data upset s
  | .gateSecondVerdict who agrees => Sys2Proof.Machine.execGateSecondVerdict who agrees s
  | .fabricResponse who upset => Sys2Proof.Machine.execFabricResponse who upset s
  | .fabricTimeout who => Sys2Proof.Machine.execFabricTimeout who s
  | .gateCommit gate agent value compl => Sys2Proof.Machine.execGateCommit gate agent value compl s
  | .irqClrWrite agent page value hw => Sys2Proof.Machine.execIrqClrWrite agent page value hw s
  | .irqEnWrite agent page value => Sys2Proof.Machine.execIrqEnWrite agent page value s
  | .irqRouteWrite agent src value => Sys2Proof.Machine.execIrqRouteWrite agent src value s
  | .sgiSet agent value => Sys2Proof.Machine.execSgiSet agent value s
  | .sgiClr agent value => Sys2Proof.Machine.execSgiClr agent value s
  | .snapFire agent => Sys2Proof.Machine.execSnapFire agent s
  | .snapRearm agent fire => Sys2Proof.Machine.execSnapRearm agent fire s
  | .snapinRise => Sys2Proof.Machine.execSnapinRise s
  | .snapshotLatch => Sys2Proof.Machine.execSnapshotLatch s
  | .snapPageEnWrite agent word value => Sys2Proof.Machine.execSnapPageEnWrite agent word value s
  | .add core gd gs gt cf => Sys2Proof.Machine.execAdd core gd gs gt cf s
  | .adc core gd gs gt cf => Sys2Proof.Machine.execAdc core gd gs gt cf s
  | .sub core gd gs gt cf => Sys2Proof.Machine.execSub core gd gs gt cf s
  | .sbc core gd gs gt cf => Sys2Proof.Machine.execSbc core gd gs gt cf s
  | .and core gd gs gt cf => Sys2Proof.Machine.execAnd core gd gs gt cf s
  | .ior core gd gs gt cf => Sys2Proof.Machine.execIor core gd gs gt cf s
  | .xor core gd gs gt cf => Sys2Proof.Machine.execXor core gd gs gt cf s
  | .andn core gd gs gt cf => Sys2Proof.Machine.execAndn core gd gs gt cf s
  | .shl core gd gs gt cf => Sys2Proof.Machine.execShl core gd gs gt cf s
  | .shr core gd gs gt cf => Sys2Proof.Machine.execShr core gd gs gt cf s
  | .asr core gd gs gt cf => Sys2Proof.Machine.execAsr core gd gs gt cf s
  | .ror core gd gs gt cf => Sys2Proof.Machine.execRor core gd gs gt cf s
  | .cmplt core gd gs gt cf => Sys2Proof.Machine.execCmplt core gd gs gt cf s
  | .cmpltu core gd gs gt cf => Sys2Proof.Machine.execCmpltu core gd gs gt cf s
  | .gotor core gd gs gt cf => Sys2Proof.Machine.execGotor core gd gs gt cf s
  | .callr core gd gs gt cf => Sys2Proof.Machine.execCallr core gd gs gt cf s
  | .mul core gd gs gt cf => Sys2Proof.Machine.execMul core gd gs gt cf s
  | .mull core gd gs gt cf => Sys2Proof.Machine.execMull core gd gs gt cf s
  | .mullu core gd gs gt cf => Sys2Proof.Machine.execMullu core gd gs gt cf s
  | .div core gd gs gt cf => Sys2Proof.Machine.execDiv core gd gs gt cf s
  | .divu core gd gs gt cf => Sys2Proof.Machine.execDivu core gd gs gt cf s
  | .rem core gd gs gt cf => Sys2Proof.Machine.execRem core gd gs gt cf s
  | .remu core gd gs gt cf => Sys2Proof.Machine.execRemu core gd gs gt cf s
  | .csel core gd gs gt gc => Sys2Proof.Machine.execCsel core gd gs gt gc s
  | .par core gd gs cf => Sys2Proof.Machine.execPar core gd gs cf s
  | .brevW core gd gs cf => Sys2Proof.Machine.execBrevW core gd gs cf s
  | .brevB core gd gs cf => Sys2Proof.Machine.execBrevB core gd gs cf s
  | .bswap core gd gs cf => Sys2Proof.Machine.execBswap core gd gs cf s
  | .clz core gd gs cf => Sys2Proof.Machine.execClz core gd gs cf s
  | .crcstep core gd gs gt cf => Sys2Proof.Machine.execCrcstep core gd gs gt cf s
  | .crcfin core gd gs cf => Sys2Proof.Machine.execCrcfin core gd gs cf s
  | .addk core gd gs imm => Sys2Proof.Machine.execAddk core gd gs imm s
  | .andk core gd gs imm => Sys2Proof.Machine.execAndk core gd gs imm s
  | .iork core gd gs imm => Sys2Proof.Machine.execIork core gd gs imm s
  | .xork core gd gs imm => Sys2Proof.Machine.execXork core gd gs imm s
  | .hik core gd imm => Sys2Proof.Machine.execHik core gd imm s
  | .cmpltk core gd gs imm => Sys2Proof.Machine.execCmpltk core gd gs imm s
  | .ldw core gd gb seg imm upset => Sys2Proof.Machine.execLdw core gd gb seg imm upset s
  | .ldh core gd gb seg imm upset => Sys2Proof.Machine.execLdh core gd gb seg imm upset s
  | .ldhu core gd gb seg imm upset => Sys2Proof.Machine.execLdhu core gd gb seg imm upset s
  | .ldb core gd gb seg imm upset => Sys2Proof.Machine.execLdb core gd gb seg imm upset s
  | .ldbu core gd gb seg imm upset => Sys2Proof.Machine.execLdbu core gd gb seg imm upset s
  | .stw core gd gb seg imm upset => Sys2Proof.Machine.execStw core gd gb seg imm upset s
  | .sth core gd gb seg imm upset => Sys2Proof.Machine.execSth core gd gb seg imm upset s
  | .stb core gd gb seg imm upset => Sys2Proof.Machine.execStb core gd gb seg imm upset s
  | .breq core gs gt off => Sys2Proof.Machine.execBreq core gs gt off s
  | .brne core gs gt off => Sys2Proof.Machine.execBrne core gs gt off s
  | .brlt core gs gt off => Sys2Proof.Machine.execBrlt core gs gt off s
  | .brge core gs gt off => Sys2Proof.Machine.execBrge core gs gt off s
  | .brltu core gs gt off => Sys2Proof.Machine.execBrltu core gs gt off s
  | .brgeu core gs gt off => Sys2Proof.Machine.execBrgeu core gs gt off s
  | .goto core off => Sys2Proof.Machine.execGoto core off s
  | .call core off => Sys2Proof.Machine.execCall core off s
  | .loop0 core gs fin cnt => Sys2Proof.Machine.execLoop0 core gs fin cnt s
  | .loop1 core gs fin cnt => Sys2Proof.Machine.execLoop1 core gs fin cnt s
  | .lexit core imm => Sys2Proof.Machine.execLexit core imm s
  | .segld core gs imm => Sys2Proof.Machine.execSegld core gs imm s
  | .segrd core gd imm => Sys2Proof.Machine.execSegrd core gd imm s
  | .hold core imm => Sys2Proof.Machine.execHold core imm s
  | .release core => Sys2Proof.Machine.execRelease core s
  | .holdExpiry core => Sys2Proof.Machine.execHoldExpiry core s
  | .retx core => Sys2Proof.Machine.execRetx core s
  | .feat core gd imm => Sys2Proof.Machine.execFeat core gd imm s
  | .mfs core gd imm => Sys2Proof.Machine.execMfs core gd imm s
  | .mts core gs imm => Sys2Proof.Machine.execMts core gs imm s
  | .wait core => Sys2Proof.Machine.execWait core s
  | .fence core => Sys2Proof.Machine.execFence core s
  | .trap core imm => Sys2Proof.Machine.execTrap core imm s
  | .dclean core gb seg imm => Sys2Proof.Machine.execDclean core gb seg imm s
  | .dinv core gb seg imm => Sys2Proof.Machine.execDinv core gb seg imm s
  | .dflush core gb seg imm => Sys2Proof.Machine.execDflush core gb seg imm s
  | .iinv core gb seg imm => Sys2Proof.Machine.execIinv core gb seg imm s
  | .dcleanAll op => Sys2Proof.Machine.execDcleanAll op s
  | .dflushAll op => Sys2Proof.Machine.execDflushAll op s
  | .iinvAll op => Sys2Proof.Machine.execIinvAll op s
  | .interruptTaken core => Sys2Proof.Machine.execInterruptTaken core s
  | .alarmException core => Sys2Proof.Machine.execAlarmException core s
  | .storeError core => Sys2Proof.Machine.execStoreError core s
  | .coreRelease agent core => Sys2Proof.Machine.execCoreRelease agent core s
  | .coreResetWrite agent core srst => Sys2Proof.Machine.execCoreResetWrite agent core srst s
  | .sramRekey agent => Sys2Proof.Machine.execSramRekey agent s
  | .sramRekeyDone => Sys2Proof.Machine.execSramRekeyDone s
  | .sramBankZeroed bank => Sys2Proof.Machine.execSramBankZeroed bank s
  | .sramScrubStep bank word upset bin => Sys2Proof.Machine.execSramScrubStep bank word upset bin s
  | .keystoreDraw what => Sys2Proof.Machine.execKeystoreDraw what s
  | .ddrTrain agent => Sys2Proof.Machine.execDdrTrain agent s
  | .ddrTrainDone pass step lanes rank => Sys2Proof.Machine.execDdrTrainDone pass step lanes rank s
  | .ddrKey agent => Sys2Proof.Machine.execDdrKey agent s
  | .ddrMr4Poll codeA codeB => Sys2Proof.Machine.execDdrMr4Poll codeA codeB s
  | .ddrZqCalibration => Sys2Proof.Machine.execDdrZqCalibration s
  | .ddrDqsRetrain => Sys2Proof.Machine.execDdrDqsRetrain s
  | .msealInit agent => Sys2Proof.Machine.execMsealInit agent s
  | .msealInitDone => Sys2Proof.Machine.execMsealInitDone s
  | .msealLineRead agent addr upset => Sys2Proof.Machine.execMsealLineRead agent addr upset s
  | .msealLineWrite agent addr data upset => Sys2Proof.Machine.execMsealLineWrite agent addr data upset s
  | .msealMetadataWriteback bad => Sys2Proof.Machine.execMsealMetadataWriteback bad s
  | .flashKeyWrite agent chan value => Sys2Proof.Machine.execFlashKeyWrite agent chan value s
  | .flashProgram agent chan vinLow => Sys2Proof.Machine.execFlashProgram agent chan vinLow s
  | .flashEraseSector agent chan vinLow => Sys2Proof.Machine.execFlashEraseSector agent chan vinLow s
  | .flashSuspend agent chan => Sys2Proof.Machine.execFlashSuspend agent chan s
  | .flashResume agent chan => Sys2Proof.Machine.execFlashResume agent chan s
  | .flashBlankCheck agent chan => Sys2Proof.Machine.execFlashBlankCheck agent chan s
  | .flashMarginCheck agent chan => Sys2Proof.Machine.execFlashMarginCheck agent chan s
  | .flashSetRdp agent chan => Sys2Proof.Machine.execFlashSetRdp agent chan s
  | .flashRelock agent chan => Sys2Proof.Machine.execFlashRelock agent chan s
  | .flashProgramDone chan verified => Sys2Proof.Machine.execFlashProgramDone chan verified s
  | .flashEraseDone part => Sys2Proof.Machine.execFlashEraseDone part s
  | .flashCheckDone chan weak => Sys2Proof.Machine.execFlashCheckDone chan weak s
  | .flashScan => Sys2Proof.Machine.execFlashScan s
  | .flashSuspendTaken chan => Sys2Proof.Machine.execFlashSuspendTaken chan s
  | .flashAutoResume chan => Sys2Proof.Machine.execFlashAutoResume chan s
  | .flashIslandRequest => Sys2Proof.Machine.execFlashIslandRequest s
  | .rngStartupDone source samples => Sys2Proof.Machine.execRngStartupDone source samples s
  | .rngHealthFailure source apt => Sys2Proof.Machine.execRngHealthFailure source apt s
  | .rngConditionerOutput raw => Sys2Proof.Machine.execRngConditionerOutput raw s
  | .rngSeedComplete => Sys2Proof.Machine.execRngSeedComplete s
  | .rngRequest client => Sys2Proof.Machine.execRngRequest client s
  | .rngInstantiate => Sys2Proof.Machine.execRngInstantiate s
  | .rngReseed => Sys2Proof.Machine.execRngReseed s
  | .rngDataRead agent => Sys2Proof.Machine.execRngDataRead agent s
  | .rngLowpwr agent value compl => Sys2Proof.Machine.execRngLowpwr agent value compl s
  | .rngReseedCapWrite agent value => Sys2Proof.Machine.execRngReseedCapWrite agent value s
  | .keyLoad agent => Sys2Proof.Machine.execKeyLoad agent s
  | .keyUnwrap agent => Sys2Proof.Machine.execKeyUnwrap agent s
  | .keyGenerate agent => Sys2Proof.Machine.execKeyGenerate agent s
  | .keyDerive agent => Sys2Proof.Machine.execKeyDerive agent s
  | .keyExport agent => Sys2Proof.Machine.execKeyExport agent s
  | .keyRestrict agent => Sys2Proof.Machine.execKeyRestrict agent s
  | .keyZeroize agent => Sys2Proof.Machine.execKeyZeroize agent s
  | .keyZeroizeInst agent => Sys2Proof.Machine.execKeyZeroizeInst agent s
  | .keyRootGen agent => Sys2Proof.Machine.execKeyRootGen agent s
  | .keyCommandDone => Sys2Proof.Machine.execKeyCommandDone s
  | .keyClassDerive parityOk => Sys2Proof.Machine.execKeyClassDerive parityOk s
  | .keyClassReady => Sys2Proof.Machine.execKeyClassReady s
  | .keyCfgWrite agent value compl => Sys2Proof.Machine.execKeyCfgWrite agent value compl s
  | .keyBootOff agent => Sys2Proof.Machine.execKeyBootOff agent s
  | .keyInject agent value => Sys2Proof.Machine.execKeyInject agent value s
  | .keyInjectDone agent => Sys2Proof.Machine.execKeyInjectDone agent s
  | .pressSubmit unit agent value => Sys2Proof.Machine.execPressSubmit unit agent value s
  | .pressDescriptorFetch unit => Sys2Proof.Machine.execPressDescriptorFetch unit s
  | .pressQuantum unit fault => Sys2Proof.Machine.execPressQuantum unit fault s
  | .pressSegmentComplete unit => Sys2Proof.Machine.execPressSegmentComplete unit s
  | .pressContextSpill unit => Sys2Proof.Machine.execPressContextSpill unit s
  | .pressContextRestore unit => Sys2Proof.Machine.execPressContextRestore unit s
  | .pressSave unit => Sys2Proof.Machine.execPressSave unit s
  | .pressExport unit => Sys2Proof.Machine.execPressExport unit s
  | .pressImport unit => Sys2Proof.Machine.execPressImport unit s
  | .pressAbort unit => Sys2Proof.Machine.execPressAbort unit s
  | .pressGenivDraw unit => Sys2Proof.Machine.execPressGenivDraw unit s
  | .pressQuantumWrite unit agent which value => Sys2Proof.Machine.execPressQuantumWrite unit agent which value s
  | .digestSubmit unit agent value => Sys2Proof.Machine.execDigestSubmit unit agent value s
  | .digestDescriptorFetch unit => Sys2Proof.Machine.execDigestDescriptorFetch unit s
  | .digestQuantum unit fault => Sys2Proof.Machine.execDigestQuantum unit fault s
  | .digestSegmentComplete unit => Sys2Proof.Machine.execDigestSegmentComplete unit s
  | .digestContextSpill unit => Sys2Proof.Machine.execDigestContextSpill unit s
  | .digestContextRestore unit => Sys2Proof.Machine.execDigestContextRestore unit s
  | .digestSave unit => Sys2Proof.Machine.execDigestSave unit s
  | .digestAbort unit => Sys2Proof.Machine.execDigestAbort unit s
  | .digestKeystoreHash => Sys2Proof.Machine.execDigestKeystoreHash s
  | .staveClaim unit agent => Sys2Proof.Machine.execStaveClaim unit agent s
  | .staveClaimEnd unit agent => Sys2Proof.Machine.execStaveClaimEnd unit agent s
  | .staveMul unit => Sys2Proof.Machine.execStaveMul unit s
  | .staveMullo unit => Sys2Proof.Machine.execStaveMullo unit s
  | .staveShift unit => Sys2Proof.Machine.execStaveShift unit s
  | .staveLdacc unit => Sys2Proof.Machine.execStaveLdacc unit s
  | .staveStacc unit => Sys2Proof.Machine.execStaveStacc unit s
  | .staveRand unit => Sys2Proof.Machine.execStaveRand unit s
  | .staveRelease unit => Sys2Proof.Machine.execStaveRelease unit s
  | .staveListStart unit agent length => Sys2Proof.Machine.execStaveListStart unit agent length s
  | .staveListFetch unit => Sys2Proof.Machine.execStaveListFetch unit s
  | .staveAbort unit agent => Sys2Proof.Machine.execStaveAbort unit agent s
  | .staveClearingDone unit => Sys2Proof.Machine.execStaveClearingDone unit s
  | .staveRamAccessResume flight => Sys2Proof.Machine.execStaveRamAccessResume flight s
  | .stavelKeyld marked => Sys2Proof.Machine.execStavelKeyld marked s
  | .binEnable agent => Sys2Proof.Machine.execBinEnable agent s
  | .binReady => Sys2Proof.Machine.execBinReady s
  | .binOpen agent => Sys2Proof.Machine.execBinOpen agent s
  | .binPin agent => Sys2Proof.Machine.execBinPin agent s
  | .binUnpin agent => Sys2Proof.Machine.execBinUnpin agent s
  | .binRead agent => Sys2Proof.Machine.execBinRead agent s
  | .binWrite agent => Sys2Proof.Machine.execBinWrite agent s
  | .binIncr agent => Sys2Proof.Machine.execBinIncr agent s
  | .binClose agent => Sys2Proof.Machine.execBinClose agent s
  | .binCancel agent => Sys2Proof.Machine.execBinCancel agent s
  | .binSpill => Sys2Proof.Machine.execBinSpill s
  | .binFill => Sys2Proof.Machine.execBinFill s
  | .binFrameWaitServed => Sys2Proof.Machine.execBinFrameWaitServed s
  | .binEngineTransfer unit save => Sys2Proof.Machine.execBinEngineTransfer unit save s
  | .binInstanceClear inst => Sys2Proof.Machine.execBinInstanceClear inst s
  | .binQuotaWrite agent inst value => Sys2Proof.Machine.execBinQuotaWrite agent inst value s
  | .rdrFieldWrite chan agent value => Sys2Proof.Machine.execRdrFieldWrite chan agent value s
  | .rdrFullPowerGrant => Sys2Proof.Machine.execRdrFullPowerGrant s
  | .rdrFieldRampDone chan => Sys2Proof.Machine.execRdrFieldRampDone chan s
  | .rdrGuardEnd chan => Sys2Proof.Machine.execRdrGuardEnd chan s
  | .rdrAntennaFault chan => Sys2Proof.Machine.execRdrAntennaFault chan s
  | .rdrLoadWatch chan load => Sys2Proof.Machine.execRdrLoadWatch chan load s
  | .rdrCapWatch chan cap => Sys2Proof.Machine.execRdrCapWatch chan cap s
  | .rdrRound chan agent => Sys2Proof.Machine.execRdrRound chan agent s
  | .rdrActivate chan agent entry => Sys2Proof.Machine.execRdrActivate chan agent entry s
  | .rdrXchg chan agent entry => Sys2Proof.Machine.execRdrXchg chan agent entry s
  | .rdrRaw chan agent => Sys2Proof.Machine.execRdrRaw chan agent s
  | .rdrHalt chan agent entry => Sys2Proof.Machine.execRdrHalt chan agent entry s
  | .rdrForget chan agent entry => Sys2Proof.Machine.execRdrForget chan agent entry s
  | .rdrAbort chan agent => Sys2Proof.Machine.execRdrAbort chan agent s
  | .rdrFrameReceived chan data bits coll good => Sys2Proof.Machine.execRdrFrameReceived chan data bits coll good s
  | .rdrResponseTimeout chan => Sys2Proof.Machine.execRdrResponseTimeout chan s
  | .rdrPqHoldExpiry chan entry => Sys2Proof.Machine.execRdrPqHoldExpiry chan entry s
  | .tagPowerUp field reserve => Sys2Proof.Machine.execTagPowerUp field reserve s
  | .tagSupplyLoss step => Sys2Proof.Machine.execTagSupplyLoss step s
  | .tagInventory req afi maskLen mask => Sys2Proof.Machine.execTagInventory req afi maskLen mask s
  | .tagStayQuiet req => Sys2Proof.Machine.execTagStayQuiet req s
  | .tagReadSingleBlock req block => Sys2Proof.Machine.execTagReadSingleBlock req block s
  | .tagWriteSingleBlock req block value => Sys2Proof.Machine.execTagWriteSingleBlock req block value s
  | .tagReadMultipleBlocks req first more => Sys2Proof.Machine.execTagReadMultipleBlocks req first more s
  | .tagSelect req => Sys2Proof.Machine.execTagSelect req s
  | .tagResetToReady req => Sys2Proof.Machine.execTagResetToReady req s
  | .tagWriteAfi req value => Sys2Proof.Machine.execTagWriteAfi req value s
  | .tagWriteDsfid req value => Sys2Proof.Machine.execTagWriteDsfid req value s
  | .tagGetSystemInformation req => Sys2Proof.Machine.execTagGetSystemInformation req s
  | .tagGetMultipleBlockSecurity req first more => Sys2Proof.Machine.execTagGetMultipleBlockSecurity req first more s
  | .tagExtRead req block => Sys2Proof.Machine.execTagExtRead req block s
  | .tagExtWrite req block value => Sys2Proof.Machine.execTagExtWrite req block value s
  | .tagExtReadMultiple req first more => Sys2Proof.Machine.execTagExtReadMultiple req first more s
  | .tagExtGetSystemInformation req => Sys2Proof.Machine.execTagExtGetSystemInformation req s
  | .tinventory req afi maskLen mask => Sys2Proof.Machine.execTinventory req afi maskLen mask s
  | .trerand req => Sys2Proof.Machine.execTrerand req s
  | .tpassword req number value => Sys2Proof.Machine.execTpassword req number value s
  | .tchallenge req => Sys2Proof.Machine.execTchallenge req s
  | .tgetpwstat req => Sys2Proof.Machine.execTgetpwstat req s
  | .tlockblock req block => Sys2Proof.Machine.execTlockblock req block s
  | .tkill req value => Sys2Proof.Machine.execTkill req value s
  | .treaduid req => Sys2Proof.Machine.execTreaduid req s
  | .tagWriteCycleDone good => Sys2Proof.Machine.execTagWriteCycleDone good s
  | .tagQuietExpiry => Sys2Proof.Machine.execTagQuietExpiry s
  | .tagWireRead agent => Sys2Proof.Machine.execTagWireRead agent s
  | .tagWireWrite agent => Sys2Proof.Machine.execTagWireWrite agent s
  | .tagProtect agent => Sys2Proof.Machine.execTagProtect agent s
  | .tagSetpw agent => Sys2Proof.Machine.execTagSetpw agent s
  | .tagPwreset agent => Sys2Proof.Machine.execTagPwreset agent s
  | .tagConfig agent => Sys2Proof.Machine.execTagConfig agent s
  | .tagSeed agent => Sys2Proof.Machine.execTagSeed agent s
  | .tagHold agent => Sys2Proof.Machine.execTagHold agent s
  | .tagUnhold agent => Sys2Proof.Machine.execTagUnhold agent s
  | .tagKill agent => Sys2Proof.Machine.execTagKill agent s
  | .tagLockblock agent => Sys2Proof.Machine.execTagLockblock agent s
  | .tagI2cWrite block words => Sys2Proof.Machine.execTagI2cWrite block words s
  | .tagI2cRead block count => Sys2Proof.Machine.execTagI2cRead block count s
  | .cardActivate slot agent answer => Sys2Proof.Machine.execCardActivate slot agent answer s
  | .cardApdu slot agent line vfail => Sys2Proof.Machine.execCardApdu slot agent line vfail s
  | .cardWarm slot agent answer => Sys2Proof.Machine.execCardWarm slot agent answer s
  | .cardDeactivate slot agent => Sys2Proof.Machine.execCardDeactivate slot agent s
  | .cardAbort slot agent => Sys2Proof.Machine.execCardAbort slot agent s
  | .cardInsertion slot => Sys2Proof.Machine.execCardInsertion slot s
  | .cardRemoval slot => Sys2Proof.Machine.execCardRemoval slot s
  | .cardOvercurrent slot => Sys2Proof.Machine.execCardOvercurrent slot s
  | .cardAtrTimeout slot => Sys2Proof.Machine.execCardAtrTimeout slot s
  | .cardClockStop slot => Sys2Proof.Machine.execCardClockStop slot s
  | .sdcInit agent answer => Sys2Proof.Machine.execSdcInit agent answer s
  | .sdcRead agent data => Sys2Proof.Machine.execSdcRead agent data s
  | .sdcWrite agent upto pre ok vfail => Sys2Proof.Machine.execSdcWrite agent upto pre ok vfail s
  | .sdcSwitch agent answer => Sys2Proof.Machine.execSdcSwitch agent answer s
  | .sdcPowerOff agent => Sys2Proof.Machine.execSdcPowerOff agent s
  | .sdcAbort agent => Sys2Proof.Machine.execSdcAbort agent s
  | .sdcInsertion wp => Sys2Proof.Machine.execSdcInsertion wp s
  | .sdcRemoval => Sys2Proof.Machine.execSdcRemoval s
  | .sdcBusyTimeout => Sys2Proof.Machine.execSdcBusyTimeout s
  | .sdcRestore good => Sys2Proof.Machine.execSdcRestore good s
  | .jrnlAck agent slot => Sys2Proof.Machine.execJrnlAck agent slot s
  | .jrnlDiscard agent slot => Sys2Proof.Machine.execJrnlDiscard agent slot s
  | .jrnlScan => Sys2Proof.Machine.execJrnlScan s
  | .legalMbPost agent => Sys2Proof.Machine.execLegalMbPost agent s
  | .legalMbTake => Sys2Proof.Machine.execLegalMbTake s
  | .legalStatus => Sys2Proof.Machine.execLegalStatus s
  | .legalReading good => Sys2Proof.Machine.execLegalReading good s
  | .legalGetrec => Sys2Proof.Machine.execLegalGetrec s
  | .legalGetbook => Sys2Proof.Machine.execLegalGetbook s
  | .legalGetkey => Sys2Proof.Machine.execLegalGetkey s
  | .legalSettime => Sys2Proof.Machine.execLegalSettime s
  | .legalParam => Sys2Proof.Machine.execLegalParam s
  | .legalUpdateBegin => Sys2Proof.Machine.execLegalUpdateBegin s
  | .legalUpdateData => Sys2Proof.Machine.execLegalUpdateData s
  | .legalUpdateEnd => Sys2Proof.Machine.execLegalUpdateEnd s
  | .legalKeygen samples mask => Sys2Proof.Machine.execLegalKeygen samples mask s
  | .legalReset => Sys2Proof.Machine.execLegalReset s
  | .legalHarmonics => Sys2Proof.Machine.execLegalHarmonics s
  | .legalClearbook => Sys2Proof.Machine.execLegalClearbook s
  | .legalAppRequest code rsp => Sys2Proof.Machine.execLegalAppRequest code rsp s
  | .lflProgram vinLow => Sys2Proof.Machine.execLflProgram vinLow s
  | .lflEraseSector vinLow => Sys2Proof.Machine.execLflEraseSector vinLow s
  | .lflBlankCheck => Sys2Proof.Machine.execLflBlankCheck s
  | .afeBlockEnd block => Sys2Proof.Machine.execAfeBlockEnd block s
  | .lpulsePulse => Sys2Proof.Machine.execLpulsePulse s
  | .energySavePeriodic => Sys2Proof.Machine.execEnergySavePeriodic s
  | .lvwarnSave => Sys2Proof.Machine.execLvwarnSave s
  | .islandColdReset vbat => Sys2Proof.Machine.execIslandColdReset vbat s
  | .islandWarmReset cause => Sys2Proof.Machine.execIslandWarmReset cause s
  | .islandWatchdogExpiry => Sys2Proof.Machine.execIslandWatchdogExpiry s
  | .lcoreHaltTimeout => Sys2Proof.Machine.execLcoreHaltTimeout s
  | .islandStartScan => Sys2Proof.Machine.execIslandStartScan s
  | .islandClockFault => Sys2Proof.Machine.execIslandClockFault s
  | .islandClockResume => Sys2Proof.Machine.execIslandClockResume s
  | .legalSealAssert => Sys2Proof.Machine.execLegalSealAssert s
  | .legalSealRelease => Sys2Proof.Machine.execLegalSealRelease s
  | .alarmNotice => Sys2Proof.Machine.execAlarmNotice s
  | .lcChangeNotice => Sys2Proof.Machine.execLcChangeNotice s
  | .periodicRecord => Sys2Proof.Machine.execPeriodicRecord s
  | .lrtcSetcmd => Sys2Proof.Machine.execLrtcSetcmd s
  | .lrtcCompensation temp => Sys2Proof.Machine.execLrtcCompensation temp s
  | .medCreate agent pasid bins slots quantum queues flows => Sys2Proof.Machine.execMedCreate agent pasid bins slots quantum queues flows s
  | .medRemove agent arg => Sys2Proof.Machine.execMedRemove agent arg s
  | .medReset agent arg => Sys2Proof.Machine.execMedReset agent arg s
  | .medQuery agent arg => Sys2Proof.Machine.execMedQuery agent arg s
  | .hostFwAnswer agent value => Sys2Proof.Machine.execHostFwAnswer agent value s
  | .createTimeout => Sys2Proof.Machine.execCreateTimeout s
  | .teardownDrainLimit inst got => Sys2Proof.Machine.execTeardownDrainLimit inst got s
  | .instanceResetDone inst => Sys2Proof.Machine.execInstanceResetDone inst s
  | .instSrst agent inst => Sys2Proof.Machine.execInstSrst agent inst s
  | .sqDoorbell agent inst queue value => Sys2Proof.Machine.execSqDoorbell agent inst queue value s
  | .cqDoorbell agent inst queue value => Sys2Proof.Machine.execCqDoorbell agent inst queue value s
  | .hostSqFetch data => Sys2Proof.Machine.execHostSqFetch data s
  | .cplPost agent inst value => Sys2Proof.Machine.execCplPost agent inst value s
  | .hostDmaSubmit agent value => Sys2Proof.Machine.execHostDmaSubmit agent value s
  | .hostDmaComplete run data ok => Sys2Proof.Machine.execHostDmaComplete run data ok s
  | .hostCplTimeout run got => Sys2Proof.Machine.execHostCplTimeout run got s
  | .hostBarAccess bar off write value => Sys2Proof.Machine.execHostBarAccess bar off write value s
  | .pcieFlr => Sys2Proof.Machine.execPcieFlr s
  | .pcieLinkDown got => Sys2Proof.Machine.execPcieLinkDown got s
  | .pcieLinkUp speed width => Sys2Proof.Machine.execPcieLinkUp speed width s
  | .strmLinkUp => Sys2Proof.Machine.execStrmLinkUp s
  | .strmAlignmentLoss => Sys2Proof.Machine.execStrmAlignmentLoss s
  | .strmDataFrame frame => Sys2Proof.Machine.execStrmDataFrame frame s
  | .strmFrameEnd flow fault => Sys2Proof.Machine.execStrmFrameEnd flow fault s
  | .strmCreditFrame frame => Sys2Proof.Machine.execStrmCreditFrame frame s
  | .strmFrameStart => Sys2Proof.Machine.execStrmFrameStart s
  | .strmCreditReturn due => Sys2Proof.Machine.execStrmCreditReturn due s
  | .strmCreditStall => Sys2Proof.Machine.execStrmCreditStall s
  | .strmFlowAdd agent => Sys2Proof.Machine.execStrmFlowAdd agent s
  | .strmFlowPinGranted => Sys2Proof.Machine.execStrmFlowPinGranted s
  | .strmFlowRemove agent => Sys2Proof.Machine.execStrmFlowRemove agent s
  | .strmFlowRead agent => Sys2Proof.Machine.execStrmFlowRead agent s
  | .vineModeWrite port agent value => Sys2Proof.Machine.execVineModeWrite port agent value s
  | .vineLinkUp port polarity swap => Sys2Proof.Machine.execVineLinkUp port polarity swap s
  | .vineLinkDown port => Sys2Proof.Machine.execVineLinkDown port s
  | .vinePacketForward port pkt intact => Sys2Proof.Machine.execVinePacketForward port pkt intact s
  | .vineCreditPacket port req rsp msg ack nak intact => Sys2Proof.Machine.execVineCreditPacket port req rsp msg ack nak intact s
  | .vineHelloSend => Sys2Proof.Machine.execVineHelloSend s
  | .vineHelloReceive port serial id depth member up intact => Sys2Proof.Machine.execVineHelloReceive port serial id depth member up intact s
  | .vineJoin port lseq serial pref tag hops intact => Sys2Proof.Machine.execVineJoin port lseq serial pref tag hops intact s
  | .vineAssign port lseq id code tag hops intact => Sys2Proof.Machine.execVineAssign port lseq id code tag hops intact s
  | .vineLeave port lseq id intact => Sys2Proof.Machine.execVineLeave port lseq id intact s
  | .vineJanswer agent value => Sys2Proof.Machine.execVineJanswer agent value s
  | .vineJoinTimeout => Sys2Proof.Machine.execVineJoinTimeout s
  | .vineJoinRetry port => Sys2Proof.Machine.execVineJoinRetry port s
  | .vineRejoinHoldExpiry id => Sys2Proof.Machine.execVineRejoinHoldExpiry id s
  | .vineRread port lseq dst src tag off size intact => Sys2Proof.Machine.execVineRread port lseq dst src tag off size intact s
  | .vineRwrite port lseq dst src tag off size data intact => Sys2Proof.Machine.execVineRwrite port lseq dst src tag off size data intact s
  | .vineRresp port lseq dst src tag status data intact => Sys2Proof.Machine.execVineRresp port lseq dst src tag status data intact s
  | .vineMsgSend agent value => Sys2Proof.Machine.execVineMsgSend agent value s
  | .vineMsg port lseq dst src tag chan count payload intact => Sys2Proof.Machine.execVineMsg port lseq dst src tag chan count payload intact s
  | .vineMsgack port lseq dst src tag code intact => Sys2Proof.Machine.execVineMsgack port lseq dst src tag code intact s
  | .vineMsgTimeout agent => Sys2Proof.Machine.execVineMsgTimeout agent s
  | .vineSync port => Sys2Proof.Machine.execVineSync port s
  | .vineSyncack port roundTrip intact => Sys2Proof.Machine.execVineSyncack port roundTrip intact s
  | .vineTimeSend => Sys2Proof.Machine.execVineTimeSend s
  | .vineTimePacket port now intact => Sys2Proof.Machine.execVineTimePacket port now intact s
  | .timeSetcmd agent value => Sys2Proof.Machine.execTimeSetcmd agent value s
  | .timeNowRead agent => Sys2Proof.Machine.execTimeNowRead agent s
  | .timeCompareArm agent chan value => Sys2Proof.Machine.execTimeCompareArm agent chan value s
  | .timeCompareFire chan => Sys2Proof.Machine.execTimeCompareFire chan s
  | .vineSnapFire agent value => Sys2Proof.Machine.execVineSnapFire agent value s
  | .vineSnapreq port lseq intact => Sys2Proof.Machine.execVineSnapreq port lseq intact s
  | .vineSnap port no target intact => Sys2Proof.Machine.execVineSnap port no target intact s
  | .vineSnapTarget => Sys2Proof.Machine.execVineSnapTarget s
  | .twinPair agent => Sys2Proof.Machine.execTwinPair agent s
  | .twinPairTimeout => Sys2Proof.Machine.execTwinPairTimeout s
  | .twinHeartbeatSend => Sys2Proof.Machine.execTwinHeartbeatSend s
  | .twinHeartbeatReceive port payload intact peerPrimary => Sys2Proof.Machine.execTwinHeartbeatReceive port payload intact peerPrimary s
  | .twinMissWindow => Sys2Proof.Machine.execTwinMissWindow s
  | .twinTakeover => Sys2Proof.Machine.execTwinTakeover s
  | .twinSecondDecision agrees => Sys2Proof.Machine.execTwinSecondDecision agrees s
  | .twinFence => Sys2Proof.Machine.execTwinFence s
  | .twinHandover agent => Sys2Proof.Machine.execTwinHandover agent s
  | .twinHandoverComplete => Sys2Proof.Machine.execTwinHandoverComplete s
  | .twinRecord port lseq bytes intact => Sys2Proof.Machine.execTwinRecord port lseq bytes intact s
  | .twinRack port lseq seq intact => Sys2Proof.Machine.execTwinRack port lseq seq intact s
  | .twinJournalLag => Sys2Proof.Machine.execTwinJournalLag s
  | .twinResync => Sys2Proof.Machine.execTwinResync s
  | .twinSelfTest bit passed => Sys2Proof.Machine.execTwinSelfTest bit passed s
  | .twinHealthSend temp => Sys2Proof.Machine.execTwinHealthSend temp s
  | .twinHealthReceive port lseq payload intact => Sys2Proof.Machine.execTwinHealthReceive port lseq payload intact s
  | .twinHealthGap => Sys2Proof.Machine.execTwinHealthGap s
  | .twinMcntIncr agent => Sys2Proof.Machine.execTwinMcntIncr agent s
  | .tamperSourceRaise sources lit => Sys2Proof.Machine.execTamperSourceRaise sources lit s
  | .dualDecisionSecond which agrees other => Sys2Proof.Machine.execDualDecisionSecond which agrees other s
  | .tampResume agent => Sys2Proof.Machine.execTampResume agent s
  | .zeroizationDone => Sys2Proof.Machine.execZeroizationDone s
  | .vinDip => Sys2Proof.Machine.execVinDip s
  | .vinPowerDown => Sys2Proof.Machine.execVinPowerDown s
  | .tampLoopCheck loop high differs => Sys2Proof.Machine.execTampLoopCheck loop high differs s
  | .tampMeshCheck mesh bad => Sys2Proof.Machine.execTampMeshCheck mesh bad s
  | .tampTempSample temp beyond => Sys2Proof.Machine.execTampTempSample temp beyond s
  | .tampRespWrite agent src value => Sys2Proof.Machine.execTampRespWrite agent src value s
  | .tampLoopCfgWrite agent value => Sys2Proof.Machine.execTampLoopCfgWrite agent value s
  | .tampFuseprog agent value => Sys2Proof.Machine.execTampFuseprog agent value s
  | .bkpPowerUp valid => Sys2Proof.Machine.execBkpPowerUp valid s
  | .bkpFlagClear agent value => Sys2Proof.Machine.execBkpFlagClear agent value s
  | .vbatChangeover toVbat => Sys2Proof.Machine.execVbatChangeover toVbat s
  | .lcTransition agent value compl stuck => Sys2Proof.Machine.execLcTransition agent value compl stuck s
  | .lcPkrevokeSet agent value => Sys2Proof.Machine.execLcPkrevokeSet agent value s
  | .dbgChallenge agent => Sys2Proof.Machine.execDbgChallenge agent s
  | .dbgResponse agent => Sys2Proof.Machine.execDbgResponse agent s
  | .dbgResponseVerified => Sys2Proof.Machine.execDbgResponseVerified s
  | .dbgRevoke agent => Sys2Proof.Machine.execDbgRevoke agent s
  | .dbgHaltReq agent value => Sys2Proof.Machine.execDbgHaltReq agent value s
  | .dbgHaltTaken core => Sys2Proof.Machine.execDbgHaltTaken core s
  | .dbgStep agent value => Sys2Proof.Machine.execDbgStep agent value s
  | .dbgResume agent value => Sys2Proof.Machine.execDbgResume agent value s
  | .dbgCdataAccess agent write value => Sys2Proof.Machine.execDbgCdataAccess agent write value s
  | .dbgBreakpoint core branch => Sys2Proof.Machine.execDbgBreakpoint core branch s
  | .traceRecord drop => Sys2Proof.Machine.execTraceRecord drop s
  | .coldReset stuck => Sys2Proof.Machine.execColdReset stuck s
  | .warmReset => Sys2Proof.Machine.execWarmReset s
  | .tamperReset => Sys2Proof.Machine.execTamperReset s
  | .escalationReset => Sys2Proof.Machine.execEscalationReset s
  | .nrstAssert => Sys2Proof.Machine.execNrstAssert s
  | .rstSwrst agent value compl => Sys2Proof.Machine.execRstSwrst agent value compl s
  | .rstEscrst agent value compl => Sys2Proof.Machine.execRstEscrst agent value compl s
  | .wdogEnable agent => Sys2Proof.Machine.execWdogEnable agent s
  | .wdogKick agent value => Sys2Proof.Machine.execWdogKick agent value s
  | .wdogWarn => Sys2Proof.Machine.execWdogWarn s
  | .wdogExpiry => Sys2Proof.Machine.execWdogExpiry s
  | .bootSequence giveUp agree => Sys2Proof.Machine.execBootSequence giveUp agree s
  | .bootRetry => Sys2Proof.Machine.execBootRetry s
  | .powerUp lost => Sys2Proof.Machine.execPowerUp lost s
  | .powerUpRetry => Sys2Proof.Machine.execPowerUpRetry s
  | .railFault rail => Sys2Proof.Machine.execRailFault rail s
  | .powerFault rail => Sys2Proof.Machine.execPowerFault rail s
  | .pwrDomainOn agent domain => Sys2Proof.Machine.execPwrDomainOn agent domain s
  | .pwrDomainOff agent domain => Sys2Proof.Machine.execPwrDomainOff agent domain s
  | .pwrSwitchDone => Sys2Proof.Machine.execPwrSwitchDone s
  | .pwrRailctlBst agent on => Sys2Proof.Machine.execPwrRailctlBst agent on s
  | .pwrDramRailsUp agent => Sys2Proof.Machine.execPwrDramRailsUp agent s
  | .pwrDramRailsReady => Sys2Proof.Machine.execPwrDramRailsReady s
  | .pwrDramRailsDown agent => Sys2Proof.Machine.execPwrDramRailsDown agent s
  | .pwrVinAverage mV => Sys2Proof.Machine.execPwrVinAverage mV s
  | .vioSense bank level => Sys2Proof.Machine.execVioSense bank level s
  | .clkCoresel agent value => Sys2Proof.Machine.execClkCoresel agent value s
  | .clkCoreSwitchDone => Sys2Proof.Machine.execClkCoreSwitchDone s
  | .pllLockLoss pll => Sys2Proof.Machine.execPllLockLoss pll s
  | .clkMeasureDone kHz => Sys2Proof.Machine.execClkMeasureDone kHz s
  | .staveCommandEntry unit agent lo hi => Sys2Proof.Machine.execStaveCommandEntry unit agent lo hi s
  | .tagFieldChange present => Sys2Proof.Machine.execTagFieldChange present s
  | .cardTimeout slot => Sys2Proof.Machine.execCardTimeout slot s
  | .afeFault => Sys2Proof.Machine.execAfeFault s
  | .twfoPulseEnd => Sys2Proof.Machine.execTwfoPulseEnd s
  | .tamperSourceFall source => Sys2Proof.Machine.execTamperSourceFall source s
  | .pllLockReturn pll => Sys2Proof.Machine.execPllLockReturn pll s
  | .gpioPinChange pin level => Sys2Proof.Machine.execGpioPinChange pin level s
  | .nrstRelease => Sys2Proof.Machine.execNrstRelease s

end Sys2Proof.Machine
end

