-- ==== Sys2Proof/Machine/Tick.lean ====
section
/-!
DEFINITION. One cycle of the MAIN clock, 2 ns (R491): what passes with time alone. Every clock is taken at its
nominal rate, and its edges are counted from those of MAIN (notes/assumptions/47.md).
-/
namespace Sys2Proof.Machine

/-- Edges that fall into the MAIN cycle after the first `c`, of a clock with `num` edges in `den` MAIN cycles. -/
def edgesIn (c num den : Nat) : Nat := (c + 1) * num / den - c * num / den

/-- The clock of a core in MHz (R491, R493): while CORE switches over, its cores run on MAIN. -/
def State.coreMhz (s : State) (n : Nat) : Nat :=
  if n = 10 then 100
  else if 8 ≤ n || s.pwr.coreSwitching then 500
  else
    match fld (s.rg pCLK 0x100) 0 2 with
    | 0 => 1000
    | 1 => 750
    | 2 => 500
    | _ => 250

/-- `k` cycles of a core pass: CYCLE counts since release, and a hold counts down but in a debug halt (R65, R465). -/
def CoreSt.pass (c : CoreSt) (k : Nat) : CoreSt :=
  let d := { c with cycle := (c.cycle + k) % 2 ^ 64 }
  if !c.h || c.dbgHalt then d
  else if c.hcnt ≤ k then d.unhold
  else { d with hcnt := c.hcnt - k }

/-- The cores' clocks. -/
def State.coresPass (s : State) : State :=
  (List.range 11).foldl (fun (t : State) n =>
    if (t.core n).run = .reset then t
    else t.modCore n fun c => c.pass (edgesIn s.cycle (s.coreMhz n) 500)) s

/-- A millisecond of the watchdog's count (R512). -/
def State.wdogPass (s : State) : State :=
  if !s.en pWDOG || s.rst.wdogCount = 0 then s
  else if s.rst.wdogCount = 1 then s.wdogExpire
  else if s.rst.wdogCount - 1 = fld (s.rg pWDOG 0x10C) 0 16 then s.wdogWarn
  else s.modRst fun r => { r with wdogCount := r.wdogCount - 1 }

/-- Suspended erases grow older (R144). -/
def State.erasePass (s : State) : State :=
  let older (x : FlashChan) : FlashChan := if x.suspended then { x with age := x.age + 2 } else x
  { s with flash := { s.flash with chans := s.flash.chans.map older } }

/-- The walkers of a re-key pass one word in two cycles (R114). -/
def State.walkPass (s : State) : State :=
  if s.sram.walking && s.cycle % 2 == 1 then { s with sram := { s.sram with walked := min 65536 (s.sram.walked + 1) } } else s

/-- What always runs, VIN present or not: BTIME on the RTC clock, LRTC, and the count of cycles. -/
def State.clocksPass (s : State) : State :=
  { s with cycle := s.cycle + 1,
           tamp := { s.tamp with btime := (s.tamp.btime + edgesIn s.cycle 32768 500000000) % 2 ^ 48 },
           legal := s.legal.tick 2 }

/-- One MAIN cycle. Without VIN there is no MAIN clock. -/
def State.tick (s : State) : State :=
  if !s.tamp.vin then s.clocksPass
  else
    let s1 := (((s.latch).pairExpire (s.cycle + 1)).timeTick).coresPass
    let s2 := (if edgesIn s.cycle 1 500000 = 1 then s1.wdogPass else s1).erasePass.walkPass.unlessHalted fun t => t.strmServe.pairTry
    (if s2.tamp.twinWait ≠ 0 then s2.heartbeatSend else s2).settle.clocksPass

end Sys2Proof.Machine
end

