-- ==== Sys2Proof/Machine/Step.lean ====
section
/-!
DEFINITION. One step of the block: the command at the front of the queue, or a cycle of the clock.
-/
namespace Sys2Proof.Machine

/-- The state without the front of its queue. -/
def State.popped (s : State) : State := { s with pending := s.pending.tail }

/-- A step takes the command that waits longest and carries it out. With none waiting, one cycle of MAIN passes
(notes/assumptions/47.md). -/
def step (s : State) : Host.Outcome State Fault Refusal :=
  match s.pending with
  | [] => .next s.tick
  | c :: _ => exec c s.popped

/-- The state with the command that a table word spells at the front of its queue: no word of the table spells
one. -/
def State.withFetchWord (s : State) (nbits w : Nat) : State :=
  match Sys2Proof.decodeTableWord nbits w with
  | some c => { s with pending := c :: s.pending }
  | none => s

end Sys2Proof.Machine
end

