-- ==== Sys2Proof/Safety.lean ====
section
/-!
DEFINITION. What the claims about every state speak of: an access that its checks let pass, states in canonical
form, and what can only grow.
-/
namespace Sys2Proof.Safety

open Sys2Proof.Machine

/-- The state in which an agent's access to offset `off` of page `pg` reaches the page, if the agent issues it,
the range check and the gate let it pass (R22, R95–R99, R105, R340), nothing makes it wait (R100, R106, R164, R236), and
no upset and no timeout meets it. -/
def admitted (s : State) (a pg off : Nat) (k : AccKind) : Option State :=
  if !s.issues a || s.pageWaits a (pageBase pg + off) k then none
  else
    match s.busAdmits a (pageBase pg + off) 4 k (issuedOrder a) .none with
    | .yes t _ _ _ false false .none => some t
    | _ => none

/-- An aligned 32-bit write of an agent reaches offset `off` of page `pg`, in state `t`, and the twin's ring has taken
every change noted before (R430). -/
structure Writes (s t : State) (a : AgentId) (pg off : Nat) : Prop where
  pass : admitted s a.toNat pg off .write = some t
  ring : t.changes = []

/-- A read likewise. -/
structure Reads (s t : State) (a : AgentId) (pg off : Nat) : Prop where
  pass : admitted s a.toNat pg off .read = some t
  ring : t.changes = []

/-- An agent's access of `n` bytes is served at once, whatever the upset `u` of the command does to it (R22, R95–R99,
R105, R106). -/
def Served (s : State) (a : AgentId) (addr n : Nat) (k : AccKind) (u : Upset) : Prop :=
  ∃ t c o m, s.busAdmits a.toNat addr n k (issuedOrder a.toNat) u = .yes t c o m false false u

/-- The state with the write of a paired register held pending (R6). -/
def withPair (t : State) (a : AgentId) (pg off : Nat) (v : Word) : State :=
  ({ t with pairs := t.pairs ++ [{ key := rkey pg off, agent := a.toNat, value := v, deadline := t.cycle + 32 }] }
    : State).setPort a.toNat {}

/-- An agent writes a paired register of which no write is pending, then its partner one word up: the second write
reaches the page in state `u`. -/
structure Pairs (s u : State) (a : AgentId) (pg off : Nat) (v : Word) : Prop where
  first : ∃ t, Writes s t a pg off ∧ t.pairOf (rkey pg off) = none ∧ Writes (withPair t a pg off v) u a pg (off + 4)

/-- An agent writes CTRL with bits added to what it holds, then the complement. -/
abbrev CtrlBits (s u : State) (a : AgentId) (pg : Nat) (bits : Word) : Prop := Pairs s u a pg 0x10 (s.ctrlPlus pg bits)

/-- No register but those of the listed keys differs. -/
def regsBut (s t : State) (ks : List Nat) : Prop := ∀ pg off, rkey pg off ∉ ks → t.rg pg off = s.rg pg off

/-- An agent's access was answered without a fault. -/
def ok (t : State) (a : AgentId) : Prop := (t.port a.toNat).fault = .none

/-- A flash channel's command has completed: CODE, CMD and COUNT of CHc_RESULT, and the interrupt (R139). -/
def FlashDone (x : State) (c cmd code count : Nat) : Prop :=
  x.rg pFLASH (chanReg c 0x11C) = wd (code + 256 * cmd + 65536 * count + 2 ^ 31) ∧ bitAt (x.rg pFLASH 0x20) c = true

/-- A flash channel takes a command of its owner: it is unlocked and runs no program, check, erase or lowering (R138,
R141, R149). -/
structure FlashIdle (t : State) (c : Nat) (a : AgentId) : Prop where
  unlocked : (t.flash.chan c).unlock = 2 ∧ (t.flash.chan c).owner = a.toNat
  idle : (t.flash.chan c).prog = none ∧ (t.flash.chan c).check = none ∧ (t.flash.chan c).erase = none
  free : (t.flash.chan c).lowers = false

/-- The state row of a sector that does not govern, the older one (R142). -/
def olderRow (f : FlashSt) (sec : Nat) : SectRow :=
  let r := tget ({}, {}) f.rows sec
  if firstGoverns r then r.2 else r.1

/-- Own work of the device of `len` bytes takes a place of unit `u`, of domain `d`, and runs there at once: a place is
free, no other context of the unit is ready, and one quantum takes it all (R183, R202, R226). -/
structure OwnRuns (s : State) (w : OwnWork) (u d len : Nat) : Prop where
  on : s.pdOn d = true
  fresh : s.ownAt w = none
  place : ∃ k, (s.unit u).freePlace = some k ∧ ∀ g ∈ (s.unit u).segs, g.ctx ≠ some k
  running : (s.unit u).resetting = false
  idle : (s.unit u).pick = none
  quantum : len ≤ s.quantum u 0x7F

/-- KEY.RESULT while a management command runs (R178). -/
def keyBusy (t : State) (cmd : Nat) : State := t.setRg pKEY 0x124 (wd (256 * cmd + 2 ^ 30))

/-- KCORE writes a command code to KEY.CMD while none runs (R178), in state `t`; class keys are ready and no twin
replicates. -/
structure KeyTakes (s t : State) (a : AgentId) : Prop where
  kcore : a.toNat = aKCORE
  write : Writes s t a pKEY 0x108
  idle : t.key.run = none
  ready : t.key.classReady = true
  alone : t.twinRepl = false

/-- A management command has run to a code that KEY.RESULT will report (R178, R179); `target` is the slot it filled. -/
def KeyRan (t x : State) (a : AgentId) (cmd code : Nat) (target : Option Nat) : Prop :=
  ok x a ∧ x.key.run = some { cmd := cmd, code := some code, target := target } ∧
  x.rg pKEY 0x124 = wd (256 * cmd + 2 ^ 30) ∧ regsBut t x [rkey pKEY 0x124]

/-- A write of SUBMIT is answered and judged: ALIGN, DISABLED, FULL, or queued with the submitter and what a digest
unit keeps of EXPECT (R194, R216). -/
def UnitSubmits (u : Nat) (row : AgentId → Word → Instr) : Prop :=
  ∀ (s t : State) (a : AgentId) (v : Word) (code : Nat), Writes s t a (unitPage u) 0x104 →
    code = (if fld v 0 5 ≠ 0 then 2 else if t.en (unitPage u) = false then 3
      else if 64 ≤ (t.unit u).queue.length then 1 else 0) →
    ∃ x, exec (row a v) s = .next x ∧ ok x a ∧ x.arg a.toNat (unitPage u) 0x108 = wd (code + 2 ^ 31) ∧
      (code ≠ 0 → x.units = t.units) ∧
      (code = 0 → x.unit u = { t.unit u with queue := (t.unit u).queue ++ [{
        addr := v.toNat + fld (t.arg a.toNat (unitPage u) 0x100) 0 8 * 2 ^ 32, agent := a.toNat,
        expect := if u < 4 then [] else
          (List.range 16).flatMap fun i => leBytes 4 (t.arg a.toNat (unitPage u) (0x180 + 4 * i)).toNat }] }) ∧
      (∀ w, w ≠ u → x.unit w = t.unit w) ∧ x = { t with units := x.units, aregs := x.aregs, ports := x.ports }

/-- A unit is free to work: not tamper-halted, and no clearing of a block reset waits in it (R210, R270). -/
structure UnitWorks (s : State) (u : Nat) : Prop where
  running : s.tamp.halted = false
  resetting : (s.unit u).resetting = false
  unbin : (s.unit u).unbin = false

/-- No frame of the stream port waits for its Press unit and no pair blob is being opened (R190, R422). -/
structure NoOwnWork (s : State) : Prop where
  pairing : s.twin.pairing = none
  frames : ∀ y ∈ s.strm.frames, y.stage ≠ 3

/-- A command that reached memory left nothing to journal, and none of its accesses has to wait. -/
def Went (s t : State) : Prop := t.changes = [] ∧ t.held = s.held

/-- A refused fetch drops the job's outcome: ERR.DESC, the interrupt and the first such address (R194). -/
def UnitDrops (u : Nat) (row : Instr) : Prop :=
  ∀ (s : State) (q : QEntry) (rest : List QEntry) (m : MemAns), UnitWorks s u → (s.unit u).queue = q :: rest →
    q.desc = none → m = s.engRead q.agent q.addr (descLen u) → m.fault ≠ .none → Went s m.st →
    m.st.rbit (unitPage u) 0x1C 17 = false →
    ∃ x, exec row s = .next x ∧ (x.unit u).queue = rest ∧ (x.unit u).segs = (s.unit u).segs ∧
      bitAt (x.rg (unitPage u) 0x1C) 17 = true ∧ bitAt (x.rg (unitPage u) 0x20) 2 = true ∧
      x.rg (unitPage u) 0x12C = wd q.addr ∧ x = { m.st with units := x.units, regs := x.regs }

/-- A segment that ended before it ran leaves the unit, with its outcome written by the submitter's ID and counted
(R196, R200); RESULT.OPEN says whether its job is still open, and CONSUMED what that job has taken. -/
def UnitReports (u : Nat) (row : Instr) : Prop :=
  ∀ (s : State) (g : Segment) (c : Nat) (y : State), UnitWorks s u → (s.unit u).due = some g →
    g.code = some c → c < 13 → g.ctx = none → g.dropped = false →
    s.writeResult u g (s.segConsumed u g) (s.openAfter u g) = (y, true) → Went s y →
    exec row s = .next ((y.dropSeg u g).countDone u g)

/-- A segment that ended its job (R196): the job's context is cleared first (R208), poisoned after a fault of a binned one
(R207); then the outcome is written and counted. -/
def UnitFails (u : Nat) (row : Instr) : Prop :=
  ∀ (s t y : State) (g : Segment) (c k : Nat), UnitWorks s u → (s.unit u).due = some g → g.code = some c →
    endsJob c = true → g.ctx = some k → (tfind (s.unit u).ctxs k).isSome = true → g.dropped = false →
    s.clearJob u (some k) (descBin g.desc) g.stamp (c == 16 && (descBin g.desc).isSome) = (t, true) →
    t.writeResult u g (t.segConsumed u g) (t.openAfter u g) = (y, true) → Went s y →
    exec row s = .next ((y.dropSeg u g).countDone u g) ∧
      (c ≠ 16 ∨ descBin g.desc = none → tfind (t.unit u).ctxs k = none) ∧
      (c = 16 → descBin g.desc ≠ none → ((t.unit u).ctx k).poisoned = true ∧ ((t.unit u).ctx k).mats = none)

/-- The first descriptor of a unit's queue is at hand, read now with its submitter's ID or earlier, which leaves state `t`
(R194, R201). -/
structure HeadRead (s t : State) (u : Nat) (q : QEntry) (rest : List QEntry) (d : List Byte) : Prop where
  works : UnitWorks s u
  first : (s.unit u).queue = q :: rest
  read : (q.desc = some d ∧ t = s) ∨
    ∃ m, q.desc = none ∧ m = s.engRead q.agent q.addr (descLen u) ∧ m.fault = .none ∧ t = m.st ∧ d = m.data
  went : Went s t

/-- A mismatch of the duplicated computation ends the segment with FAULT, sets the error and the interrupt and raises the
alarm (R207, R223). -/
def UnitFaults (u alarm : Nat) (row : Instr) : Prop :=
  ∀ (s : State) (k : Nat) (g : Segment), UnitWorks s u → NoOwnWork s → (s.unit u).pick = some (k, g) →
    g.own = none → (((s.unit u).ctx k).mats).isSome = true → s.changes = [] →
    ∃ x, exec row s = .next x ∧ { g with code := some 16, total := ((s.unit u).ctx k).consumed } ∈ (x.unit u).segs ∧
      bitAt (x.rg (unitPage u) 0x1C) 16 = true ∧ bitAt (x.rg (unitPage u) 0x20) 1 = true ∧
      bitAt (x.rg pBKP 0x100) alarm = true

/-- Every queued descriptor of a unit has been fetched. -/
def UnitRead (s : State) (u : Nat) : Prop := ∀ q ∈ (s.unit u).queue, q.desc.isSome = true

/-- An idle binned context frees its place for a waiting segment (R201, R222): it goes to its bin without its key
material, and is counted. -/
def UnitSpills (u : Nat) (row : Instr) : Prop :=
  ∀ (s : State) (k b : Nat), UnitWorks s u → UnitRead s u → s.placeWanted u = true → (s.unit u).freePlace = none →
    (s.unit u).lruIdle = some (k, b) → ((s.unit u).ctx k).bin = some b → (s.binRec b).st ≠ .cold → s.changes = [] →
    ∃ x, exec row s = .next x ∧ tfind (x.unit u).ctxs k = none ∧
      x.savedCtx u b = some { (s.unit u).ctx k with mats := none } ∧ (x.unit u).segs = (s.unit u).segs ∧
      x = { s with units := x.units, bin := x.bin, regs := x.regs } ∧ regsBut s x [rkey (unitPage u) 0x118]

/-- A saved context that the oldest waiting segment names takes a free place, with the key material that one use of its
key gives (R201, R204, R222). -/
def UnitRestores (u : Nat) (row : Instr) : Prop :=
  ∀ (s : State) (k b : Nat) (q : QEntry) (rest : List QEntry) (d : List Byte) (c : Ctx)
    (m : Option (List Byte × List Byte)), UnitWorks s u → UnitRead s u → (s.unit u).queue = q :: rest →
    q.desc = some d → descBin d = some b → (unitDesc u d).first = false → (unitDesc u d).op < 0x10 →
    (s.unit u).freePlace = some k → s.savedCtx u b = some c → s.restoreMats u c = (m, true) →
    (s.binRec b).st = .hot → s.changes = [] →
    ∃ x, exec row s = .next x ∧ (x.unit u).ctx k = { c with mats := m, used := (s.unit u).stamp } ∧
      x.savedCtx u b = none ∧ (x.unit u).segs = (s.unit u).segs ∧
      x = { s with units := x.units, bin := x.bin, regs := x.regs } ∧ regsBut s x [rkey (unitPage u) 0x11C]

/-- SAVE moves a context to its bin and completes OK; without a context it completes NO_CTX (R205, R222). -/
def UnitSaves (u : Nat) (row : Instr) : Prop :=
  ∀ (s : State) (g : Segment) (b : Nat), UnitWorks s u → (s.unit u).ctxCmd 0x10 = some g →
    b = (unitDesc u g.desc).bin → s.changes = [] →
    (∀ k, (s.unit u).placeOf b = some k → ((s.unit u).ctx k).bin = some b → ((s.unit u).ctx k).poisoned = false →
      (s.binRec b).st ≠ .cold → ∃ x, exec row s = .next x ∧
        { g with code := some 0, ctx := none } ∈ (x.unit u).segs ∧ tfind (x.unit u).ctxs k = none ∧
        x.savedCtx u b = some { (s.unit u).ctx k with mats := none } ∧ x = { s with units := x.units, bin := x.bin }) ∧
    ((s.unit u).placeOf b = none → s.savedCtx u b = none → s.noCtxCode u b = 5 → ∃ x, exec row s = .next x ∧
      { g with code := some 5 } ∈ (x.unit u).segs ∧ x = { s with units := x.units })

/-- ABORT of a context: its other segments end, and after the overwriting draw it is gone, on chip and in its bin; then the
command completes OK (R205, R208, R224). -/
def UnitAborts (u : Nat) (row : Instr) : Prop :=
  ∀ (s t : State) (g : Segment) (b k : Nat), UnitWorks s u →
    (s.unit u).segs.find? (fun h => h.code.isNone && (unitDesc u h.desc).op == 0x13) = some g →
    b = (unitDesc u g.desc).bin → (s.unit u).placeOf b = some k →
    s.clearJob u (some k) (some b) g.stamp false = (t, true) → (s.binRec b).st ≠ .free → Went s t →
    exec row s = .next (t.setSeg u g.stamp { g with code := some 0, ctx := none }) ∧
      tfind (t.unit u).ctxs k = none ∧ t.savedCtx u b = none

/-- A reader's running command `u` has completed with a code: BUSY is down and DONE is up (R280, R282). -/
def RdrEnds (x : State) (n : Nat) (u : RdrRun) (code : Nat) : Prop :=
  (x.rdr n).run = none ∧ fld (x.rg (pRDR n) 0x124) 0 8 = code ∧
  (u.cmd < 16 → u.entry < 64 → u.low.getD 0 < 64 →
    bitAt (x.rg (pRDR n) 0x124) 31 = true ∧ bitAt (x.rg (pRDR n) 0x124) 30 = false)

/-- One measurement of a watch that runs: the first sets the baseline field at bit `lo`, a change beyond the threshold
sets DETECT, its interrupt and its count, a return clears it, and what stays within tracks 1/256 of the difference
(R278, R279). -/
def Watched (n : Fin 8) (lo m : Nat) (beyond : Nat → Prop) (row : Instr) (s : State) : Prop :=
  ∃ x base, exec row s = .next x ∧ base = fld (s.rg (pRDR n) 0x10C) lo 16 ∧
    fld (x.rg (pRDR n) 0x10C) (16 - lo) 16 = fld (s.rg (pRDR n) 0x10C) (16 - lo) 16 ∧
    ((s.rdr n).baseDue = true → fld (x.rg (pRDR n) 0x10C) lo 16 = m ∧
      x.rdr n = { s.rdr n with baseDue := false }) ∧
    ((s.rdr n).baseDue = false → beyond base → (x.rdr n).detect = true ∧
      ((s.rdr n).detect = true → x = s) ∧
      ((s.rdr n).detect = false → bitAt (x.rg (pRDR n) 0x20) 1 = true ∧
        x.rg (pRDR n) 0x10C = s.rg (pRDR n) 0x10C ∧ x.rg (pRDR n) 0x16C ≠ 0)) ∧
    ((s.rdr n).baseDue = false → ¬ beyond base → (x.rdr n).detect = false ∧
      ((s.rdr n).detect = true → x.rg (pRDR n) 0x10C = s.rg (pRDR n) 0x10C) ∧
      ((s.rdr n).detect = false →
        (fld (x.rg (pRDR n) 0x10C) lo 16 : Int) = (base : Int) + ((m : Int) - (base : Int)) / 256)) ∧
    x = { s with rdrs := x.rdrs, regs := x.regs }

/-- A request of the RF side that the island answers: supplied, in a field, not killed, its CRC good, none of the RF
side's own changes under way, no two subcarriers, meant for the island, and with no option that is not supported
(R295, R299–R305). -/
structure TagTakes (s : State) (q : TagReq) : Prop where
  heard : s.tagHears q = true
  flags : q.flags.getLsbD 0 = false ∧ q.flags.getLsbD 2 = false ∧ q.flags.getLsbD 6 = false
  mine : s.tag.mine q = true

/-- The RF side answers with bytes: the answer is counted while the main chip is powered, and nothing differs from `t`
but the answer and the island's counters. -/
def TagSays (t x : State) (bs : List Byte) : Prop :=
  x.tag = { t.tag with answer := some bs } ∧ regsBut t x [rkey pTAG 0x134, rkey pTAG 0x138, rkey pTAG 0x13C] ∧
  x = { t with tag := x.tag, regs := x.regs }

/-- A contact slot's running command `u` has completed (R316, R317). -/
def CardEnds (x : State) (n : Nat) (u : CardRun) (code : Nat) : Prop :=
  (x.card n).run = none ∧ x.rg (pCARD n) 0x118 = wd (code + 256 * u.cmd + flagAt (u.left == 2) 16 + 2 ^ 31) ∧
  bitAt (x.rg (pCARD n) 0x20) 0 = true

/-- The SD slot's running command `r` has completed (R322). -/
def SdEnds (x : State) (r : SdRun) (code : Nat) : Prop :=
  x.sdc.run = none ∧ x.rg pSDC 0x11C = wd (code + 256 * r.cmd + flagAt (2 ≤ r.stage) 16 + 2 ^ 31) ∧
  bitAt (x.rg pSDC 0x20) 0 = true

/-- CLOSE of the open record at `a` of a slot is programmed with an outcome, and no other byte is (R326). -/
def JrnlClosed (t x : State) (slot outcome a : Nat) : Prop :=
  x.jrnl = { t.jrnl with opens := tdel t.jrnl.opens slot } ∧ x.wsAt (a + 64) = 0 ∧
  memByte x.ddr x.mem (a + 64) = BitVec.ofNat 8 outcome ∧
  ∀ y, (y < a + 64 ∨ a + 80 ≤ y) → memByte x.ddr x.mem y = memByte t.ddr t.mem y

/-- Bytes of flash have been programmed: they read back, their code words are PROGRAMMED, no other byte of memory
differs. -/
def FlashPut (t x : State) (a : Nat) (bs : List Byte) : Prop :=
  x.flashBytes a bs.length = bs ∧ (∀ i, i < bs.length / 16 → x.wsAt (a + 16 * i) = 0) ∧
  ∀ y, (y < a ∨ a + bs.length ≤ y) → memByte x.ddr x.mem y = memByte t.ddr t.mem y

/-- The island's flash sectors can be read, programmed and erased now (R143, R145, R147). -/
def LflFree (s : State) : Prop := s.flashWaits 0x10380000 = false

/-- A mailbox request has ended: MB_RSP, MB_RESULT and IRQ_RAW.DONE (R363); no other register differs from `t`. -/
def MbEnds (t x : State) (code : Nat) (rsp : List Byte) : Prop :=
  x.legal.mb = 0 ∧ x.rg pLEGAL 0x134 = wd (code + at' t.legal.mbAgent 8 + at' rsp.length 16 + 2 ^ 31) ∧
  (∀ k, 4 * k < rsp.length → x.rg pLEGAL (0x800 + 4 * k) = wordOf (fitTo 4 (rsp.drop (4 * k)))) ∧
  bitAt (x.rg pLEGAL 0x20) 0 = true

/-- It has ended with nothing else changed. -/
def MbAnswers (t x : State) (code : Nat) (rsp : List Byte) : Prop :=
  MbEnds t x code rsp ∧ x = { t with regs := x.regs, legal := { t.legal with mb := 0 } } ∧
  ∀ pg off, rkey pg off ∉ [rkey pLEGAL 0x134, rkey pLEGAL 0x20] →
    (rkey pg off < rkey pLEGAL 0x800 ∨ rkey pLEGAL 0x800 + rsp.length ≤ rkey pg off) → x.rg pg off = t.rg pg off

/-- LCORE serves a request of a code (R364). -/
structure MbHolds (s : State) (code len : Nat) : Prop where
  taken : s.legal.mb = 2
  code : s.mbCode = code
  len : s.mbLen = len

/-- A cellar-book entry has been programmed after the last (R361). -/
def Booked (t x : State) (kind : Nat) (audited : Bool) (old new arg : Nat) : Prop :=
  FlashPut t x (0x103E0000 + 32 * t.legal.bookNo) (t.legal.bookEntry t.islandLc kind audited old new arg) ∧
  x.legal.bookNo = t.legal.bookNo + 1 ∧ x.legal.ovfNext = false

/-- An event entry, where `t` is the state beside the book: written while more than 64 entries are free, and otherwise
counted and named (R362). -/
def EventBooked (t x : State) (kind old new arg : Nat) : Prop :=
  (t.legal.bookNo < 4032 → Booked t x kind false old new arg ∧
    x.legal = { t.legal with bookNo := t.legal.bookNo + 1, ovfNext := false } ∧ x = { t with legal := x.legal, mem := x.mem, flash := x.flash }) ∧
  (4032 ≤ t.legal.bookNo → x = { t with
    legal := { t.legal with bookOvf := min 0xFFFF (t.legal.bookOvf + 1), ovfNext := true, ovfRec := true } })

/-- A reading record has been made (R358–R360): 128 bytes, then r and s of a signature under d over their hash; it
stands in the ring at its place, whose sector was erased when it was entered, and its number is used up. -/
def RecordMade (s x : State) (typ : Nat) (context d bs : List Byte) : Prop :=
  (∃ k, 1 ≤ k ∧ k < p256.n ∧ bs = s.recordBody typ context (keyId d) ++
    beBytes 32 (p256.sign (sha256.hash (s.recordBody typ context (keyId d))) (beNat d) k).1 ++
    beBytes 32 (p256.sign (sha256.hash (s.recordBody typ context (keyId d))) (beNat d) k).2) ∧
  FlashPut (s.ringEnter 230 85 s.legal.recPos) x (recordBase s.legal.recPos) bs ∧
  x.legal.recno = s.legal.recno + 1 ∧ x.legal.recPos = (s.legal.recPos + 1) % 1360 ∧ x.legal.recCut = false ∧
  x.legal.ovfRec = false ∧ bitAt (x.rg pLEGAL 0x20) 3 = true

/-- An energy journal entry has been written at the ring's place (R350). -/
def EnergySaved (s x : State) (cause : Nat) : Prop :=
  (∃ b, b = [0x4C, 0x45, 0x01, BitVec.ofNat 8 cause] ++ leBytes 4 s.legal.jseq ++
      (s.legal.energy.flatMap fun e => leBytes 8 e.1) ++ leBytes 4 (s.legal.time / 65536) ∧
    FlashPut (s.ringEnter 246 256 s.legal.jpos) x (0x103D8000 + 64 * s.legal.jpos) (b ++ leBytes 4 (crc32 b))) ∧
  x.legal = { s.legal with jseq := (s.legal.jseq + 1) % 2 ^ 32, jpos := (s.legal.jpos + 1) % 512 } ∧
  x = { s with legal := x.legal, mem := x.mem, flash := x.flash }

/-- The island has taken a warm reset (R339, R361): LCORE is held, island SRAM cleared, the DSP, energies, LPULSE, LRTC
and calibration go on as they were, and the book names the cause. -/
structure IslandWarm (s x : State) (cause : Nat) : Prop where
  starting : x.legal.mstate = 0 ∧ x.legal.mb = 0
  lcore : (x.core 10).run = .reset ∧ ∀ n, n < 10 → x.core n = s.core n
  sram : ∀ y, 0x26010000 ≤ y → y < 0x26020000 → memByte x.ddr x.mem y = 0
  kept : x.legal.energy = s.legal.energy ∧ x.legal.pulseAcc = s.legal.pulseAcc ∧ x.legal.dsp = s.legal.dsp ∧
    x.legal.time = s.legal.time ∧ x.legal.audit = s.legal.audit ∧ x.legal.key = s.legal.key
  pages : ∀ off, keepsWarm (rkey pAFE off) = true → off < 0x1000 → x.rg pAFE off = s.rg pAFE off
  entry : s.legal.bookNo < 4032 → x.legal.bookNo = s.legal.bookNo + 1 ∧
    x.flashBytes (0x103E0000 + 32 * s.legal.bookNo) 32 = s.legal.bookEntry s.islandLc 3 false 0 0 cause

/-- The mediator has filled MED_CMD and its arguments and writes 1 to MED_DOOR, which reaches HOST in state `t`, where
they stand as written (R370); no twin replicates. -/
structure MedPosts (s t : State) (a : AgentId) (cmd : Nat) (args : List Word) : Prop where
  door : Writes (s.medFill a.toNat cmd args) t a pHOST 0x824
  cmd : t.rg pHOST 0x800 = wd cmd
  args : ∀ i, i < args.length → t.medArg i = args.getD i 0
  alone : t.twinRepl = false

/-- A command of the mediator has completed: MED_RESULT, MED_RSP, none running (R370). -/
def MedEnds (x : State) (cmd code : Nat) (rsp : List Word) : Prop :=
  x.host.med = none ∧ x.rg pHOST 0x828 = wd (code + 256 * cmd + 2 ^ 31) ∧
  ∀ i, i < 8 → x.rg pHOST (0x82C + 4 * i) = rsp.getD i 0

/-- An MSI-X vector was sent, or is pending while masked (R365, R376). -/
def MsixSent (t x : State) (vec : Nat) : Prop :=
  let w (k : Nat) : Word := tget (if k = 3 then 1 else 0) t.host.msix (4 * vec + k)
  ((w 3).getLsbD 0 = true → vec ∈ x.host.pba ∧ x.host.out = t.host.out) ∧
  ((w 3).getLsbD 0 = false → x.host.pba = t.host.pba ∧ x.host.out = t.host.out ++
    [{ pasid := none, addr := (w 0).toNat + (w 1).toNat * 2 ^ 32, data := leBytes 4 (w 2).toNat }])

/-- A teardown of an instance has begun (R380): its state, and none of its descriptors is queued. -/
def TornDown (x : State) (nn st : Nat) : Prop :=
  (x.inst nn).st = st ∧ (x.inst nn).limit = false ∧ ∀ d ∈ x.host.queue, d.inst ≠ nn

/-- None of the accesses that a teardown of an instance makes has to wait. -/
def Tears (u : State) (nn st : Nat) : Prop := (u.teardown nn st).held = u.held

/-- A Vine packet that arrived intact, in its order, at a TREE port whose link is up, and that the port carries (R404,
R411) has been taken, which leaves state `t`. -/
structure VArrives (s t : State) (n : Nat) (k : VPkt) : Prop where
  up : s.vUp n = true ∧ s.vMode n = 1
  carried : (s.vport n).state ≠ 4 ∨ k.body.onRedundant = true
  taken : s.vTake n k true = (t, true)
  ring : t.changes = []

/-- A packet is on its way out of a port: sent, or waiting for credits of its class (R403). -/
def VSent (x : State) (n : Nat) (b : VBody) : Prop :=
  (∃ k ∈ (x.vport n).sent, k.body = b) ∨ ∃ w ∈ (x.vport n).wait, w.pkt.body = b

/-- A port takes packets to send: its link is up and it is not REDUNDANT. -/
def VOpen (s : State) (n : Nat) : Prop := s.vUp n = true ∧ (s.vport n).state ≠ 4

/-- A packet of R424 that arrived intact and in its order at the TWIN port has been taken, which leaves state `t`, its
credits returned. -/
structure TwinArrives (s t : State) (n : Nat) (k : VPkt) : Prop where
  up : s.vUp n = true ∧ s.vMode n = 2
  taken : ∃ u, s.vTake n k true = (u, true) ∧ t = u.vReturn (some n) k
  ring : t.changes = []

/-- The device serves alone (R423): it journals nothing, and a manager whose Vine is enabled is the root. -/
def ServesAlone (x : State) : Prop :=
  x.twin.state = 3 ∧ x.twinRepl = false ∧ x.changes = [] ∧ (x.en pVINE = true → x.role = 2 → x.vMember = true)

/-- The state after an access that was answered without a fault. -/
def answered (t : State) (a : AgentId) : State := t.setPort a.toNat {}

/-- A core takes its next instruction (R43, R77, R467): it runs or waits with something to wake it, nothing comes
first at the boundary, no breakpoint stops it, and its fetch is answered, which leaves state `t`. -/
structure Issues (s t : State) (n : Nat) : Prop where
  live : s.coreLive n = true
  free : (s.core n).await = none
  first : s.boundary n = none
  awake : s.asleep n = false
  unbroken : ∀ b, s.breakpoint n b = s
  fetch : (s.modCore n fun c => { c with run := .run }).fetchOnce n = (t, .ok)
  unheld : t.held = none
  running : (t.core n).run = .run

/-- Where an instruction that does not jump leaves its core (R46, R49, R81): past a delay slot at the resolved target,
else at the successor where no loop ends here. -/
structure Passed (c d : CoreSt) : Prop where
  slot : ∀ x, c.slot = some x → d.pc = x ∧ d.slot = none
  next : c.slot = none → c.loopAt c.pc = none → d.pc = c.kept.getD (c.pc + 4) ∧ d.slot = none

/-- All of `d` is as in `c` but its general registers and the fields that say where it runs. -/
def regsOnly (c d : CoreSt) : Prop :=
  d = { c with g := d.g, pc := d.pc, la0 := d.la0, la1 := d.la1, lcount0 := d.lcount0, lcount1 := d.lcount1,
               slot := d.slot, kept := d.kept, closed := d.closed, got := d.got, fetched := d.fetched,
               shadow := d.shadow, last := d.last, dbgStep := d.dbgStep }

/-- Nothing of `u` but core `n` differs from `t`. -/
def coreOnly (t u : State) (n : Nat) : Prop :=
  u = { t with cores := u.cores } ∧ ∀ m, m ≠ n → u.core m = t.core m

/-- A dirty line of core `n` is written back (R69, R70, R73), `c` being the core then, `r` what its access answers: no
interrupt record of an earlier store error stands, and no stronger ordering is delivered. -/
structure WroteBack (c : CoreSt) (t : State) (n line : Nat) (d : DLine) (r : BusAns) : Prop where
  ans : r = (t.setCore n c).access (t.coreAgent n) (64 * line) 64 .write d.data d.order .none
  core : r.ans.st.core n = c
  went : Went t r.ans.st
  first : r.ans.st.rbit (pCORE n) 0x11C 31 = false

/-- The lines of a .ALL operation of core `n` are done, `c` being the core before: it runs on, at the same place, and
nothing is left to journal or to wait for. -/
structure LinesDone (c : CoreSt) (v : State) (n : Nat) : Prop where
  runs : (v.core n).run = c.run
  went : v.changes = [] ∧ v.held = none

/-- An instruction of core `n` wrote `v` to the register that field `d` names, where g0 discards it (R42), and nothing
else. -/
structure Wrote (t u : State) (n : Nat) (d : BitVec 5) (v : Word) : Prop where
  value : (u.core n).gr d.toNat = if d = 0 then 0 else v
  others : ∀ r, r < 32 → r ≠ d.toNat → (u.core n).gr r = (t.core n).gr r
  rest : regsOnly (t.core n) (u.core n)
  passed : Passed (t.core n) (u.core n)
  frame : coreOnly t u n

/-- Instruction `i` of core `n` completes wherever the core takes it and writes the value `v` of its core to register
`d` alone. -/
def Computes (n : Nat) (d : BitVec 5) (v : CoreSt → Word) (i : Instr) : Prop :=
  ∀ s t : State, Issues s t n → ∃ u, exec i s = .next u ∧ Wrote t u n d (v (t.core n))

/-- Every check of an ordinary entry passes (R78): the vector and its handler's descriptor are read, the handler is
executable, g30 is aligned, and the frame is written, which leaves state `u`. The vector names `pc`, segment `g` and
the hold. -/
def Enters (s u : State) (n : Nat) (e : Exc) (pc : Word) (g : Seg) (hold : Nat) : Prop :=
  (s.core n).xdepth < 8 ∧ fld ((s.core n).gr 30) 0 4 = 0 ∧ g.null = false ∧ g.x = true ∧
  ∃ r t k, s.coreTable n ((s.rg (pCORE n) 0x124).toNat + fld (s.rg (pCORE n) 0x128) 0 8 * 2 ^ 32 + 8 * vectorOf e.code)
      8 .read [] = r ∧ r.code = 0 ∧ vectorBad (wordOf r.data) (wordOf (r.data.drop 4)) = none ∧
    pc = wordOf r.data ∧ hold = fld (wordOf (r.data.drop 4)) 16 12 ∧
    r.st.loadDesc n (fld (wordOf (r.data.drop 4)) 0 12) = (t, .ok g, k) ∧
    t.frameWrite n 2 ((s.core n).gr 30 - 0x60) ((s.core n).frame e e.code 0 0) = (u, true)

/-- What an ordinary entry leaves of its core (R78, R79): `c` is the core as the exception found it. -/
structure Entered (c d : CoreSt) (e : Exc) (pc : Word) (g : Seg) (hold : Nat) : Prop where
  pc : d.pc = pc
  seg : d.seg 0 = g
  depth : d.xdepth = c.xdepth + 1
  stack : d.gr 30 = c.gr 30 - 0x60
  regs : ∀ r, r < 32 → r ≠ 30 → d.gr r = c.gr r
  loops : d.la0 = false ∧ d.la1 = false
  hold : d.hcnt = (if hold = 0 then c.hcnt else if c.h then min c.hcnt hold else hold) ∧ d.h = (c.h || hold != 0)
  ledger : d.ledger = { h := c.h, hcnt := c.hcnt } :: c.ledger
  prio : d.iprio = if e.code = 1 then e.prio else c.iprio
  runs : d.run = .run ∧ d.slot = none ∧ d.closed = false
  flags : d.c = c.c ∧ d.v = c.v

/-- A core runs or waits, so that an alarm reaches it (R442). -/
def awake (s : State) (n : Nat) : Bool := (s.core n).run == .run || (s.core n).run == .wait

/-- What R441 and R442 make of every dispatch, `s` being the state it finds: the flags, LAST_SRC and LAST_RESP, the page
source, one log entry for each source, a snapshot trigger, the notice to the legal island, the second decision due. -/
structure Dispatched (s x : State) (srcs r : Nat) : Prop where
  flags : x.rg pBKP 0x100 = s.rg pBKP 0x100 ||| wd srcs
  last : x.rg pTAMP 0x188 = wd srcs ∧ x.rg pTAMP 0x18C = wd r ∧ bitAt (x.rg pTAMP 0x20) 0 = true
  entries : x.tamp.logSeq = (s.tamp.logSeq + (srcsOf srcs).length) % 0x10000
  snap : x.snapPend = s.snapPend ||| 4
  notice : x.notices = s.notices ++ [(r + if srcs % 0x10000 = 0 then 0 else 8) % 16]
  second : x.tamp.first = some (srcs, r)

/-- A response not more severe than the one under way leaves the machine as it runs. -/
structure Unmoved (s x : State) : Prop where
  cores : x.cores = s.cores
  rst : x.rst = s.rst
  keys : x.key = s.key ∧ x.mem = s.mem ∧ x.units = s.units ∧ x.staves = s.staves
  tamp : x.tamp.resp = s.tamp.resp ∧ x.tamp.halted = s.tamp.halted ∧ x.tamp.zeroizing = s.tamp.zeroizing ∧
    x.tamp.lockdown = s.tamp.lockdown

/-- What zeroization leaves (R444): no key, no battery byte, no hot frame, no context, no operand. -/
structure Zeroized (x : State) : Prop where
  keys : x.key.slots = [] ∧ x.key.run = none ∧ x.tamp.batRam = [] ∧ x.tamp.batMask = List.replicate 32 0
  frames : ∀ a, 0x23000000 ≤ a → a < 0x23040000 → memByte x.ddr x.mem a = 0
  contexts : ∀ u, (x.unit u).ctxs = [] ∧ (x.unit u).running = none
  staves : ∀ n, n < 4 → (x.stave n).acc = 0

/-- A response takes effect on top of the one under way (R441, R442): each includes the less severe ones. -/
structure Responds (s x : State) (r : Nat) : Prop where
  none : r = 0 ∨ (r = 1 ∧ s.tamp.resp ≠ 0) ∨ (2 ≤ r ∧ r ≤ s.tamp.resp) → Unmoved s x
  irq : r = 1 → s.tamp.resp = 0 → ∀ n, n < 10 →
    x.core n = if s.rbit pTAMP 0x180 n && awake s n then { s.core n with pendAlarm := true } else s.core n
  raised : 2 ≤ r → s.tamp.resp < r → x.tamp.resp = r ∧ (awake s 9 = true → (x.core 9).pendAlarm = true)
  halt : 2 ≤ r → s.tamp.resp < 2 → x.tamp.halted = true ∧ ∀ n, n < 9 → awake s n = true → (x.core n).run = .halted
  reset : 3 ≤ r → s.tamp.resp < r → x.rst.asked.testBit 9 = true
  zeroize : 4 ≤ r → s.tamp.resp < 4 → x.tamp.zeroizing = true ∧ Zeroized x
  lock : 5 ≤ r → s.tamp.resp < r → x.tamp.lockdown = true

/-- Sources are raised while VIN is present; on an ACTIVE twin HALT and stronger wait for the heartbeat (R429). -/
structure Alarmed (s x : State) (srcs r : Nat) : Prop where
  dispatched : Dispatched s x srcs r
  waits : s.twin.state = 2 → 2 ≤ r → Unmoved s x ∧ x.tamp.twinWait = max s.tamp.twinWait r
  responds : s.twin.state ≠ 2 ∨ r < 2 → Responds s x r

/-- One source is raised on VBAT (R446): its flag, its entry, the battery keys cleared for ZEROIZE and LOCKDOWN, the
rest deferred. -/
structure VbatAlarm (s x : State) (src r : Nat) : Prop where
  flag : x.rg pBKP 0x100 = s.rg pBKP 0x100 ||| wd (2 ^ src)
  entry : tget [] x.tamp.log (fld (s.rg pBKP 0x118) 0 5) =
    [wd (src + 256 * r + (if 1 ≤ r ∧ r ≤ 4 then 4096 else 0) + 8192 + 65536 * (s.tamp.logSeq % 65536)),
     wd s.tamp.btime, wd (nfld s.tamp.btime 32 16), 0]
  head : fld (x.rg pBKP 0x118) 0 5 = (fld (s.rg pBKP 0x118) 0 5 + 1) % 32
  deferred : x.rg pBKP 0x104 =
    if 1 ≤ r ∧ r ≤ 4 then wd (2 ^ 31 + max (fld (s.rg pBKP 0x104) 0 3) r) else s.rg pBKP 0x104
  battery : (4 ≤ r → x.tamp.batRam = [] ∧ ∀ e ∈ x.key.slots, 32 ≤ e.1) ∧
    (r < 4 → x.tamp.batRam = s.tamp.batRam ∧ x.key = s.key)
  lock : x.tamp.lockdown = (s.tamp.lockdown || decide (5 ≤ r))
  cores : x.cores = s.cores ∧ x.rst = s.rst ∧ x.tamp.resp = s.tamp.resp

/-- The VBAT copies agree with RESP0, RESP1, RESP9–13 and LOOP_CFG (R446). -/
def Shadowed (x : State) : Prop :=
  (∀ i ∈ [0, 1, 9, 10, 11, 12, 13], x.vbatResp i = x.respOf i) ∧
  fld (x.rg pBKP 0x12C) 28 4 = fld (x.rg pTAMP 0x198) 8 4 ∧ x.rg pBKP 0x130 = wd (fld (x.rg pTAMP 0x198) 0 8)

/-- Loop `n` runs on VBAT (R439). -/
def loopOnVbat (s : State) (n : Nat) : Prop :=
  bitAt (s.rg pBKP 0x12C) (28 + n) = true ∧ fld (s.rg pBKP 0x130) (2 * n) 2 ≠ 0

/-- Every anti-fuse that is blown in `s` is blown in `t` (R447, R451, R453, R455, R463). -/
structure FusesKept (s t : State) : Prop where
  groups : ∀ k i, (s.lc.groups.getD k 0).testBit i = true → (t.lc.groups.getD k 0).testBit i = true
  revoked : ∀ i, s.lc.pkRevoke.testBit i = true → t.lc.pkRevoke.testBit i = true
  fuseCfg : ∀ i, s.tamp.fuseCfg.testBit i = true → t.tamp.fuseCfg.testBit i = true
  epochs : s.tamp.epochFuses ≤ t.tamp.epochFuses

end Sys2Proof.Safety
end

