-- ==== Sys2Proof/WellFormed.lean ====
section
/-!
DEFINITION. Which commands are well formed: operands that are lists have the length the spec gives them, and
operands that are wider than what they stand for are in range. Every other operand is in range by its type.
-/
namespace Sys2Proof

/-- An access size: 1, 2 or 4 bytes. -/
def sizeOk (n : Nat) : Bool := n == 1 || n == 2 || n == 4

/-- A request to the tag is addressed by a 64-bit identifier, or by none (R295). -/
def TagReq.ok (q : TagReq) : Bool := q.uid.length == 0 || q.uid.length == 8

/-- A card's answer to reset has 2 to 33 bytes (ISO/IEC 7816-3, notes/assumptions/36.md). -/
def CardAtr.ok (a : CardAtr) : Bool := decide (2 ≤ a.bytes.length ∧ a.bytes.length ≤ 33)

/-- A card identification register has 16 bytes (R319). -/
def SdInit.ok (a : SdInit) : Bool := a.cid.length == 16

/-- An AFE block measures four AC voltages and currents, and 40 harmonics of each AC channel (R348). -/
def AfeBlock.ok (b : AfeBlock) : Bool := b.urms.length == 4 && b.irms.length == 4 && b.harm.length == 8 &&
  b.harm.all fun h => h.length == 40

/-- What a Vine packet carries fits its body (R402, R414, R425, R430). -/
def VBody.ok (b : VBody) : Bool :=
  match b with
  | .msg _ _ n p => p.length == n && decide (n ≤ 1024)
  | .twin _ _ p => decide (p.length ≤ 1056)
  | _ => true

/-- A command whose operands have the lengths and ranges that the spec gives them. -/
def Instr.wellFormed (i : Instr) : Bool :=
  match i with
  | .registerWrite _ _ size _ => sizeOk size.toNat
  | .fabricRequest _ _ size how data _ =>
    decide (0 < size.val) && (if how.kind = .write then data.length == size.val else data.length == 0)
  | .msealLineRead _ addr _ => addr.toNat % 64 == 0
  | .msealLineWrite _ addr data _ => addr.toNat % 64 == 0 && data.length == 64
  | .rngStartupDone _ samples => samples.length == 1024
  | .rngConditionerOutput raw => raw.length == 512
  | .legalKeygen samples mask => samples.length == 2048 && mask.length == 64
  | .rdrFrameReceived _ data _ _ _ => decide (data.length ≤ 1024)
  | .tagInventory q _ n _ | .tinventory q _ n _ => q.ok && decide (n.toNat ≤ 64)
  | .tagStayQuiet q | .tagReadSingleBlock q _ | .tagWriteSingleBlock q _ _ | .tagReadMultipleBlocks q _ _
  | .tagSelect q | .tagResetToReady q | .tagWriteAfi q _ | .tagWriteDsfid q _ | .tagGetSystemInformation q
  | .tagGetMultipleBlockSecurity q _ _ | .tagExtRead q _ | .tagExtWrite q _ _ | .tagExtReadMultiple q _ _
  | .tagExtGetSystemInformation q | .trerand q | .tpassword q _ _ | .tchallenge q | .tgetpwstat q
  | .tlockblock q _ | .tkill q _ | .treaduid q => q.ok
  | .tagI2cWrite _ words => decide (0 < words.length)
  | .cardActivate _ _ (some a) | .cardWarm _ _ (some a) => a.ok
  | .sdcInit _ (some a) => a.ok
  | .afeBlockEnd b => b.ok
  | .hostSqFetch (some d) => d.length == 64
  | .strmDataFrame f => decide (36 ≤ f.length)
  | .strmCreditFrame f => decide (36 ≤ f.length)
  | .vinePacketForward _ k _ => k.body.ok
  | .vineRread _ _ _ _ _ _ size _ | .vineRwrite _ _ _ _ _ _ size _ _ => sizeOk size.val
  | .vineMsg _ _ _ _ _ _ _ p _ => decide (p.length ≤ 1024)
  | .twinHeartbeatReceive _ p _ _ => p.length == 32
  | .twinRecord _ _ b _ => decide (32 ≤ b.length ∧ b.length ≤ 1056)
  | .twinHealthReceive _ _ p _ => decide (p.length ≤ 1056)
  | _ => true

end Sys2Proof
end

