-- ==== Sys2Proof/Certificates/Slice0/Obligations.lean ====
section
/-!
DEFINITION. The statements about the machine, chapter by chapter of the spec, and the words they are said in. A
statement about a command gives the state its effect is seen against: `s` for a command that no agent writes, and for
a register access the state `t` in which it reaches its page (`Safety.Writes`).
-/
open Sys2Proof Sys2Proof.Machine Sys2Proof.Safety


/-! ### The machine -/

/-- A step carries out the command that has waited longest. -/
def Obligations.StepRunsFront : Prop :=
  ∀ (s : State) (c : Instr) (rest : List Instr),
    s.pending = c :: rest → step s = exec c { s with pending := rest }

/-- The tick of an empty queue (DESIGN CHOICE, notes/assumptions/47.md). -/
def Obligations.IdleTick : Prop :=
  ∀ s : State, s.pending = [] → s.tamp.vin = true → s.tamp.twinWait = 0 →
    ∃ t, step s = .next t ∧ t.cycle = s.cycle + 1 ∧ t.pending = [] ∧
      (s.pairs = [] → s.changes = [] → NoOwnWork s → t.snapPend = 0) ∧
      (∀ p ∈ t.pairs, s.cycle + 1 < p.deadline) ∧
      (s.time.run = true → s.time.rate = 0 → -1000000000 < s.time.frac → s.time.frac < 1000000000 →
        t.now = (s.now + 2) % 2 ^ 64) ∧
      (s.pairs = [] → s.changes = [] → NoOwnWork s → t.mem = s.mem)

/-- What reset leaves (R9, R471, R486). -/
def Obligations.ResetState : Prop :=
  State.reset.pending = [] ∧ (State.reset.core 9).run = .run ∧ (State.reset.core 9).pc = 0 ∧
  (State.reset.core 9).agent = some 0x11 ∧ (∀ n, n ≠ 9 → (State.reset.core n).run = .reset ∧ (State.reset.core n).agent = none) ∧
  State.reset.lc.groups = [0, 0, 0, 0] ∧ State.reset.lcState = 0 ∧ State.reset.role = 0 ∧ State.reset.snapArmed = true ∧
  (∀ d, d < 56 → State.reset.pdOn d = [0, 1, 2, 11, 12, 21, 24, 25, 26, 27, 28, 29, 30, 31, 35, 48, 53].contains d) ∧
  State.reset.ddr.trained = false ∧ State.reset.ddr.keyed = false ∧ State.reset.mem = [] ∧
  (∀ pg off, State.reset.rg pg off = regCold (rkey pg off)) ∧
  State.reset.rg pWDOG 0x100 = 1000 ∧ State.reset.rg (pGATE 7) 0x100 = 0 ∧ State.reset.rg pIRQ 0x100 = 0

/-- The canonical form of memory holds at reset. -/
def Obligations.MemoryCanonicalAtReset : Prop := memWf State.reset.ddr State.reset.mem = true

/-- The canonical form of memory is kept by every step. -/
def Obligations.MemoryCanonicalKept : Prop :=
  ∀ s t : State, memWf s.ddr s.mem = true → step s = .next t → memWf t.ddr t.mem = true

/-- Anti-fuses are one-time (R447, R451, R453, R455, R463). -/
def Obligations.FusesStayBlown : Prop := ∀ s t : State, step s = .next t → FusesKept s t

/-! ### Register pages, interrupts, snapshots -/

/-- Widths and alignments of a register access (R3). -/
def Obligations.RegisterWidth : Prop :=
  ∀ (s : State) (a : AgentId) (v : Word) (pg : Fin 320),
    (∀ t, Writes s t a pg 0x24 → (pageKind pg).isSome = true →
      (∀ n, pageKind pg = some (.inst n) → instOf a.toNat = none) →
      ∃ u, exec (.registerWrite a (BitVec.ofNat 40 (pageBase pg + 0x24)) 4 v) s = .next u ∧
        u.rg pg 0x24 = v ∧ (u.port a.toNat).fault = .none) ∧
    (∀ (addr : Addr) (size : BitVec 8) (c o : Nat) (b : Bool) (t : State), pageOfAddr addr.toNat = some pg.val →
      s.issues a.toNat = true →
      s.busAdmits a.toNat addr.toNat size.toNat .write (issuedOrder a.toNat) .none = .yes t c o b false false .none →
      s.pageWaits a.toNat addr.toNat .write = false → (size ≠ 4 ∨ addr.toNat % 4 ≠ 0) →
      ∃ u, exec (.registerWrite a addr size v) s = .next u ∧ (u.port a.toNat).fault = .access ∧
        bitAt (u.rg pg 0x1C) 4 = true ∧ u = { t with regs := u.regs, ports := u.ports } ∧
        (∀ q off, rkey q off ≠ rkey pg 0x1C → u.rg q off = t.rg q off))

/-- The plain registers of the common chapter (R8, R29, R30, R35, R36, R38, R41). -/
def Obligations.PlainRegisters : Prop :=
  ∀ (s t : State) (a : AgentId) (v w : Word) (pg : Fin 320) (kd : PageKind), pageKind pg = some kd →
    (Writes s t a pg 0x30 → (∀ n, kd = .inst n → instOf a.toNat = none) →
      ∃ u, exec (.lockSet a pg v) s = .next u ∧ u.rg pg 0x30 = (t.rg pg 0x30 ||| (v &&& lockBits kd)) ∧
        (u.port a.toNat).fault = .none ∧ (∀ q off, rkey q off ≠ rkey pg 0x30 → u.rg q off = t.rg q off) ∧
        u = { t with regs := u.regs, ports := u.ports }) ∧
    (Writes s t a pg 0x24 → (∀ n, kd = .inst n → instOf a.toNat = none) →
      ∃ u, exec (.irqEnWrite a pg v) s = .next u ∧ u.rg pg 0x24 = v ∧ (u.port a.toNat).fault = .none ∧
        (∀ q off, rkey q off ≠ rkey pg 0x24 → u.rg q off = t.rg q off) ∧
        u = { t with regs := u.regs, ports := u.ports }) ∧
    (Writes s t a pg 0x2C → (∀ n, kd = .inst n → instOf a.toNat = none) →
      ∃ u, exec (.irqClrWrite a pg v w) s = .next u ∧ u.rg pg 0x20 = ((t.rg pg 0x20 &&& ~~~ v) ||| w) ∧
        (u.port a.toNat).fault = .none ∧ (∀ q off, rkey q off ≠ rkey pg 0x20 → u.rg q off = t.rg q off) ∧
        u = { t with regs := u.regs, ports := u.ports }) ∧
    (∀ (n off : Nat) (i : Instr), kd = .inst n → (instOf a.toNat).isSome = true →
      (off, i) ∈ [(0x30, Instr.lockSet a pg v), (0x24, .irqEnWrite a pg v), (0x2C, .irqClrWrite a pg v 0),
        (0x24, .registerWrite a (BitVec.ofNat 40 (pageBase pg + 0x24)) 4 v)] → Writes s t a pg off →
      ∃ u, exec i s = .next u ∧ (u.port a.toNat).fault = .none ∧ bitAt (u.rg pg 0x1C) 3 = true ∧
        (∀ q o, rkey q o ≠ rkey pg 0x1C → u.rg q o = t.rg q o) ∧
        u = { t with regs := u.regs, ports := u.ports }) ∧
    (∀ src : Fin 320, a.toNat = aMCORE → Writes s t a pIRQ (0x100 + 4 * src) → bitAt (t.rg pIRQ 0x30) 0 = false →
      ∃ u, exec (.irqRouteWrite a src v) s = .next u ∧ (u.port a.toNat).fault = .none ∧
        u.rg pIRQ (0x100 + 4 * src) =
          (if 188 ≤ src.val ∧ src.val ≤ 191 then t.rg pIRQ (0x100 + 4 * src) else v &&& 0x000F03FF) ∧
        (∀ q off, rkey q off ≠ rkey pIRQ (0x100 + 4 * src) → u.rg q off = t.rg q off) ∧
        u = { t with regs := u.regs, ports := u.ports }) ∧
    (Writes s t a pIRQ 0x680 →
      ∃ u, exec (.sgiSet a v) s = .next u ∧ (∀ i : Fin 32, u.srcLevel i = (t.srcLevel i || bitAt v i)) ∧
        (∀ q off, rkey q off ≠ rkey pIRQ 0x680 → u.rg q off = t.rg q off) ∧
        u = { t with regs := u.regs, ports := u.ports }) ∧
    (Writes s t a pIRQ 0x684 →
      ∃ u, exec (.sgiClr a v) s = .next u ∧ (∀ i : Fin 32, u.srcLevel i = (t.srcLevel i && !bitAt v i)) ∧
        (∀ q off, rkey q off ≠ rkey pIRQ 0x680 → u.rg q off = t.rg q off) ∧
        u = { t with regs := u.regs, ports := u.ports }) ∧
    (∀ word : Fin 10, Writes s t a pSNAP (0x140 + 4 * word) → bitAt (t.rg pSNAP 0x30) 0 = false →
      ∃ u, exec (.snapPageEnWrite a word v) s = .next u ∧ (u.port a.toNat).fault = .none ∧
        u.rg pSNAP (0x140 + 4 * word) =
          (if word = 4 then v &&& ~~~ (0x1E : Word)
           else if 8 ≤ word.val ∧ a.toNat ≠ aMCORE then t.rg pSNAP (0x140 + 4 * word) else v) ∧
        (∀ q off, rkey q off ≠ rkey pSNAP (0x140 + 4 * word) → u.rg q off = t.rg q off)) ∧
    (∀ (pin : Fin 64) (up : Bool), ∃ u, exec (.gpioPinChange pin up) s = .next u ∧
        u = { s with gpio := u.gpio } ∧
        (∀ i : Fin 64, u.gpio.testBit i = if i = pin then up else s.gpio.testBit i))

/-- Paired writes (R6, R13, R102). -/
def Obligations.PairedWrites : Prop :=
  ∀ (s t u : State) (a : AgentId) (v w : Word) (g : Fin 24),
    (a.toNat = aMCORE → Writes s t a (pGATE g) 0x104 → t.pairOf (rkey (pGATE g) 0x104) = none →
      ∃ x, exec (.pairedWritePrimary a ⟨pGATE g, by simp only [pGATE]; omega⟩ 0x104 v) s = .next x ∧
        (x.pairOf (rkey (pGATE g) 0x104)).map (fun p => (p.agent, p.value)) = some (a.toNat, v) ∧
        x = { t with pairs := x.pairs, ports := x.ports }) ∧
    (∀ d, a.toNat = aMCORE → Writes s t a (pGATE g) 0x108 →
      t.pairOf (rkey (pGATE g) 0x104) = some { key := rkey (pGATE g) 0x104, agent := a.toNat, value := v, deadline := d } →
      w ≠ ~~~ v →
      ∃ x, exec (.pairedWriteComplement a ⟨pGATE g, by simp only [pGATE]; omega⟩ 0x108 w) s = .next x ∧
        x.pairOf (rkey (pGATE g) 0x104) = none ∧ bitAt (x.rg (pGATE g) 0x1C) 0 = true ∧
        bitAt (x.rg pBKP 0x100) 28 = true ∧ x.rg (pGATE g) 0x100 = t.rg (pGATE g) 0x100) ∧
    (∀ d, a.toNat = aMCORE → Writes s t a (pGATE g) 0x108 →
      t.pairOf (rkey (pGATE g) 0x104) = some { key := rkey (pGATE g) 0x104, agent := a.toNat, value := v, deadline := d } →
      (∀ k, k < 32 → badRule g (t.rule g 0x200 k) = false) → bitAt (t.rg (pGATE g) 0x30) 1 = false →
      fld v 0 16 = (fld (t.rg (pGATE g) 0x100) 0 16 + 1) % 0x10000 → fld v 16 16 = 0 →
      ∃ x, exec (.pairedWriteComplement a ⟨pGATE g, by simp only [pGATE]; omega⟩ 0x108 (~~~ v)) s = .next x ∧ ok x a ∧
        x.pairOf (rkey (pGATE g) 0x104) = none ∧ x.rg (pGATE g) 0x100 = wd (fld v 0 16) ∧
        (∀ k, k < 32 → x.rule g 0x400 k = t.rule g 0x200 k)) ∧
    (a.toNat ≠ aMCORE → Writes s t a (pGATE g) 0x108 →
      ∃ x, exec (.pairedWriteComplement a ⟨pGATE g, by simp only [pGATE]; omega⟩ 0x108 w) s = .next x ∧
        x.pairOf (rkey (pGATE g) 0x104) = none ∧ bitAt (x.rg (pGATE g) 0x1C) 0 = true ∧
        bitAt (x.rg (pGATE g) 0x1C) 3 = true ∧ bitAt (x.rg pBKP 0x100) 28 = true ∧
        x.rg (pGATE g) 0x100 = t.rg (pGATE g) 0x100) ∧
    (∀ (pg : Fin 320) (off : Fin 4096), (s.pairOf (rkey pg off)).isSome = true →
      ∃ x, exec (.pairWindowExpiry pg off) s = .next x ∧ x.pairOf (rkey pg off) = none ∧
        bitAt (x.rg pg 0x1C) 0 = true ∧ bitAt (x.rg pBKP 0x100) 28 = true) ∧
    (a.toNat = aMCORE → Pairs s u a pSYS 0x108 v → bitAt (u.rg pSYS 0x108) 31 = false →
      (∀ t', Writes s t' a pSYS 0x108 → bitAt (t'.rg pSYS 0x108) 31 = false) →
      ∃ x, exec (.sysRoleWrite a v (~~~ v)) s = .next x ∧
        (fld v 0 2 ≠ 3 → x.role = fld v 0 2 ∧ bitAt (x.rg pSYS 0x108) 31 = true ∧
          (∀ q off, rkey q off ≠ rkey pSYS 0x108 → x.rg q off = u.rg q off)) ∧
        (fld v 0 2 = 3 → x.rg pSYS 0x108 = u.rg pSYS 0x108 ∧ bitAt (x.rg pSYS 0x1C) 0 = true)) ∧
    (a.toNat = aMCORE → Pairs s u a pSYS 0x100 v → bitAt (u.rg pSYS 0x100) 31 = false →
      (∀ t', Writes s t' a pSYS 0x100 → bitAt (t'.rg pSYS 0x100) 31 = false) →
      ∃ x, exec (.sysCoreDomainWrite a v (~~~ v)) s = .next x ∧
        x.rg pSYS 0x100 = wd (fld v 0 8 + 0x80000000) ∧
        (∀ q off, rkey q off ≠ rkey pSYS 0x100 → x.rg q off = u.rg q off)) ∧
    (a.toNat = aMCORE → Pairs s u a (pGATE g) 0x104 v →
      (∀ k, k < 32 → badRule g (u.rule g 0x200 k) = false) → bitAt (u.rg (pGATE g) 0x30) 1 = false →
      fld v 0 16 = (fld (u.rg (pGATE g) 0x100) 0 16 + 1) % 0x10000 → fld v 16 16 = 0 →
      ∃ x, exec (.gateCommit g a v (~~~ v)) s = .next x ∧
        x.rg (pGATE g) 0x100 = wd (fld v 0 16) ∧ (∀ k, k < 32 → x.rule g 0x400 k = u.rule g 0x200 k))

/-- SYS admits MCORE alone (R14). -/
def Obligations.SysAdmitsMcore : Prop :=
  ∀ (s t : State) (a : AgentId) (v : Word) (off : Fin 4096), a.toNat ≠ aMCORE →
    (off = 0x100 ∨ off = 0x104 ∨ off = 0x108 ∨ off = 0x10C) → Writes s t a pSYS off →
    ∃ u, exec (.pairedWritePrimary a 0 off v) s = .next u ∧ u.rg pSYS 0x100 = t.rg pSYS 0x100 ∧
      u.rg pSYS 0x108 = t.rg pSYS 0x108 ∧ u.pairs = t.pairs ∧ bitAt (u.rg pSYS 0x1C) 3 = true ∧
      bitAt (u.rg pBKP 0x100) 28 = true ∧ u.tamp.logSeq = (t.tamp.logSeq + 1) % 0x10000

/-- Partners read as complements (R7). -/
def Obligations.PartnerReads : Prop :=
  ∀ (s t : State) (a : AgentId) (hw : Word) (pg : Fin 320) (off : Fin 4096) (kd : PageKind), pageKind pg = some kd →
    ((off = 0x14 ∧ ctrlPaired kd = true) ∨ ∃ r, 0x100 ≤ off.val ∧ off.val < 0xE00 ∧ findRow kd off = some r ∧ r.acc = .rwpN) →
    Reads s t a pg off →
    ∃ u, exec (.readClear a pg off hw) s = .next u ∧ (u.port a.toNat).fault = .none ∧
      (u.port a.toNat).data = (~~~ (t.regView a.toNat pg (off.val - 4))).toNat ∧
      u = { t with ports := u.ports }

/-- RC registers, block resets and the snapshot unit (R5, R10, R30, R38, R39). -/
def Obligations.SnapshotsAndResets : Prop :=
  ∀ (s t u : State) (a : AgentId) (hw : Word) (pg : Fin 320),
    ((pageKind pg).isSome = true → Reads s t a pg 0x34 →
      ∃ x, exec (.readClear a pg 0x34 hw) s = .next x ∧ (x.port a.toNat).data = (t.regView a.toNat pg 0x34).toNat ∧
        x.rg pg 0x34 = hw ∧ (∀ q off, rkey q off ≠ rkey pg 0x34 → x.rg q off = t.rg q off)) ∧
    (Pairs s u a pFAB 0x10 2 →
      ∃ x, exec (.blockReset a 0x20) s = .next x ∧ x.rg pFAB 0x10 = 0 ∧ x.rg pFAB 0x1C = 0 ∧ x.rg pFAB 0x20 = 0 ∧
        x.rg pFAB 0x24 = 0 ∧ x.rg pFAB 0x30 = u.rg pFAB 0x30 ∧ x.rg pFAB 0x34 = u.rg pFAB 0x34 ∧
        x.snaps = u.snaps) ∧
    (Writes s t a pSNAP 0x100 → bitAt (t.rg pSNAP 0x104) 0 = true →
      (∃ x, exec (.snapFire a) s = .next x ∧
        x.snapPend = (if t.snapArmed then t.snapPend ||| 1 else t.snapPend) ∧
        (t.snapArmed = false → t.rg pSNAP 0x118 ≠ 0xFFFFFFFF → x.rg pSNAP 0x118 = t.rg pSNAP 0x118 + 1)) ∧
      (∃ x, exec (.snapRearm a false) s = .next x ∧ x.snapArmed = true ∧ x.snapPend = t.snapPend) ∧
      (∃ x, exec (.snapRearm a true) s = .next x ∧ x.snapArmed = true ∧ x.snapPend = t.snapPend ||| 1)) ∧
    (bitAt (s.rg pSNAP 0x104) 1 = true →
      ∃ x, exec .snapinRise s = .next x ∧ x.snapPend = (if s.snapArmed then s.snapPend ||| 2 else s.snapPend)) ∧
    (s.snapPend ≠ 0 →
      ∃ x, exec .snapshotLatch s = .next x ∧ x.snapPend = 0 ∧ x.rg pSNAP 0x108 = s.rg pSNAP 0x108 + 1 ∧
        x.rg pSNAP 0x10C = wd s.snapPend ∧ x.rg pSNAP 0x110 = wd s.now ∧ bitAt (x.rg pSNAP 0x20) 0 = true ∧
        (s.snapEnabled pg = true → s.pageSupplied pg = true →
          tfind x.snaps (rkey pg 0xE00) = some (s.regView aMCORE pg 0x18) ∧
          tfind x.snaps (rkey pg 0xEFC) = some (s.rg pSNAP 0x108 + 1)))

/-- The fabric (R22, R95, R98, R103, R105, R106, R109). -/
def Obligations.FabricAccesses : Prop :=
  ∀ (s : State) (a : AgentId) (addr : Addr) (size : Fin 257) (k : AccKind) (d : List Byte),
    (s.issues a.toNat = true → offFabric a.toNat addr.toNat size = false → size ≠ 0 →
      s.blkWaits a.toNat ((gateOf addr.toNat).getD 0) = false →
      (s.rangeOk addr.toNat size k = false →
        ∃ t, exec (.fabricRequest a addr size { kind := k } d .none) s = .next t ∧
          t = s.setPort a.toNat { fault := .range }) ∧
      (s.rangeOk addr.toNat size k = true → ∀ g, gateOf addr.toNat = some g →
        (∀ r, s.judge g a.toNat addr.toNat size k = .refuse r → judgedTwice addr.toNat = none →
          s.rbit (pGATE g) 0x118 15 = false →
          ∃ t, exec (.fabricRequest a addr size { kind := k } d .none) s = .next t ∧ (t.port a.toNat).fault = .gate ∧
            fld (t.rg (pGATE g) 0x118) 0 8 = a.toNat ∧ bitAt (t.rg (pGATE g) 0x118) 15 = true ∧
            t.rg (pGATE g) 0x110 = wd addr.toNat ∧ bitAt (t.rg (pGATE g) 0x20) 0 = true ∧ t.flights = s.flights) ∧
        (∀ r, s.judge g a.toNat addr.toNat size k = .refuse r → (judgedTwice addr.toNat).isSome = true → g ≠ 22 →
          ∃ t f, exec (.fabricRequest a addr size { kind := k } d .none) s = .next t ∧ t.flights = s.flights ++ [f] ∧
            f.second = true ∧ f.refused = some r ∧ f.epoch = (s.rg (pGATE g) 0x100).toNat ∧
            t = { s with flights := t.flights, flightNo := t.flightNo }) ∧
        (∀ c o b, s.judge g a.toNat addr.toNat size k = .letPass c o b → g ≠ 22 →
          ∃ t f, exec (.fabricRequest a addr size { kind := k } d .none) s = .next t ∧ t.flights = s.flights ++ [f] ∧
            f.agent = a.toNat ∧ f.addr = addr.toNat ∧ f.size = size.val ∧ f.gate = g ∧
            f.epoch = (s.rg (pGATE g) 0x100).toNat ∧ f.second = (judgedTwice addr.toNat).isSome ∧ t.mem = s.mem))) ∧
    (∀ (id : Nat) (f : Flight), s.flight id = some f →
      (f.second = true → f.refused = none → ∃ t, exec (.gateSecondVerdict (.flight id) true) s = .next t ∧
        (∀ e ∈ t.flights, e.id = id → e.second = false) ∧
        (f.byDefault = false → t = { s with flights := t.flights })) ∧
      (∀ r, r < 16 → f.second = true → f.refused = some r → s.rbit (pGATE f.gate) 0x118 15 = false →
        ∃ t, exec (.gateSecondVerdict (.flight id) true) s = .next t ∧ t.flight id = none ∧
          (t.port f.agent).fault = .gate ∧ fld (t.rg (pGATE f.gate) 0x118) 16 16 = f.epoch % 2 ^ 16) ∧
      (f.second = true → ∃ t, exec (.gateSecondVerdict (.flight id) false) s = .next t ∧ t.flight id = none ∧
        (t.port f.agent).fault = .gate ∧ bitAt (t.rg pTAMP 0x1AC) 31 = true) ∧
      (f.timedOut = false → f.second = false → f.gate ≠ 22 → s.rbit pFAB 0x108 31 = false → f.agent < 256 →
        ∃ t, exec (.fabricTimeout (.flight id)) s = .next t ∧ (t.port f.agent).fault = .timeout ∧
          fld (t.rg pFAB 0x108) 0 8 = f.agent ∧ t.mem = s.mem) ∧
      (s.canPerform f = true → s.outranked f = false → f.timedOut = false →
        f.write = true → f.data.length = f.size → 0 < f.size → s.changes = [] → s.badWord f.addr f.size = none →
        regionOf f.addr = some .shared → regionOf (f.addr + f.size - 1) = some .shared →
        ∃ t, exec (.fabricResponse (.flight id) .none) s = .next t ∧ (t.port f.agent).fault = .none ∧
          t.flight id = none ∧ (∀ i, i < f.size → memByte t.ddr t.mem (f.addr + i) = f.data.getD i 0) ∧
          (∀ x, (x < f.addr ∨ f.addr + f.size ≤ x) → memByte t.ddr t.mem x = memByte s.ddr s.mem x)) ∧
      (∀ w, s.canPerform f = true → s.outranked f = false → f.timedOut = false → f.write = false → s.changes = [] →
        regionOf f.addr = some .shared → s.badWord f.addr f.size = some w →
        ∃ t, exec (.fabricResponse (.flight id) .none) s = .next t ∧ (t.port f.agent).fault = .data ∧
          (t.port f.agent).data = 0 ∧ t.flight id = none ∧ t.mem = s.mem ∧ t.sram = s.sram ∧
          bitAt (t.rg pBKP 0x100) 18 = true)) ∧
    (∃ t, exec (.fabricTimeout (.next a addr)) s = .next t ∧ t = { s with fates := t.fates } ∧
      (t.fateOf a.toNat addr.toNat 1).late = true)

/-! ### Cask cores -/

/-- The one-register instructions of R59 and R63. -/
def Obligations.AluResults : Prop :=
  ∀ (n : Fin 11) (gd gs gt cf : BitVec 5) (imm : BitVec 16),
    let k (c : CoreSt) : Nat := if gt = 0 then cf.toNat else (c.reg gt).toNat % 32
    Computes n gd (fun c => c.reg gs + c.reg gt) (.add n gd gs gt 0) ∧
    Computes n gd (fun c => c.reg gs - c.reg gt) (.sub n gd gs gt 0) ∧
    Computes n gd (fun c => c.reg gs &&& c.reg gt) (.and n gd gs gt 0) ∧
    Computes n gd (fun c => c.reg gs ||| c.reg gt) (.ior n gd gs gt 0) ∧
    Computes n gd (fun c => c.reg gs ^^^ c.reg gt) (.xor n gd gs gt 0) ∧
    Computes n gd (fun c => c.reg gs &&& ~~~ c.reg gt) (.andn n gd gs gt 0) ∧
    Computes n gd (fun c => if (c.reg gs).toInt < (c.reg gt).toInt then 1 else 0) (.cmplt n gd gs gt 0) ∧
    Computes n gd (fun c => if (c.reg gs).toNat < (c.reg gt).toNat then 1 else 0) (.cmpltu n gd gs gt 0) ∧
    Computes n gd (fun c => wd ((c.reg gs).toNat * (c.reg gt).toNat)) (.mul n gd gs gt 0) ∧
    Computes n gd (fun c => if c.reg cf = 0 then c.reg gt else c.reg gs) (.csel n gd gs gt cf) ∧
    Computes n gd (fun c => wd ((c.reg gs).toNat * 2 ^ k c)) (.shl n gd gs gt cf) ∧
    Computes n gd (fun c => wd ((c.reg gs).toNat / 2 ^ k c)) (.shr n gd gs gt cf) ∧
    Computes n gd (fun c => BitVec.ofInt 32 ((c.reg gs).toInt / 2 ^ k c)) (.asr n gd gs gt cf) ∧
    Computes n gd (fun c => wd ((c.reg gs).toNat / 2 ^ k c + (c.reg gs).toNat * 2 ^ (32 - k c))) (.ror n gd gs gt cf) ∧
    Computes n gd (fun c => c.reg gs + imm.signExtend 32) (.addk n gd gs imm) ∧
    Computes n gd (fun c => c.reg gs &&& wd imm.toNat) (.andk n gd gs imm) ∧
    Computes n gd (fun c => c.reg gs ||| wd imm.toNat) (.iork n gd gs imm) ∧
    Computes n gd (fun c => c.reg gs ^^^ wd imm.toNat) (.xork n gd gs imm) ∧
    Computes n gd (fun _ => wd (imm.toNat * 65536)) (.hik n gd imm) ∧
    Computes n gd (fun c => if (c.reg gs).toInt < imm.toInt then 1 else 0) (.cmpltk n gd gs imm)

/-- Parity and bit reversal (R62). -/
def Obligations.ParityAndReversal : Prop :=
  ∃ w b : Word → Word,
    (∀ (n : Fin 11) (gd gs : BitVec 5),
      Computes n gd (fun c => if ((List.range 32).filter fun i => (c.reg gs).getLsbD i).length % 2 = 1 then 1 else 0)
        (.par n gd gs 0) ∧
      Computes n gd (fun c => w (c.reg gs)) (.brevW n gd gs 0) ∧
      Computes n gd (fun c => b (c.reg gs)) (.brevB n gd gs 0)) ∧
    (∀ (x : Word) (i : Fin 32), (w x).getLsbD i = x.getLsbD (31 - i.val)) ∧
    (∀ (x : Word) (i : Fin 32), (b x).getLsbD i = x.getLsbD (i.val / 8 * 8 + (7 - i.val % 8))) ∧
    b 0x12345678 = 0x482C6A1E ∧ w 0x12345678 = 0x1E6A2C48

/-- The other results of R59 to R61 and R64. -/
def Obligations.WideResults : Prop :=
  ∀ (n : Fin 11) (gd gs gt : BitVec 5),
    Computes n gd (fun c => if c.reg gt = 0 then 0xFFFFFFFF
      else if c.reg gs = 0x80000000 ∧ c.reg gt = 0xFFFFFFFF then 0x80000000
      else BitVec.ofInt 32 ((c.reg gs).toInt.tdiv (c.reg gt).toInt)) (.div n gd gs gt 0) ∧
    Computes n gd (fun c => if c.reg gt = 0 then 0xFFFFFFFF else wd ((c.reg gs).toNat / (c.reg gt).toNat))
      (.divu n gd gs gt 0) ∧
    Computes n gd (fun c => if c.reg gt = 0 then c.reg gs
      else if c.reg gs = 0x80000000 ∧ c.reg gt = 0xFFFFFFFF then 0
      else BitVec.ofInt 32 ((c.reg gs).toInt.tmod (c.reg gt).toInt)) (.rem n gd gs gt 0) ∧
    Computes n gd (fun c => if c.reg gt = 0 then c.reg gs else wd ((c.reg gs).toNat % (c.reg gt).toNat))
      (.remu n gd gs gt 0) ∧
    Computes n gd (fun c => wd ((List.range 4).foldl (fun x i =>
      x + fld (c.reg gs) (8 * i) 8 * 2 ^ (24 - 8 * i)) 0)) (.bswap n gd gs 0) ∧
    Computes n gd (fun c => if c.reg gs = 0 then 32 else wd (31 - (c.reg gs).toNat.log2)) (.clz n gd gs 0) ∧
    (∀ s t : State, Issues s t n → 8 ≤ fld (s.core n).crccfg 0 6 → fld (s.core n).crccfg 0 6 ≤ 32 →
      (∃ u, exec (.crcstep n gd gs gt 0) s = .next u ∧ Wrote t u n gd ((t.core n).crcFold ((t.core n).reg gs) ((t.core n).reg gt))) ∧
      (∃ u, exec (.crcfin n gd gs 0) s = .next u ∧
        Wrote t u n gd (wd (((t.core n).reg gs ^^^ (t.core n).crcxor).toNat % 2 ^ fld (t.core n).crccfg 0 6)))) ∧
    (∀ s t : State, Issues s t n →
      let c := t.core n
      let sum (y : Word) : Nat := (c.reg gs).toNat + y.toNat + b01 c.c
      let signed (y : Word) : Int := (c.reg gs).toInt + y.toInt + (b01 c.c : Nat)
      let done (u : State) (y : Word) : Prop :=
        (u.core n).gr gd.toNat = (if gd = 0 then 0 else wd (sum y)) ∧ ((u.core n).c = decide (2 ^ 32 ≤ sum y)) ∧
        ((u.core n).v = decide (signed y < -(2 ^ 31) ∨ 2 ^ 31 ≤ signed y)) ∧
        (∀ r, r < 32 → r ≠ gd.toNat → (u.core n).gr r = c.gr r) ∧
        regsOnly { c with c := (u.core n).c, v := (u.core n).v } (u.core n) ∧ Passed c (u.core n) ∧ coreOnly t u n
      (∃ u, exec (.adc n gd gs gt 0) s = .next u ∧ done u (c.reg gt)) ∧
      (∃ u, exec (.sbc n gd gs gt 0) s = .next u ∧ done u (~~~ c.reg gt))) ∧
    (∀ s t : State, Issues s t n → gd.toNat % 2 = 0 → gd ≠ 0 →
      let c := t.core n
      let done (u : State) (p : Int) : Prop :=
        (u.core n).gr gd.toNat = BitVec.ofInt 32 p ∧ (u.core n).gr (gd.toNat + 1) = BitVec.ofInt 32 (p / 2 ^ 32) ∧
        (∀ r, r < 32 → r ≠ gd.toNat → r ≠ gd.toNat + 1 → (u.core n).gr r = c.gr r) ∧
        regsOnly c (u.core n) ∧ Passed c (u.core n) ∧ coreOnly t u n
      (∃ u, exec (.mull n gd gs gt 0) s = .next u ∧ done u ((c.reg gs).toInt * (c.reg gt).toInt)) ∧
      (∃ u, exec (.mullu n gd gs gt 0) s = .next u ∧ done u (((c.reg gs).toNat : Int) * ((c.reg gt).toNat : Int))))

/-- Control flow (R46, R48, R49, R51). -/
def Obligations.ControlFlow : Prop :=
  ∀ (s t : State) (n : Fin 11) (gs gt : BitVec 5) (o : BitVec 16) (j : BitVec 26) (e : BitVec 12) (k : BitVec 9),
    Issues s t n → (t.core n).slot = none → (t.core n).loopAt (t.core n).pc = none →
    (t.core n).loopAt ((t.core n).pc + 4) = none → (t.core n).kept = none → t.traced n = false →
    let c := t.core n
    let goes (u : State) (taken : Bool) (x : Word) : Prop :=
      (u.core n).pc = c.pc + 4 ∧ (u.core n).slot = some (if taken then x else c.pc + 8) ∧ coreOnly t u n
    let br (i : Instr) (p : Bool) : Prop :=
      ∃ u, exec i s = .next u ∧ goes u p (c.pc + 4 + o.signExtend 32 * 4) ∧ (u.core n).g = c.g ∧ regsOnly c (u.core n)
    let count := if gs = 0 then wd k.toNat else c.reg gs
    br (.breq n gs gt o) (c.reg gs == c.reg gt) ∧ br (.brne n gs gt o) (c.reg gs != c.reg gt) ∧
    br (.brlt n gs gt o) (decide ((c.reg gs).toInt < (c.reg gt).toInt)) ∧
    br (.brge n gs gt o) (decide ((c.reg gt).toInt ≤ (c.reg gs).toInt)) ∧
    br (.brltu n gs gt o) (decide ((c.reg gs).toNat < (c.reg gt).toNat)) ∧
    br (.brgeu n gs gt o) (decide ((c.reg gt).toNat ≤ (c.reg gs).toNat)) ∧
    (∃ u, exec (.goto n j) s = .next u ∧ goes u true (c.pc + 4 + j.signExtend 32 * 4) ∧ (u.core n).g = c.g) ∧
    (∃ u, exec (.call n j) s = .next u ∧ goes u true (c.pc + 4 + j.signExtend 32 * 4) ∧ (u.core n).gr 31 = c.pc + 8 ∧
      ∀ r, r < 31 → (u.core n).gr r = c.gr r) ∧
    (∃ u, exec (.gotor n 0 gs 0 0) s = .next u ∧ goes u true (c.reg gs) ∧ (u.core n).g = c.g) ∧
    (∃ u, exec (.callr n 0 gs 0 0) s = .next u ∧ goes u true (c.reg gs) ∧ (u.core n).gr 31 = c.pc + 8 ∧
      ∀ r, r < 31 → (u.core n).gr r = c.gr r) ∧
    (c.la0 = false →
      ∃ u, exec (.loop0 n gs e k) s = .next u ∧ (u.core n).g = c.g ∧ coreOnly t u n ∧
        (if count = 0 then (u.core n).pc = c.pc + 8 + 4 * wd e.toNat ∧ (u.core n).la0 = false
         else (u.core n).lstart0 = c.pc + 4 ∧ (u.core n).lend0 = c.pc + 4 + 4 * wd e.toNat ∧
           (u.core n).lcount0 = count ∧ (u.core n).la0 = true)) ∧
    (c.la1 = false → (c.la0 = true → c.lstart0.toNat ≤ (c.pc + 4).toNat ∧
        (c.pc + 4 + 4 * wd e.toNat).toNat ≤ c.lend0.toNat) →
      ∃ u, exec (.loop1 n gs e k) s = .next u ∧ (u.core n).g = c.g ∧ coreOnly t u n ∧
        (if count = 0 then (u.core n).pc = c.pc + 8 + 4 * wd e.toNat ∧ (u.core n).la1 = false
         else (u.core n).lstart1 = c.pc + 4 ∧ (u.core n).lend1 = c.pc + 4 + 4 * wd e.toNat ∧
           (u.core n).lcount1 = count ∧ (u.core n).la1 = true)) ∧
    (∃ u, exec (.lexit n e) s = .next u ∧ (u.core n).la1 = false ∧ (u.core n).la0 = (c.la0 && e.getLsbD 0) ∧
      (u.core n).pc = c.pc + 4 ∧ (u.core n).g = c.g ∧ coreOnly t u n)

/-- The loop decision (R49, R50). -/
def Obligations.LoopDecision : Prop :=
  ∀ (s t : State) (n : Fin 11) (gd gs gt : BitVec 5), Issues s t n → (t.core n).slot = none →
    let c := t.core n
    (∃ u, exec (.add n gd gs gt 0) s = .next u ∧
      (c.la0 = true → c.lend0 = c.pc → c.la1 = false →
        (1 < c.lcount0.toNat → (u.core n).pc = c.lstart0 ∧ (u.core n).lcount0 = c.lcount0 - 1 ∧ (u.core n).la0 = true) ∧
        (c.lcount0.toNat ≤ 1 → (u.core n).pc = c.lend0 + 4 ∧ (u.core n).lcount0 = 0 ∧ (u.core n).la0 = false)) ∧
      (c.la1 = true → c.lend1 = c.pc → 1 < c.lcount1.toNat →
        (u.core n).pc = c.lstart1 ∧ (u.core n).lcount1 = c.lcount1 - 1 ∧ (u.core n).lcount0 = c.lcount0 ∧
          (u.core n).la0 = c.la0) ∧
      (c.la1 = true → c.lend1 = c.pc → c.lcount1.toNat ≤ 1 → c.la0 = true → c.lend0 = c.pc → 1 < c.lcount0.toNat →
        (u.core n).la1 = false ∧ (u.core n).lcount1 = 0 ∧ (u.core n).pc = c.lstart0 ∧
          (u.core n).lcount0 = c.lcount0 - 1))

/-- The system group without exceptions (R45, R54, R57, R65, R67, R71). -/
def Obligations.SystemGroup : Prop :=
  ∀ (s t : State) (n : Fin 11) (gd gs : BitVec 5) (imm : BitVec 12),
    Issues s t n → (t.core n).slot = none → (t.core n).loopAt (t.core n).pc = none → (t.core n).kept = none →
    let c := t.core n
    let on (u : State) : Prop := (u.core n).pc = c.pc + 4 ∧ (u.core n).g = c.g ∧ coreOnly t u n
    (∀ v g k, t.loadDesc n ((c.reg gs).toNat % 4096) = (v, .ok g, k) → v.core n = c →
      ∃ u, exec (.segld n gs imm) s = .next u ∧ (u.core n).seg (imm.toNat % 8) = g ∧ (u.core n).pc = c.pc + 4 ∧
        (u.core n).shadow = true ∧ (∀ i, i ≠ imm.toNat % 8 → (u.core n).seg i = c.seg i) ∧ (u.core n).g = c.g) ∧
    Computes n gd (fun d => wd ((d.seg (imm.toNat % 8)).sel % 4096 + flagAt (!(d.seg (imm.toNat % 8)).null) 31))
      (.segrd n gd imm) ∧
    (imm ≠ 0 → ∃ u, exec (.hold n imm) s = .next u ∧ on u ∧ (u.core n).h = true ∧ (u.core n).shadow = true ∧
      (u.core n).hcnt = if c.h then min c.hcnt imm.toNat else imm.toNat) ∧
    (∃ u, exec (.release n) s = .next u ∧ on u ∧ (u.core n).h = false ∧ (u.core n).hcnt = 0) ∧
    (∃ u, exec (.holdExpiry n) s = .next u ∧
      (u.core n).h = ((s.core n).h && (s.core n).dbgHalt) ∧ coreOnly s u n ∧
      u.core n = { s.core n with h := (u.core n).h, hcnt := (u.core n).hcnt }) ∧
    (∃ u, exec (.wait n) s = .next u ∧ on u ∧ (u.core n).run = .wait ∧ (u.core n).h = false) ∧
    ((t.flights.any fun f => f.agent == t.coreAgent n && !f.timedOut) = false →
      ∃ u, exec (.fence n) s = .next u ∧ on u) ∧
    ((t.flights.any fun f => f.agent == t.coreAgent n && !f.timedOut) = true →
      ∃ u, exec (.fence n) s = .next u ∧ u.core n = { c with fetched := true } ∧ coreOnly t u n) ∧
    Computes n gd (fun _ => if n.val < 8 then 0x000101FF else 0x0001017F) (.feat n gd 0) ∧
    Computes n gd (fun _ => if n.val < 8 then 0x10062020 else if n.val = 10 then 0x04000000 else 0x10000000)
      (.feat n gd 1) ∧
    Computes n gd (fun _ => 0) (.feat n gd 3) ∧
    (specialNo imm.toNat = true → ∃ u, exec (.mfs n gd imm) s = .next u ∧ (u.core n).pc = c.pc + 4 ∧ coreOnly t u n ∧
      (u.core n).gr gd.toNat = (if gd = 0 then 0 else c.special imm.toNat) ∧
      (∀ r, r < 32 → r ≠ gd.toNat → (u.core n).gr r = c.gr r) ∧
      (u.core n).cycHi = if imm.toNat = 12 then wd (c.cycle / 2 ^ 32) else c.cycHi) ∧
    (specialNo imm.toNat = true → (imm = 2 → c.la0 = false) → (imm = 5 → c.la1 = false) → ∃ u, exec (.mts n gs imm) s = .next u ∧ on u ∧
      (imm = 0 → (u.core n).c = bitAt (c.reg gs) 0 ∧ (u.core n).v = bitAt (c.reg gs) 1 ∧ (u.core n).h = c.h) ∧
      (imm = 8 → (u.core n).crcpoly = c.reg gs) ∧ (imm = 9 → (u.core n).crccfg = (c.reg gs &&& 0x13F)) ∧
      (imm = 10 → (u.core n).crcxor = c.reg gs) ∧ (imm = 1 → (u.core n).lstart0 = c.reg gs) ∧
      (imm = 3 → (u.core n).lcount0 = c.reg gs) ∧ ((12 ≤ imm.toNat) → (u.core n).cycle = c.cycle ∧ (u.core n).cycHi = c.cycHi))

/-- Entry and return (R77, R78, R79, R86, R87). -/
def Obligations.EntryAndReturn : Prop :=
  ∀ (s u : State) (n : Fin 11) (e : Exc) (pc : Word) (g : Seg) (hold : Nat),
    (s.coreLive n = true → s.boundary n = some e → Enters s u n e pc g hold → u.core n = s.core n →
      (e.code = 1 → ∃ t, exec (.interruptTaken n) s = .next t ∧ Entered (s.core n) (t.core n) e pc g hold ∧ t.mem = u.mem) ∧
      (e.code = 2 → ∃ t, exec (.alarmException n) s = .next t ∧ Entered (s.core n) (t.core n) e pc g hold ∧
        (t.core n).pendAlarm = false ∧ t.mem = u.mem) ∧
      (e.code = 3 → ∃ t, exec (.storeError n) s = .next t ∧ Entered (s.core n) (t.core n) e pc g hold ∧
        (t.core n).pendSterr = false ∧ t.mem = u.mem)) ∧
    (∀ (t v : State) (imm : BitVec 12), Issues s t n → (t.core n).slot = none → (t.core n).esc = false →
      v = t.modCore n (fun c => c.complete (t.core n) .trap .seq) →
      Enters v u n { code := 4, faddr := imm.zeroExtend 32, ref := (v.core n).asyncRef } pc g hold → u.core n = v.core n →
      ∃ w, exec (.trap n imm) s = .next w ∧
        Entered (v.core n) (w.core n) { code := 4 } pc g hold ∧ w.mem = u.mem) ∧
    (∀ (t v w : State) (ws : List Word) (segs : Tbl Seg), Issues s t n → (t.core n).slot = none →
      (t.core n).loopAt (t.core n).pc = none → (t.core n).esc = false → (t.core n).xdepth ≠ 0 →
      t.frameRead n 2 ((t.core n).gr 30) 24 = (v, some ws) → v.frameSegs n ws = (w, some segs) → w.core n = t.core n →
      (tget {} segs 0).null = false → (tget {} segs 0).x = true → bitAt (ws.getD 2 0) 2 = false → loopsOk ws = true →
      fld (ws.getD 0 0) 0 2 = 0 → fld (ws.getD 1 0) 0 2 = 0 →
      ∃ x, exec (.retx n) s = .next x ∧
        (x.core n).pc = (if bitAt (ws.getD 3 0) 8 then ws.getD 1 0 else ws.getD 0 0) ∧
        (x.core n).xdepth = (t.core n).xdepth - 1 ∧ (x.core n).gr 30 = (t.core n).gr 30 + 0x60 ∧
        (x.core n).c = bitAt (ws.getD 2 0) 0 ∧ (x.core n).v = bitAt (ws.getD 2 0) 1 ∧ (x.core n).h = false ∧
        (x.core n).la0 = bitAt (ws.getD 2 0) 3 ∧ (x.core n).lcount0 = ws.getD 8 0 ∧ (x.core n).segs = segs ∧
        (x.core n).iprio = fld (ws.getD 16 0) 8 4)

/-- Cores under MCORE and under the debug port (R17, R75, R467). -/
def Obligations.CoreControl : Prop :=
  ∀ (s u : State) (a : AgentId) (n : Fin 9),
    (a.toNat = aMCORE → Pairs s u a (pCORE n) 0x10 1 → (u.core n).run = .reset → (n.val < 8 → bitAt (u.rg pSYS 0x100) 31 = true) →
      ∀ (ag : Nat) (v r : State) (segs : Tbl Seg),
      ag = ((u.core n).agent).getD (if n.val = 8 then 0x10 else if bitAt (u.rg pSYS 0x100) n then 8 + n.val else n.val) →
      v = ((u.pairDrop (rkey (pCORE n) 0x10)).setRg (pCORE n) 0x10 1).setCore n { agent := some ag, bps := (u.core n).bps } →
      v.loadSegs n = (r, segs) → (tget {} segs 0).null = false → (tget {} segs 0).x = true → r.changes = [] → r.held = none →
      ∃ w, exec (.coreRelease a ⟨n, by omega⟩) s = .next w ∧ (w.core n).run = .run ∧
        (w.core n).pc = u.rg (pCORE n) 0x10C ∧ (w.core n).agent = some ag ∧ (w.core n).segs = segs ∧
        (∀ i, (w.core n).gr i = 0)) ∧
    (∀ srst : Bool, a.toNat = aMCORE → Pairs s u a (pCORE n) 0x10 (if srst then 2 else 0) →
      ∃ w, exec (.coreResetWrite a ⟨n, by omega⟩ srst) s = .next w ∧ (w.core n).run = .reset ∧
        (w.core n).agent = (u.core n).agent ∧ (∀ i, (w.core n).gr i = 0) ∧ (w.core n).dcache = [] ∧
        (w.core n).icache = [] ∧ (w.core n).pendAlarm = false ∧ (w.core n).pendSterr = false ∧ w.mem = u.mem) ∧
    (∀ (m : Fin 11) (b : Bool), s.coreLive m = true → (s.core m).atBreak b = true → (s.core m).slot = none →
      (s.core m).run = .run → (s.core m).dbgHalt = false → (s.core m).closed = false → s.haltCovers m = true →
      ∃ w, exec (.dbgBreakpoint m b) s = .next w ∧ (w.core m).dbgHalt = true ∧ bitAt (w.rg pDBG 0x20) 1 = true ∧
        (w.core m).pc = (s.core m).pc ∧ w = { s with regs := w.regs, cores := w.cores })

/-- Loads and stores (R55, R56, R69, R92). -/
def Obligations.LoadsAndStores : Prop :=
  ∀ (s t : State) (n : Fin 11) (gd gb : BitVec 5) (seg : BitVec 3) (imm : BitVec 13),
    Issues s t n → (t.core n).got = none →
    let c := t.core n
    let off := c.reg gb + imm.signExtend 32
    let a := (c.seg seg.toNat).base + off.toNat
    (∀ (v : State) (bs : List Byte) (size : Nat) (i : Instr) (val : Word),
      (size = 4 ∧ i = .ldw n gd gb seg imm .none ∧ val = wd (leNat bs)) ∨
      (size = 2 ∧ i = .ldh n gd gb seg imm .none ∧ val = BitVec.ofInt 32 (sext (leNat bs) 16)) ∨
      (size = 2 ∧ i = .ldhu n gd gb seg imm .none ∧ val = wd (leNat bs)) ∨
      (size = 1 ∧ i = .ldb n gd gb seg imm .none ∧ val = BitVec.ofInt 32 (sext (leNat bs) 8)) ∨
      (size = 1 ∧ i = .ldbu n gd gb seg imm .none ∧ val = wd (leNat bs)) →
      a % size = 0 → c.check seg.toNat off size (·.r) = .inl a →
      t.loadThrough n seg.toNat (c.seg seg.toNat) a size .none = (v, .done bs) → v.core n = c → v.changes = [] →
      ∃ u, exec i s = .next u ∧ Wrote v u n gd val) ∧
    (∀ (size : Nat) (i : Instr),
      (size = 4 ∧ i = .stw n gd gb seg imm .none) ∨ (size = 2 ∧ i = .sth n gd gb seg imm .none) ∨
      (size = 1 ∧ i = .stb n gd gb seg imm .none) →
      a % size = 0 → c.check seg.toNat off size (·.w) = .inl a → privatePath n a size = true →
      (n.val = 8 → touches a size 0x24020000 0x20000 = false) → t.rangeOk a size .write = true → t.changes = [] →
      t.badWord a size = none → (t.fateOf (t.coreAgent n) a size).upset = .none →
      ∃ u, exec i s = .next u ∧
        (∀ k, k < size → memByte u.ddr u.mem (a + k) = BitVec.ofNat 8 ((c.reg gd).toNat / 256 ^ k)) ∧
        (∀ x, (x < a ∨ a + size ≤ x) → memByte u.ddr u.mem x = memByte t.ddr t.mem x) ∧
        (u.core n).g = c.g ∧ regsOnly c (u.core n) ∧ Passed c (u.core n) ∧ (∀ m, m ≠ n.val → u.core m = t.core m) ∧
        u = { t with cores := u.cores, mem := u.mem }) ∧
    (∀ (size x : Nat) (i : Instr) (val : Word),
      (size = 4 ∧ i = .ldw n gd gb seg imm .none ∧ val = wd x) ∨
      (size = 2 ∧ i = .ldh n gd gb seg imm .none ∧ val = BitVec.ofInt 32 (sext x 16)) ∨
      (size = 2 ∧ i = .ldhu n gd gb seg imm .none ∧ val = wd x) ∨
      (size = 1 ∧ i = .ldb n gd gb seg imm .none ∧ val = BitVec.ofInt 32 (sext x 8)) ∨
      (size = 1 ∧ i = .ldbu n gd gb seg imm .none ∧ val = wd x) →
      x = leNat ((List.range size).map fun k => memByte t.ddr t.mem (a + k)) →
      a % size = 0 → c.check seg.toNat off size (·.r) = .inl a → privatePath n a size = true →
      (n.val = 8 → touches a size 0x24020000 0x20000 = false) → t.rangeOk a size .read = true → t.changes = [] →
      t.badWord a size = none → (t.fateOf (t.coreAgent n) a size).upset = .none →
      ∃ u, exec i s = .next u ∧ Wrote t u n gd val)

/-- Cache operations (R72): on one line, on every line, and on a core without caches. -/
def Obligations.CacheOperations : Prop :=
  ∀ (s t : State) (n : Fin 11) (gb : BitVec 5) (seg : BitVec 3) (imm : BitVec 13), Issues s t n → t.changes = [] →
    let c := t.core n
    let off := c.reg gb + imm.signExtend 32
    (n.val < 8 → ∀ a, (c.check seg.toNat off 1 (fun g => g.r || g.w) = .inl a →
        ((∀ d, tfind c.dcache (a / 64) = some d → d.dirty = false) →
          (∃ u, exec (.dclean n gb seg imm) s = .next u ∧ (u.core n).dcache = c.dcache ∧ coreOnly t u n ∧
            (u.core n).g = c.g) ∧
          (∃ u, exec (.dflush n gb seg imm) s = .next u ∧ (u.core n).dcache = tdel c.dcache (a / 64) ∧
            coreOnly t u n ∧ (u.core n).g = c.g)) ∧
        (∀ d, tfind c.dcache (a / 64) = some d → d.dirty = true →
          (∀ r, WroteBack { c with dcache := tset c.dcache (a / 64) { d with dirty := false } } t n (a / 64) d r →
            ∃ u, exec (.dclean n gb seg imm) s = .next u ∧
              tfind (u.core n).dcache (a / 64) = some { d with dirty := false } ∧ u.mem = r.ans.st.mem ∧
              (r.flight = none → r.ans.fault ≠ .none → (u.core n).pendSterr = true)) ∧
          (∀ r, WroteBack { c with dcache := tdel c.dcache (a / 64) } t n (a / 64) d r →
            ∃ u, exec (.dflush n gb seg imm) s = .next u ∧ tfind (u.core n).dcache (a / 64) = none ∧
              u.mem = r.ans.st.mem ∧ (r.flight = none → r.ans.fault ≠ .none → (u.core n).pendSterr = true)))) ∧
      (c.check seg.toNat off 1 (fun g => g.w) = .inl a →
        ∃ u, exec (.dinv n gb seg imm) s = .next u ∧ (u.core n).dcache = tdel c.dcache (a / 64) ∧
          coreOnly t u n ∧ (u.core n).g = c.g) ∧
      (c.check seg.toNat off 1 (fun g => g.x) = .inl a →
        ∃ u, exec (.iinv n gb seg imm) s = .next u ∧ (u.core n).icache.contains (a / 64) = false ∧
          (∀ l, l ≠ a / 64 → (l ∈ (u.core n).icache ↔ l ∈ c.icache)) ∧ coreOnly t u n ∧ (u.core n).g = c.g)) ∧
    (n.val < 8 →
      ((∀ e ∈ c.dcache, e.2.dirty = false) →
        (∃ u, exec (.dcleanAll { core := n }) s = .next u ∧ (u.core n).dcache = c.dcache ∧ coreOnly t u n) ∧
        (∃ u, exec (.dflushAll { core := n }) s = .next u ∧ (u.core n).dcache = [] ∧ coreOnly t u n)) ∧
      (∀ v, v = t.eachLine (c.dcache.map (·.1)) (fun w l => w.cleanLine n l) → LinesDone c v n →
        ∃ u, exec (.dcleanAll { core := n }) s = .next u ∧ (u.core n).dcache = (v.core n).dcache ∧
          u = { v with cores := u.cores }) ∧
      (∀ v, v = t.eachLine (c.dcache.map (·.1)) (fun w l => w.evict n l) → LinesDone c v n →
        ∃ u, exec (.dflushAll { core := n }) s = .next u ∧ (u.core n).dcache = (v.core n).dcache ∧
          u = { v with cores := u.cores }) ∧
      (∃ u, exec (.iinvAll { core := n }) s = .next u ∧ (u.core n).icache = [] ∧ coreOnly t u n ∧
        (u.core n).dcache = c.dcache ∧ (u.core n).g = c.g)) ∧
    (8 ≤ n.val → ∀ i, i = .dclean n gb seg imm ∨ i = .dinv n gb seg imm ∨ i = .dflush n gb seg imm ∨
        i = .iinv n gb seg imm ∨ i = .dcleanAll { core := n } ∨ i = .dflushAll { core := n } ∨
        i = .iinvAll { core := n } →
      ∃ u, exec i s = .next u ∧ (u.core n).g = c.g ∧ Passed c (u.core n) ∧ coreOnly t u n) ∧
    (∀ (k : Nat) (v u : State) (e : Exc) (pc : Word) (g : Seg) (hold : Nat), n.val < 8 → 0 < k → k < c.icache.length →
      v = t.eachLine (c.icache.take k) (fun w l => w.discardFetched n l) → v.interruptInside n = some e →
      Enters v u n e pc g hold → u.core n = v.core n →
      ∃ w, exec (.iinvAll { core := n, cut := some k }) s = .next w ∧ Entered (v.core n) (w.core n) e pc g hold ∧
        e.ref.epc = c.pc ∧ e.ref.done = false)

/-! ### On-chip memory, DRAM and the memory seal -/

/-- SRAM keys, zeroing and scrubbing (R112, R114, R115, R118, R119). -/
def Obligations.SramKeysAndScrub : Prop :=
  ∀ (s u t : State) (a : AgentId) (b : Fin 8) (k : List Byte),
    (a.toNat = aMCORE → CtrlBits s u a pSRAM 0x100 →
      ((u.sram.rekeyUsed || u.sram.drawWait) = false → ∃ x, exec (.sramRekey a) s = .next x ∧ ok x a ∧
        x.sram = { u.sram with rekeyStarted := true, drawWait := true } ∧ regsBut u x [rkey pSRAM 0x10] ∧
        x = { u with regs := x.regs, pairs := x.pairs, ports := x.ports, sram := x.sram }) ∧
      ((u.sram.rekeyUsed || u.sram.drawWait) = true → ∃ x, exec (.sramRekey a) s = .next x ∧ ok x a ∧
        bitAt (x.rg pSRAM 0x1C) 16 = true ∧ regsBut u x [rkey pSRAM 0x10, rkey pSRAM 0x1C] ∧
        x = { u with regs := x.regs, pairs := x.pairs, ports := x.ports })) ∧
    (s.sram.drawWait = true → s.rng.fault = false →
      (s.rng.ready = false → exec (.keystoreDraw .rekey) s = .next s) ∧
      (∀ on, s.rng.ready = true → on = s.banksOn.filter (fun n => !s.sram.zeroDraw.testBit n) →
        s.wireDraw keyWire (16 * on.length) = (t, 0, k) →
        ∃ x, exec (.keystoreDraw .rekey) s = .next x ∧ x.sram.rekeyUsed = true ∧ x.sram.walking = true ∧
          x.sram.drawWait = false ∧ x.sram.banks = t.sram.banks ∧ x.sram.zeroDraw = t.sram.zeroDraw ∧
          x.sram.oldKeys = t.sram.keys ∧ x = { t with sram := x.sram } ∧
          ∀ i n, on[i]? = some n → tfind x.sram.keys n = some ((k.drop (16 * i)).take 16))) ∧
    (s.sram.drawWait = true → s.rng.fault = true → ∃ x, exec (.keystoreDraw .rekey) s = .next x ∧
      x.sram = { s.sram with drawWait := false } ∧ bitAt (x.rg pSRAM 0x1C) 17 = true ∧
      regsBut s x [rkey pSRAM 0x1C] ∧ x = { s with regs := x.regs, sram := x.sram }) ∧
    (s.sram.walking = true → ∃ x, exec .sramRekeyDone s = .next x ∧ x = { s with sram := x.sram } ∧
      x.sram = { s.sram with walking := false, walked := 0, oldKeys := [], banks := x.sram.banks } ∧
      ∀ i, x.sram.banks[i]? = s.sram.banks[i]?.map fun c =>
        if c = 2 ∧ (tfind s.sram.keys i).isSome = true then 3 else c) ∧
    (s.sram.zeroDraw.testBit b = true → s.rng.fault = false → s.wireDraw keyWire 16 = (t, 0, k) →
      ∃ x, exec (.keystoreDraw (.bank b)) s = .next x ∧ tfind x.sram.keys b = some k ∧
        x.sram.banks = t.sram.banks ∧ x = { t with sram := x.sram }) ∧
    (s.sram.zeroDraw.testBit b = true → s.rng.fault = true →
      ∃ x, exec (.keystoreDraw (.bank b)) s = .next x ∧ tfind x.sram.keys b = none ∧
        bitAt (x.rg pSRAM 0x1C) 17 = true ∧ regsBut s x [rkey pSRAM 0x1C] ∧
        x = { s with regs := x.regs, sram := x.sram }) ∧
    (s.pdOn (bankDomain b) = true → s.sram.banks.getD b 0 < 2 → s.sram.zeroDraw.testBit b = false →
      ∃ x, exec (.sramBankZeroed b) s = .next x ∧ x = { s with sram := x.sram, mem := x.mem } ∧
        x.sram = { s.sram with bad := x.sram.bad, banks := s.sram.banks.set b (if (tfind s.sram.keys b).isSome then 3 else 2) } ∧
        (∀ w, w % 8 = 0 → (w ∈ x.sram.bad ↔ w ∈ s.sram.bad ∧ sramBankOf w ≠ some b.val)) ∧
        (∀ addr, sramBankOf addr = some b.val → memByte x.ddr x.mem addr = 0) ∧
        (∀ addr, sramBankOf addr ≠ some b.val → memByte x.ddr x.mem addr = memByte s.ddr s.mem addr)) ∧
    (∀ (word : Fin 65536) (i : Fin 33) (bin : Option (Fin 65536)), s.changes = [] →
      (s.rbit pSRAM 0x10 9 = false → ∀ e, exec (.sramScrubStep b word e bin) s = .next s) ∧
      (s.rbit pSRAM 0x10 9 = true → s.bankUsable b = true →
        (scrubAddr b.val word.val ∉ s.sram.bad → ∃ x, exec (.sramScrubStep b word (.correctable i) bin) s = .next x ∧
          x.rg pSRAM 0x108 = (if s.rg pSRAM 0x108 = 0xFFFFFFFF then 0xFFFFFFFF else s.rg pSRAM 0x108 + 1) ∧
          (s.rbit pSRAM 0x110 31 = false →
            x.rg pSRAM 0x110 = wd (word.val + at' b.val 16 + 2 ^ 25 + 2 ^ 31)) ∧
          regsBut s x [rkey pSRAM 0x108, rkey pSRAM 0x110] ∧ x = { s with regs := x.regs }) ∧
        (∃ x, exec (.sramScrubStep b word (.uncorrectable i) bin) s = .next x ∧
          x.rg pSRAM 0x10C = (if s.rg pSRAM 0x10C = 0xFFFFFFFF then 0xFFFFFFFF else s.rg pSRAM 0x10C + 1) ∧
          (s.rbit pSRAM 0x110 31 = false →
            x.rg pSRAM 0x110 = wd (word.val + at' b.val 16 + 2 ^ 24 + 2 ^ 25 + 2 ^ 31)) ∧
          bitAt (x.rg pBKP 0x100) 18 = true ∧ x.ports = s.ports ∧
          (b.val ≠ 7 → scrubAddr b.val word.val / 8 * 8 ∈ x.sram.bad) ∧
          (b.val = 7 → ∀ k, bin = some k → (x.binRec k).st = .lost))))

/-- The DDR controller (R120–R123). -/
def Obligations.DramTrainingAndKeys : Prop :=
  ∀ (s u t : State) (a : AgentId) (k : List Byte),
    (CtrlBits s u a pDDR 0x100 → u.ddr.mode ≠ 1 →
      (fld (u.rg pDDR 0x100) 0 2 ≠ 3 → fld (u.rg pDDR 0x100) 4 2 ≠ 3 → u.pwr.dramUp = true →
        ∃ x, exec (.ddrTrain a) s = .next x ∧ ok x a ∧ x.ddr = { u.ddr with mode := 1 } ∧
          x.rg pDDR 0x104 = 0 ∧ regsBut u x [rkey pDDR 0x10, rkey pDDR 0x104] ∧
          x = { u with regs := x.regs, pairs := x.pairs, ports := x.ports, ddr := x.ddr, pwr := x.pwr }) ∧
      ((fld (u.rg pDDR 0x100) 0 2 = 3 ∨ fld (u.rg pDDR 0x100) 4 2 = 3) →
        ∃ x, exec (.ddrTrain a) s = .next x ∧ ok x a ∧ x.rg pDDR 0x104 = 1 ∧ bitAt (x.rg pDDR 0x1C) 16 = true ∧
          x.ddr.mode ≠ 1 ∧ regsBut u x [rkey pDDR 0x10, rkey pDDR 0x104, rkey pDDR 0x1C] ∧
          x = { u with regs := x.regs, pairs := x.pairs, ports := x.ports, ddr := x.ddr })) ∧
    (s.ddr.mode = 1 → ∀ (step lanes : Fin 16) (rank : Bool),
      (∃ x, exec (.ddrTrainDone true step lanes rank) s = .next x ∧ x.rg pDDR 0x104 = 3 ∧
        x.rg pDDR 0x108 = wd (1024 * 2 ^ fld (s.rg pDDR 0x100) 0 2 * 2 ^ fld (s.rg pDDR 0x100) 2 1) ∧
        x.ddr = { s.ddr with mode := 2, trained := true } ∧ regsBut s x [rkey pDDR 0x104, rkey pDDR 0x108] ∧
        x = { s with regs := x.regs, ddr := x.ddr, mem := x.mem } ∧
        (∀ addr, (∀ r ∈ patternRanges (s.rg pDDR 0x100), addr < r.1 ∨ r.1 + r.2 ≤ addr) →
          memByte x.ddr x.mem addr = memByte s.ddr s.mem addr)) ∧
      (∃ x, exec (.ddrTrainDone false step lanes rank) s = .next x ∧ x.ddr.mode = 0 ∧ x.ddr.trained = false ∧
        x.rg pDDR 0x104 = wd (1 + 16 * step.val + 256 * lanes.val + (if rank then 4096 else 0)) ∧
        regsBut s x [rkey pDDR 0x104] ∧ x = { s with regs := x.regs, ddr := x.ddr })) ∧
    (CtrlBits s u a pDDR 0x200 →
      ((u.ddr.keyUsed || u.ddr.drawWait) = false → u.ddr.trained = true → u.ddr.mode ≠ 1 →
        ∃ x, exec (.ddrKey a) s = .next x ∧ ok x a ∧ x.ddr.drawWait = true ∧ x.ddr.keyed = u.ddr.keyed ∧
          regsBut u x [rkey pDDR 0x10] ∧
          x = { u with regs := x.regs, pairs := x.pairs, ports := x.ports, ddr := x.ddr }) ∧
      ((u.ddr.keyUsed || u.ddr.drawWait) = true →
        ∃ x, exec (.ddrKey a) s = .next x ∧ ok x a ∧ bitAt (x.rg pDDR 0x1C) 19 = true ∧
          x.ddr.keys = u.ddr.keys ∧ regsBut u x [rkey pDDR 0x10, rkey pDDR 0x1C] ∧
          x = { u with regs := x.regs, pairs := x.pairs, ports := x.ports, ddr := x.ddr })) ∧
    (s.ddr.drawWait = true → s.rng.ready = true → s.rng.fault = false → s.wireDraw keyWire 64 = (t, 0, k) →
      ∃ x, exec (.keystoreDraw .ddr) s = .next x ∧ x.ddr.keyed = true ∧ x.ddr.keyUsed = true ∧ x.ddr.keys = k ∧
        x.ddr.drawWait = false ∧ x = { t with ddr := x.ddr, mem := x.mem } ∧
        (∀ addr, regionOf addr ≠ some .dram → memByte x.ddr x.mem addr = memByte t.ddr t.mem addr)) ∧
    (s.ddr.drawWait = true → s.rng.fault = true →
      ∃ x, exec (.keystoreDraw .ddr) s = .next x ∧ bitAt (x.rg pDDR 0x1C) 17 = true ∧
        x.ddr = { s.ddr with drawWait := false } ∧ regsBut s x [rkey pDDR 0x1C] ∧
        x = { s with regs := x.regs, ddr := x.ddr }) ∧
    (∀ c d : Fin 8, s.ddr.mode = 2 → ∃ x, exec (.ddrMr4Poll c d) s = .next x ∧
      x.rg pDDR 0x10C = wd (c.val + 256 * d.val) ∧ x = { s with regs := x.regs } ∧
      ((c = 7 ∨ d = 7) → bitAt (x.rg pDDR 0x1C) 18 = true ∧ bitAt (x.rg pDDR 0x20) 0 = true) ∧
      regsBut s x ([rkey pDDR 0x10C] ++ if c = 7 ∨ d = 7 then [rkey pDDR 0x1C, rkey pDDR 0x20] else [])) ∧
    exec .ddrZqCalibration s = .next s ∧ exec .ddrDqsRetrain s = .next s

/-- The memory seal (R126, R129–R133). -/
def Obligations.ProtectedWindow : Prop :=
  ∀ (s u t : State) (a : AgentId) (k : List Byte),
    (CtrlBits s u a pMSEAL 0x100 → (u.mseal.initUsed || u.mseal.initBusy) = false → u.msealBadWindow = false →
      ∃ x, exec (.msealInit a) s = .next x ∧ ok x a ∧
        x.mseal = { u.mseal with initBusy := true, drawWait := true } ∧
        x.rg pMSEAL 0x108 = wd (u.dramBytes / 0x100000 - reserveMiB (fld (u.rg pMSEAL 0x104) 0 3)) ∧
        regsBut u x [rkey pMSEAL 0x10, rkey pMSEAL 0x108] ∧
        x = { u with regs := x.regs, pairs := x.pairs, ports := x.ports, mseal := x.mseal }) ∧
    (CtrlBits s u a pMSEAL 0x100 → ((u.mseal.initUsed || u.mseal.initBusy) = true ∨ u.msealBadWindow = true) →
      ∃ x, exec (.msealInit a) s = .next x ∧ ok x a ∧
        bitAt (x.rg pMSEAL 0x1C) (if u.mseal.initUsed || u.mseal.initBusy then 18 else 16) = true ∧
        regsBut u x [rkey pMSEAL 0x10, rkey pMSEAL 0x1C] ∧
        x = { u with regs := x.regs, pairs := x.pairs, ports := x.ports }) ∧
    (s.mseal.drawWait = true → s.rng.ready = true → s.rng.fault = false → s.wireDraw keyWire 32 = (t, 0, k) →
      ∃ x, exec (.keystoreDraw .mseal) s = .next x ∧
        x = { t with mseal := { t.mseal with drawWait := false, initUsed := true, macKey := k } }) ∧
    (s.tamp.halted = false → s.mseal.initBusy = true → s.mseal.drawWait = false →
      ∃ x, exec .msealInitDone s = .next x ∧ x = { s with mseal := x.mseal, ddr := x.ddr, mem := x.mem } ∧
        x.mseal.winReady = true ∧ x.mseal.initBusy = false ∧ (∀ l, x.mseal.lineCounter l = 0) ∧
        (∀ addr, regionOf addr = some .dram → s.winBase ≤ addr → addr < s.winBase + s.winSize →
          memByte x.ddr x.mem addr = 0) ∧
        (∀ addr, addr < s.winBase ∨ s.winBase + s.winSize ≤ addr →
          addr < s.ddr.zeroLo ∨ s.ddr.zeroLo + s.ddr.zeroLen ≤ addr →
          memByte x.ddr x.mem addr = memByte s.ddr s.mem addr)) ∧
    (∀ (line : Addr) (d : List Byte) (l : Nat), line.toNat % 64 = 0 → s.inWindow line.toNat 64 = true →
      regionOf line.toNat = some .dram → s.issues a.toNat = true → l = (line.toNat - s.winBase) / 64 →
      (Served s a line.toNat 64 .read .none →
        ∃ x, exec (.msealLineRead a line .none) s = .next x ∧
          x.port a.toNat = { data := leNat (s.peek line.toNat 64), fault := .none } ∧
          x = { s with regs := x.regs, ports := x.ports, mseal := x.mseal } ∧ x.mseal.blocks = s.mseal.blocks) ∧
      (∀ (b : SealBad) (kd : Nat), s.rbit pMSEAL 0x114 31 = false → Served s a line.toNat 64 .read (.seal b) →
        ((b = .line 0 ∧ kd = 1) ∨ (b = .block ∧ kd = 2 ∧ ∀ e ∈ s.mseal.cache, e.1 ≠ s.nodeLine 0 (l / 64))) →
          ∃ x, exec (.msealLineRead a line (.seal b)) s = .next x ∧
            x.port a.toNat = { data := 0, fault := .data } ∧ x.mseal.broken = true ∧ x.mseal.cache = [] ∧
            x.rg pMSEAL 0x10C = wd (s.winBase + 64 * l) ∧
            x.rg pMSEAL 0x114 = wd (a.toNat + 256 * kd + 2 ^ 31) ∧ bitAt (x.rg pBKP 0x100) 20 = true) ∧
      (Served s a line.toNat 64 .write .none → d.length = 64 →
        tget 0 (tget {} s.mseal.blocks (l / 64)).minors (l % 64) = 63 →
        (tget {} s.mseal.blocks (l / 64)).major < 2 ^ 56 - 1 →
          ∃ x, exec (.msealLineWrite a line d .none) s = .next x ∧ ok x a ∧
            (tget {} x.mseal.blocks (l / 64)).major = (tget {} s.mseal.blocks (l / 64)).major + 1 ∧
            (∀ i, i < 64 → tget 0 (tget {} x.mseal.blocks (l / 64)).minors i = if i = l % 64 then 1 else 0)) ∧
      (Served s a line.toNat 64 .write .none → d.length = 64 →
        tget 0 (tget {} s.mseal.blocks (l / 64)).minors (l % 64) < 63 →
          ∃ x, exec (.msealLineWrite a line d .none) s = .next x ∧ ok x a ∧
            x.mseal.lineCounter l = s.mseal.lineCounter l + 1 ∧
            (∀ j, j ≠ l → x.mseal.lineCounter j = s.mseal.lineCounter j) ∧
            (∀ i, i < 64 → memByte x.ddr x.mem (line.toNat + i) = d.getD i 0) ∧
            (∀ addr, addr < line.toNat ∨ line.toNat + 64 ≤ addr →
              memByte x.ddr x.mem addr = memByte s.ddr s.mem addr) ∧
            x = { s with regs := x.regs, ports := x.ports, mseal := x.mseal, mem := x.mem })) ∧
    (∀ m, s.tamp.halted = false → s.mseal.cache.getLast? = some (m, false) → exec (.msealMetadataWriteback none) s =
      .next { s with mseal := { s.mseal with cache := s.mseal.cache.dropLast } }) ∧
    (∀ m lv i p, s.tamp.halted = false → s.mseal.cache.getLast? = some (m, true) → s.lineNode m = some (lv, i) →
      p = s.nodeLine (lv + 1) (i / 8) →
      ((lv = s.sealLevels ∨ s.mseal.cache.dropLast.any (fun e => e.1 == p) = true ∨ s.mseal.cache.length ≤ 2042) →
        ∃ x, exec (.msealMetadataWriteback none) s = .next x ∧ x = { s with mseal := x.mseal, regs := x.regs } ∧
          tget 0 x.mseal.nodes (nodeKey lv i) = (tget 0 s.mseal.nodes (nodeKey lv i) + 1) % 2 ^ 56 ∧
          (∀ j, j ≠ nodeKey lv i → tget 0 x.mseal.nodes j = tget 0 s.mseal.nodes j) ∧
          x.mseal.blocks = s.mseal.blocks ∧ (lv ≠ s.sealLevels → (p, true) ∈ x.mseal.cache)) ∧
      (∀ l : Fin 6, l.val = lv + 1 → lv ≠ s.sealLevels → (∀ e ∈ s.mseal.cache, e.1 ≠ p) →
        ∃ x, exec (.msealMetadataWriteback (some (.node l))) s = .next x ∧
          x.mseal.broken = true ∧ x.mseal.cache = [] ∧ bitAt (x.rg pBKP 0x100) 20 = true))

/-! ### Flash and random numbers -/

/-- Flash programs and erases (R138–R142). -/
def Obligations.FlashProgramsAndErases : Prop :=
  ∀ (s t : State) (a : AgentId) (c : Fin 2) (v : Word) (low : Bool),
    (Writes s t a pFLASH (chanReg c 0x100) →
      ((t.flash.chan c).stuck = false → (t.flash.chan c).unlock = 0 → v = 0xC3A5 → ∃ x, exec (.flashKeyWrite a c v) s = .next x ∧ ok x a ∧
        x.flash.chans = t.flash.chans.set c { t.flash.chan c with unlock := 1, keyAgent := a.toNat } ∧
        x = { t with flash := { t.flash with chans := x.flash.chans }, ports := x.ports }) ∧
      ((t.flash.chan c).stuck = false → (t.flash.chan c).unlock = 1 → (t.flash.chan c).keyAgent = a.toNat → v = 0x5A3C →
        ∃ x, exec (.flashKeyWrite a c v) s = .next x ∧ ok x a ∧
          x.flash.chans = t.flash.chans.set c { t.flash.chan c with unlock := 2, owner := a.toNat } ∧
          x = { t with flash := { t.flash with chans := x.flash.chans }, ports := x.ports }) ∧
      (v ≠ 0xC3A5 → v ≠ 0x5A3C → ∃ x, exec (.flashKeyWrite a c v) s = .next x ∧ ok x a ∧
        x.flash.chans = t.flash.chans.set c { t.flash.chan c with unlock := 0, owner := 0, stuck := true } ∧
        bitAt (x.rg pFLASH 0x1C) 16 = true ∧ bitAt (x.rg pBKP 0x100) 28 = true)) ∧
    (Writes (s.vinReads low) t a pFLASH (chanReg c 0x118) → (t.flash.chan c).owner ≠ a.toNat →
      (t.flash.chan c).unlock ≠ 1 →
      (∃ x, exec (.flashProgram a c low) s = .next x ∧ ok x a ∧ bitAt (x.rg pFLASH 0x1C) 3 = true ∧
        regsBut t x [rkey pFLASH 0x1C] ∧ x = { t with regs := x.regs, ports := x.ports }) ∧
      (∃ x, exec (.flashEraseSector a c low) s = .next x ∧ ok x a ∧ bitAt (x.rg pFLASH 0x1C) 3 = true ∧
        regsBut t x [rkey pFLASH 0x1C] ∧ x = { t with regs := x.regs, ports := x.ports })) ∧
    (∀ off, Writes (s.vinReads low) t a pFLASH (chanReg c 0x118) → FlashIdle t c a →
      off = fld (t.rg pFLASH (chanReg c 0x104)) 0 23 → off / 0x400000 = c.val → off % 16 = 0 →
      t.flashProtected a.toNat (off / 0x4000) = false →
      (∃ p q d, t.judge ((gateOf (0x10000000 + off)).getD 0) a.toNat (0x10000000 + off) 16 .write = .letPass p q d) →
      (low = true → ∃ x, exec (.flashProgram a c low) s = .next x ∧ ok x a ∧ FlashDone x c 1 7 0 ∧
        x = { t with regs := x.regs, ports := x.ports }) ∧
      (low = false → tget 3 t.flash.ws (off / 16) ≠ 3 →
        ∃ x, exec (.flashProgram a c low) s = .next x ∧ ok x a ∧ FlashDone x c 1 1 0 ∧
          regsBut t x [rkey pFLASH (chanReg c 0x11C), rkey pFLASH 0x20] ∧
          x = { t with regs := x.regs, ports := x.ports }) ∧
      (low = false → tget 3 t.flash.ws (off / 16) = 3 → t.flash.sectState (off / 0x4000) ≠ 1 →
        ∃ x d, exec (.flashProgram a c low) s = .next x ∧ ok x a ∧
          (x.flash.chans = t.flash.chans.set c { t.flash.chan c with prog := some (off / 16, d) }) ∧
          d = (List.range 4).flatMap (fun i => leBytes 4 (t.rg pFLASH (chanReg c (0x108 + 4 * i))).toNat) ∧
          tget 3 x.flash.ws (off / 16) = 1 ∧ (∀ w, w ≠ off / 16 → tget 3 x.flash.ws w = tget 3 t.flash.ws w) ∧
          x.rg pFLASH (chanReg c 0x11C) = 0x100 ∧ regsBut t x [rkey pFLASH (chanReg c 0x11C)] ∧
          x = { t with flash := x.flash, regs := x.regs, ports := x.ports })) ∧
    (∀ w d, (s.flash.chan c).prog = some (w, d) → s.flash.lowerAt = none →
      (∃ x, exec (.flashProgramDone c true) s = .next x ∧ FlashDone x c 1 0 0 ∧ tget 3 x.flash.ws w = 0 ∧
        x.flash.chans = s.flash.chans.set c { s.flash.chan c with prog := none } ∧
        (∀ i, i < d.length → memByte x.ddr x.mem (0x10000000 + 16 * w + i) = d.getD i 0) ∧
        (∀ y, y < 0x10000000 + 16 * w ∨ 0x10000000 + 16 * w + d.length ≤ y →
          memByte x.ddr x.mem y = memByte s.ddr s.mem y) ∧
        regsBut s x [rkey pFLASH (chanReg c 0x11C), rkey pFLASH 0x20] ∧
        x = { s with flash := x.flash, regs := x.regs, mem := x.mem }) ∧
      (∃ x, exec (.flashProgramDone c false) s = .next x ∧ FlashDone x c 1 6 0 ∧ x.flash.ws = s.flash.ws ∧
        regsBut s x [rkey pFLASH (chanReg c 0x11C), rkey pFLASH 0x20] ∧
        x = { s with flash := x.flash, regs := x.regs })) ∧
    (∀ sec, Writes (s.vinReads false) t a pFLASH (chanReg c 0x118) → FlashIdle t c a →
      sec = fld (t.rg pFLASH (chanReg c 0x104)) 14 9 → sec / 256 = c.val → t.flashProtected a.toNat sec = false →
      (∃ p q d, t.judge ((gateOf (0x10000000 + sec * 0x4000)).getD 0) a.toNat (0x10000000 + sec * 0x4000) 0x4000
        .write = .letPass p q d) → low = false →
      ∃ x, exec (.flashEraseSector a c low) s = .next x ∧ ok x a ∧
        x.flash.chans = t.flash.chans.set c { t.flash.chan c with
          erase := some sec, step := 0, suspended := false, auto := false, want := false, age := 0 } ∧
        x.flash.governing sec = t.flash.governing sec ∧ olderRow x.flash sec = {} ∧
        x.flash.ws = t.flash.ws ∧ x.rg pFLASH (chanReg c 0x11C) = 0x200 ∧
        regsBut t x [rkey pFLASH (chanReg c 0x11C)] ∧
        x = { t with flash := x.flash, regs := x.regs, ports := x.ports }) ∧
    (∀ (sec : Nat) (g : SectRow), (s.flash.chan c).erase = some sec → (s.flash.chan c).suspended = false →
      g = s.flash.governing sec →
      ((s.flash.chan c).step = 0 → ∃ x, exec (.flashEraseDone ⟨c, 0⟩) s = .next x ∧ x.flash.governing sec = g ∧
        olderRow x.flash sec = { seq := g.seq + 1, erases := g.erases + 1, started := 1 } ∧
        x.flash.chans = s.flash.chans.set c { s.flash.chan c with step := 1 } ∧ x = { s with flash := x.flash }) ∧
      ((s.flash.chan c).step = 1 → olderRow s.flash sec = { seq := g.seq + 1, erases := g.erases + 1, started := 1 } →
        ∃ x, exec (.flashEraseDone ⟨c, 1⟩) s = .next x ∧
          x.flash.governing sec = { seq := g.seq + 1, erases := g.erases + 1, started := 0 } ∧
          x.flash.chans = s.flash.chans.set c { s.flash.chan c with step := 2 } ∧ x = { s with flash := x.flash }) ∧
      ((s.flash.chan c).step = 2 → ∃ x, exec (.flashEraseDone ⟨c, 2⟩) s = .next x ∧
        x.flash.governing sec = { g with done := 1 } ∧
        x.flash.chans = s.flash.chans.set c { s.flash.chan c with step := 3 } ∧
        (∀ w, tget 3 x.flash.ws w = if w / 1024 = sec then 3 else tget 3 s.flash.ws w) ∧
        (∀ y, (∃ b, regionOf y = some (.flash b)) → (y - 0x10000000) / 0x4000 = sec → memByte x.ddr x.mem y = 0xFF) ∧
        (∀ y, y < 0x10000000 + sec * 0x4000 ∨ 0x10000000 + (sec + 1) * 0x4000 ≤ y →
          memByte x.ddr x.mem y = memByte s.ddr s.mem y) ∧ x = { s with flash := x.flash, mem := x.mem }) ∧
      ((s.flash.chan c).step = 3 → (s.flash.chan c).lowers = false → s.flash.lowerAt = none →
        ∃ x, exec (.flashEraseDone ⟨c, 3⟩) s = .next x ∧ FlashDone x c 2 0 0 ∧
          x.flash.governing sec = { g with done := 0 } ∧ sec ∉ x.flash.intSectors ∧ x.flash.ws = s.flash.ws ∧
          x.flash.chans = s.flash.chans.set c { s.flash.chan c with erase := none, want := false, step := 0 } ∧
          regsBut s x [rkey pFLASH (chanReg c 0x11C), rkey pFLASH 0x20] ∧
          x = { s with flash := x.flash, regs := x.regs }))

/-- Flash suspends, checks, read-out protection and the scan (R138, R139, R141, R143–R145, R148, R149). -/
def Obligations.FlashChecksAndProtection : Prop :=
  ∀ (s t : State) (a : AgentId) (c : Fin 2),
    (Writes s t a pFLASH (chanReg c 0x118) → (t.flash.chan c).unlock = 2 → (t.flash.chan c).owner = a.toNat →
      (t.flash.chan c).prog = none → (t.flash.chan c).check = none → (t.flash.chan c).lowers = false →
      (∀ sec, (t.flash.chan c).erase = some sec → (t.flash.chan c).suspended = false →
        ∃ x, exec (.flashSuspend a c) s = .next x ∧ ok x a ∧ FlashDone x c 3 0 0 ∧
          x.flash.chans = t.flash.chans.set c { t.flash.chan c with suspended := true, auto := false, want := false } ∧
          regsBut t x [rkey pFLASH (chanReg c 0x11C), rkey pFLASH 0x20] ∧
          x = { t with flash := { t.flash with chans := x.flash.chans }, regs := x.regs, ports := x.ports }) ∧
      (∀ sec, (t.flash.chan c).erase = some sec → (t.flash.chan c).suspended = true →
        ∃ x, exec (.flashResume a c) s = .next x ∧ ok x a ∧ FlashDone x c 4 0 0 ∧
          x.flash.chans = t.flash.chans.set c { t.flash.chan c with suspended := false, auto := false } ∧
          regsBut t x [rkey pFLASH (chanReg c 0x11C), rkey pFLASH 0x20] ∧
          x = { t with flash := { t.flash with chans := x.flash.chans }, regs := x.regs, ports := x.ports }) ∧
      ((t.flash.chan c).erase = none →
        (∃ x, exec (.flashSuspend a c) s = .next x ∧ ok x a ∧ FlashDone x c 3 8 0 ∧ x.flash = t.flash) ∧
        (∃ x, exec (.flashResume a c) s = .next x ∧ ok x a ∧ FlashDone x c 4 8 0 ∧ x.flash = t.flash) ∧
        (∀ sec, sec = fld (t.rg pFLASH (chanReg c 0x104)) 14 9 → sec / 256 = c.val →
          (∃ x, exec (.flashBlankCheck a c) s = .next x ∧ ok x a ∧ x.rg pFLASH (chanReg c 0x11C) = 0x500 ∧
            x.flash.chans = t.flash.chans.set c { t.flash.chan c with check := some (5, sec) } ∧
            regsBut t x [rkey pFLASH (chanReg c 0x11C)] ∧
            x = { t with flash := { t.flash with chans := x.flash.chans }, regs := x.regs, ports := x.ports }) ∧
          (∃ x, exec (.flashMarginCheck a c) s = .next x ∧ ok x a ∧ x.rg pFLASH (chanReg c 0x11C) = 0x600 ∧
            x.flash.chans = t.flash.chans.set c { t.flash.chan c with check := some (6, sec) } ∧
            regsBut t x [rkey pFLASH (chanReg c 0x11C)] ∧
            x = { t with flash := { t.flash with chans := x.flash.chans }, regs := x.regs, ports := x.ports })) ∧
        (∃ x, exec (.flashRelock a c) s = .next x ∧ ok x a ∧ FlashDone x c 15 0 0 ∧
          x.flash.chans = t.flash.chans.set c { t.flash.chan c with unlock := 0, owner := 0, keyAgent := 0 } ∧
          x = { t with flash := { t.flash with chans := x.flash.chans }, regs := x.regs, ports := x.ports }) ∧
        (∀ new, new = fld (t.rg pFLASH (chanReg c 0x108)) 0 2 →
          (c = 1 → ∃ x, exec (.flashSetRdp a c) s = .next x ∧ ok x a ∧ FlashDone x c 7 13 0 ∧ x.flash = t.flash) ∧
          (c = 0 → a.toNat ≠ aMCORE →
            ∃ x, exec (.flashSetRdp a c) s = .next x ∧ ok x a ∧ FlashDone x c 7 12 0 ∧ x.flash = t.flash) ∧
          (c = 0 → a.toNat = aMCORE → new ≤ 2 → t.rdpLevel < new → t.rdpLevel ≠ 2 → rdpMove t.lcState t.rdpLevel new = true →
            ∃ x, exec (.flashSetRdp a c) s = .next x ∧ ok x a ∧ FlashDone x c 7 0 0 ∧
              x = { t with flash := { t.flash with rdp := new }, regs := x.regs, ports := x.ports }) ∧
          (c = 0 → a.toNat = aMCORE → new = 0 → t.rdpLevel = 1 → rdpMove t.lcState 1 0 = true →
            ∃ x, exec (.flashSetRdp a c) s = .next x ∧ ok x a ∧ x.rg pFLASH 0x11C = 0x700 ∧ x.flash.rdp = t.flash.rdp ∧
              x.flash.lowering = true ∧ x.flash.lowerAt = some 0 ∧
              x.flash.chans = t.flash.chans.set 0 { t.flash.chan 0 with
                erase := some 0, step := 0, lowers := true, suspended := false, auto := false, want := false, age := 0 } ∧
              x = { t with flash := x.flash, regs := x.regs, ports := x.ports })))) ∧
    (∀ sec, (s.flash.chan c).erase = some sec → (s.flash.chan c).suspended = false → (s.flash.chan c).step = 3 →
      (s.flash.chan c).lowers = true →
      (∀ next : Nat, lowerAfter sec = some next → next / 256 = c.val →
        (s.flash.chan c).prog = none → (s.flash.chan c).check = none →
        ∃ x, exec (.flashEraseDone ⟨c, 3⟩) s = .next x ∧ x.flash.lowerAt = some next ∧
          (x.flash.chan c).erase = some next ∧ (x.flash.chan c).step = 0 ∧ (x.flash.chan c).lowers = true ∧
          x.flash.rdp = s.flash.rdp ∧ x = { s with flash := x.flash }) ∧
      (sec = 511 → ∃ x, exec (.flashEraseDone ⟨c, 3⟩) s = .next x ∧ FlashDone x 0 7 0 0 ∧ x.flash.rdp = 0 ∧
        x.flash.lowering = false ∧ x.flash.lowerAt = none ∧ x = { s with flash := x.flash, regs := x.regs })) ∧
    (∀ (sec : Nat) (weak : Fin 1025), s.flash.lowerAt = none →
      ((s.flash.chan c).check = some (6, sec) → ∃ x, exec (.flashCheckDone c weak) s = .next x ∧
        FlashDone x c 6 (if weak = 0 then 0 else 11) weak ∧
        x.flash = { s.flash with chans := s.flash.chans.set c { s.flash.chan c with check := none } } ∧
        x = { s with flash := x.flash, regs := x.regs }) ∧
      ((s.flash.chan c).check = some (5, sec) → s.flash.sectState sec ≠ 1 → s.flash.sectState sec ≠ 2 →
        ∃ x, exec (.flashCheckDone c weak) s = .next x ∧
          ((∀ i, i < 1024 → tget 3 s.flash.ws (1024 * sec + i) = 3) → FlashDone x c 5 0 0) ∧
          (∀ i, i < 1024 → tget 3 s.flash.ws (1024 * sec + i) ≠ 3 →
            (∀ j, j < i → tget 3 s.flash.ws (1024 * sec + j) = 3) → FlashDone x c 5 10 i) ∧
          x = { s with flash := x.flash, regs := x.regs })) ∧
    (s.flash.scanned = false → (∀ h ∈ s.flash.chans, h.prog = none) → s.flash.lowering = false →
      ∃ x, exec .flashScan s = .next x ∧ x.flash.scanned = true ∧
        (∀ sec, sec ∈ x.flash.intSectors ↔ s.flash.sectState sec = 1) ∧
        x = { s with flash := { s.flash with scanned := true, intSectors := x.flash.intSectors } }) ∧
    (∀ sec, (s.flash.chan c).erase = some sec →
      ((s.flash.chan c).suspended = false → (s.flash.chan c).want = true →
        exec (.flashSuspendTaken c) s = .next { s with flash := { s.flash with
          chans := s.flash.chans.set c { s.flash.chan c with suspended := true, auto := true, want := false } } }) ∧
      ((s.flash.chan c).suspended = true → (s.flash.chan c).auto = true → (s.flash.chan c).prog = none →
        (s.flash.chan c).check = none →
        exec (.flashAutoResume c) s = .next { s with flash := { s.flash with
          chans := s.flash.chans.set c { s.flash.chan c with suspended := false, auto := false } } }))

/-- The random number generator (R151–R165). -/
def Obligations.RandomNumbers : Prop :=
  ∀ (s t u : State) (a : AgentId) (v : Word) (src : Fin 8) (bits : List Bool),
    ((s.rng.srcs.getD src {}).startup = true → s.rngOn = true →
      (((({ s.rng.srcs.getD src {} with last := none, rep := 0, winPos := 0, winCnt := 0 } : RngSrc).samples bits).2 = none →
        ∃ x y, exec (.rngStartupDone src bits) s = .next x ∧ y.startup = false ∧ y.run = true ∧
          x = { s with rng := { s.rng with srcs := s.rng.srcs.set src y } }) ∧
      (∀ apt, (({ s.rng.srcs.getD src {} with last := none, rep := 0, winPos := 0, winCnt := 0 } : RngSrc).samples bits).2 = some apt →
        ∃ x, exec (.rngStartupDone src bits) s = .next x ∧ x.rng.fault = true ∧ x.rng.seeds = [] ∧
          bitAt (x.rg pRNG 0x1C) 16 = true ∧ bitAt (x.rg pRNG 0x1C) 17 = true ∧ bitAt (x.rg pBKP 0x100) 21 = true))) ∧
    (∀ apt, (s.rng.srcs.getD src {}).run = true → s.rngOn = true →
      ∃ x, exec (.rngHealthFailure src apt) s = .next x ∧ x.rng.fault = true ∧ x.rng.seeds = [] ∧ x.rng.outs = [] ∧
        (s.rbit pRNG 0x118 31 = false → x.rg pRNG 0x118 = wd (src.val + (if apt then 16 else 0) + 2 ^ 31)) ∧
        bitAt (x.rg pRNG 0x1C) 16 = true ∧ bitAt (x.rg pRNG 0x20) 1 = true ∧ bitAt (x.rg pBKP 0x100) 21 = true ∧
        (∀ n, x.rngInst n = s.rngInst n)) ∧
    (∀ order r, order = (List.range 8).filter (fun i => (s.rng.srcs.getD i {}).run) → order ≠ [] →
      s.rng.fault = false → s.rngOn = true → r = feedBits s.rng.srcs s.rng.lfsr order bits → r.2.2 = none →
      s.rng.outs.length < 3 → s.rng.seeds.length < 4 →
      exec (.rngConditionerOutput bits) s = .next { s with rng := { s.rng with
        srcs := r.1, lfsr := r.2.1, outs := s.rng.outs ++ [leBytes 16 r.2.1] } }) ∧
    (s.rng.fault = false → s.rngOn = true → s.rng.outs.length = 3 → s.rng.seeds.length < 4 →
      ∃ x, exec .rngSeedComplete s = .next x ∧
        x.rng = { s.rng with seeds := s.rng.seeds ++ [s.rng.outs.flatten], outs := [], ready := true } ∧
        x.rg pRNG 0x10C = s.rg pRNG 0x10C + 1 ∧ (s.rng.ready = false → bitAt (x.rg pRNG 0x20) 0 = true) ∧
        regsBut s x [rkey pRNG 0x10C, rkey pRNG 0x20] ∧ x = { s with rng := x.rng, regs := x.regs }) ∧
    (∀ (n : Fin 87) (d : Drbg), s.rng.lowpwr = false →
      ((s.rng.fault = true ∨ s.rng.ready = false) → exec (.rngRequest n) s = .next s) ∧
      (10 ≤ n.val → (s.rngInst n).block ≠ [] → exec (.rngRequest n) s = .next s) ∧
      (s.rng.fault = false → s.rng.ready = true → (n.val < 10 ∨ (s.rngInst n).block = []) →
        (s.rngInst n).drbg = some d → (s.rngInst n).count < s.rngCap n →
        ∃ x, exec (.rngRequest n) s = .next x ∧ (x.rngInst n).block = (s.rngInst n).block ++ d.generate.1 ∧
          (x.rngInst n).drbg = some d.generate.2 ∧ (x.rngInst n).count = (s.rngInst n).count + 1 ∧
          (∀ m, m ≠ n.val → x.rngInst m = s.rngInst m) ∧ x = { s with rng := x.rng, regs := x.regs }) ∧
      (s.rng.fault = false → s.rng.ready = true → (n.val < 10 ∨ (s.rngInst n).block = []) →
        (s.rngInst n).drbg = some d → s.rngCap n ≤ (s.rngInst n).count →
        ∃ x, exec (.rngRequest n) s = .next x ∧ (x.rngInst n).block = (s.rngInst n).block ∧
          (x.rngInst n).stalled = true ∧ x = { s with rng := x.rng, regs := x.regs })) ∧
    (∀ seed rest n, s.rng.seeds = seed :: rest →
      (s.rngWaiting = some n → ∃ x, exec .rngInstantiate s = .next x ∧ x.rng.seeds = rest ∧
        (x.rngInst n).drbg = some (Drbg.start seed (s.rngPers n)) ∧ (x.rngInst n).count = 0 ∧
        (x.rngInst n).asked = none ∧ (∀ m, m ≠ n → x.rngInst m = s.rngInst m) ∧ x = { s with rng := x.rng }) ∧
      (s.rngWaiting = none → s.rngDue = some n → ∃ x, exec .rngReseed s = .next x ∧ x.rng.seeds = rest ∧
        (x.rngInst n).drbg = (s.rngInst n).drbg.map (fun d => d.update seed) ∧ (x.rngInst n).count = 0 ∧
        (x.rngInst n).due = none ∧ (∀ m, m ≠ n → x.rngInst m = s.rngInst m) ∧ x = { s with rng := x.rng })) ∧
    (Reads s t a pRNG 0x100 →
      (t.rng.fault = false → (t.rngInst (rngPort a.toNat)).block ≠ [] →
        ∃ x, exec (.rngDataRead a) s = .next x ∧
          x.port a.toNat = { data := (wordOf (t.rngInst (rngPort a.toNat)).block).toNat, fault := .none } ∧
          (x.rngInst (rngPort a.toNat)).block = (t.rngInst (rngPort a.toNat)).block.drop 4 ∧
          x = { t with rng := x.rng, aregs := x.aregs, ports := x.ports }) ∧
      (t.rng.fault = true → ∃ x, exec (.rngDataRead a) s = .next x ∧
        x.port a.toNat = { data := 0, fault := .none } ∧ x.arg a.toNat pRNG 0x104 = 3 ∧
        x = { t with aregs := x.aregs, ports := x.ports })) ∧
    (Pairs s u a pRNG 0x10 v → ∃ x, exec (.rngLowpwr a v (~~~ v)) s = .next x ∧ ok x a ∧
      x.rng = { u.rng with lowpwr := bitAt v 8, srcs := x.rng.srcs } ∧
      (bitAt v 8 = true → u.rng.lowpwr = false → ∀ i, 2 ≤ i → i < 8 → (x.rng.srcs.getD i {}).run = false) ∧
      x.rg pRNG 0x10 = v &&& 0x101 ∧ regsBut u x [rkey pRNG 0x10] ∧
      x = { u with rng := x.rng, regs := x.regs, pairs := x.pairs, ports := x.ports }) ∧
    (Writes s t a pRNG 0x108 → bitAt (t.rg pRNG 0x30) 0 = false →
      ∃ x, exec (.rngReseedCapWrite a v) s = .next x ∧ ok x a ∧
        (x.rg pRNG 0x108).toNat = max 1024 (min 1048576 (fld v 0 21)) ∧ regsBut t x [rkey pRNG 0x108] ∧
        x = { t with regs := x.regs, ports := x.ports })

/-! ### Key store -/

/-- KEY's management port (R174, R177–R182, R184, R187). -/
def Obligations.KeyManagement : Prop :=
  ∀ (s t w : State) (a : AgentId) (bs : List Byte),
    (a.toNat ≠ aKCORE → Writes s t a pKEY 0x108 → ∃ x, exec (.keyLoad a) s = .next x ∧ ok x a ∧
      bitAt (x.rg pKEY 0x1C) 3 = true ∧ x.key = t.key ∧ regsBut t x [rkey pKEY 0x1C]) ∧
    (KeyTakes s t a →
      (t.fillCheck 2 = none → slotLenOk t.argSlot (fld (t.rg pKEY 0x110) 0 8) t.argLen = true → t.argLen ≤ 64 →
        t.spaceFor t.argSlot t.argLen = true → 32 ≤ t.argSlot →
        ∃ x, exec (.keyLoad a) s = .next x ∧ KeyRan t x a 1 0 (some t.argSlot) ∧
          x.slot t.argSlot = some (t.argKey (t.loadBytes.take t.argLen)) ∧
          (∀ n, n ≠ t.argSlot → x.slot n = t.slot n) ∧ x = { t with regs := x.regs, key := x.key, ports := x.ports }) ∧
      (t.loadMode < 2 → ∃ x, exec (.keyLoad a) s = .next x ∧ KeyRan t x a 1 2 none ∧ ∀ n, x.slot n = t.slot n) ∧
      (t.loadMode = 2 → 1015 < t.argSlot → ∃ x, exec (.keyLoad a) s = .next x ∧ KeyRan t x a 1 3 none ∧
        ∀ n, x.slot n = t.slot n) ∧
      (t.loadMode = 2 → t.argSlot ≤ 1015 → t.argBad = false → (t.slot t.argSlot).isSome = true →
        ∃ x, exec (.keyLoad a) s = .next x ∧ KeyRan t x a 1 4 none ∧ ∀ n, x.slot n = t.slot n) ∧
      (t.fillCheck 1 = none → fld (t.rg pKEY 0x110) 0 8 < 0x10 →
        slotLenOk t.argSlot (fld (t.rg pKEY 0x110) 0 8) t.argLen = true → t.spaceFor t.argSlot t.argLen = true →
        32 ≤ t.argSlot → (keyBusy t 3).wireDraw 4 t.argLen = (w, 0, bs) →
        ∃ x, exec (.keyGenerate a) s = .next x ∧ ok x a ∧
          x.key.run = some { cmd := 3, code := some 0, target := some t.argSlot } ∧
          x.slot t.argSlot = some (t.argKey bs) ∧ (∀ n, n ≠ t.argSlot → x.slot n = t.slot n) ∧
          x = { w with key := x.key, ports := x.ports }) ∧
      (t.deriveCheck = none → ∃ x, exec (.keyDerive a) s = .next x ∧ ok x a ∧
        x.key = { t.key with run := some { cmd := 4, code := none, target := none } } ∧
        x = { t with regs := x.regs, key := x.key, ports := x.ports } ∧ regsBut t x [rkey pKEY 0x124]) ∧
      (∀ r q h k m, r = (keyBusy t 2).engRead aKCORE t.keyAddr 24 → r.fault = .none → h = r.data → k = blobKey h [] →
        q = r.st.engRead aKCORE (t.keyAddr + 24) (12 + k.len + 16) → q.fault = .none → leAt h 3 1 = 2 →
        leAt h 17 1 = 1 → leAt h 18 2 ≤ 1015 → 1 ≤ t.loadMode → 32 ≤ t.argSlot → t.argSlot ≤ 1015 →
        t.slot t.argSlot = none → q.st.twinRepl = false → blobBad h = false → keyTypeKnown k.typ = true →
        slotLenOk t.argSlot k.typ k.len = true → q.st.kekCheck (leAt h 18 2) 5 k.inst 2 = none →
        q.st.spaceFor t.argSlot k.len = true → OwnRuns q.st .key 0 13 q.data.length →
        (gcmOpen (q.st.slotMat (leAt h 18 2)) (q.data.take 12) h ((q.data.drop 12).take k.len)
            (q.data.drop (12 + k.len)) = some m → q.st.changes = [] →
          ∃ x, exec (.keyUnwrap a) s = .next x ∧ ok x a ∧
            x.key.run = some { cmd := 2, code := some 0, target := some t.argSlot } ∧
            x.slot t.argSlot = some (blobKey h m) ∧ (∀ n, n ≠ t.argSlot → x.slot n = q.st.slot n) ∧
            x = { q.st with key := x.key, units := x.units, ports := x.ports } ∧
            (x.unit 0).segs = (q.st.unit 0).segs ∧ ∀ n, n ≠ 0 → x.unit n = q.st.unit n) ∧
        (gcmOpen (q.st.slotMat (leAt h 18 2)) (q.data.take 12) h ((q.data.drop 12).take k.len)
            (q.data.drop (12 + k.len)) = none → q.st.changes = [] →
          ∃ x, exec (.keyUnwrap a) s = .next x ∧ ok x a ∧
            x.key.run = some { cmd := 2, code := some 12, target := none } ∧ x.key.slots = q.st.key.slots)) ∧
      (∀ k iv g r y, t.slot t.argSlot = some k → t.argSlot ≤ 1015 → t.argSlot2 ≤ 1015 →
        fld (t.rg pKEY 0x118) 24 2 = 2 → k.usage.testBit 8 = true → t.kekCheck t.argSlot2 4 k.inst 2 = none →
        t.argSlot2 ≠ 1019 → (keyBusy t 5).wireDraw 4 12 = (w, 0, iv) → OwnRuns w .key 0 13 k.len →
        g = gcmSeal (t.slotMat t.argSlot2) iv (blobHeader k 2 1 t.argSlot2) (t.slotMat t.argSlot) →
        y = (w.ownRun .key [0] (ownCtx t.argSlot2 (t.slotMat t.argSlot2)) k.len).1 →
        r = y.engWrite aKCORE t.keyAddr (blobHeader k 2 1 t.argSlot2 ++ iv ++ g.1 ++ g.2) → Went w r.st →
        ∃ x, exec (.keyExport a) s = .next x ∧ ok x a ∧
          x.key.run = some { cmd := 5, code := some (if r.fault = .none then 0 else 13), target := none } ∧
          x = { r.st with key := x.key, ports := x.ports } ∧ x.key.slots = r.st.key.slots ∧ y = { w with units := y.units }) ∧
      (∀ k, t.slot t.argSlot = some k → t.argSlot ≤ 1015 → t.argBad = false →
        ∃ x, exec (.keyRestrict a) s = .next x ∧ KeyRan t x a 6 0 none ∧
          x.slot t.argSlot = some { k with usage := k.usage &&& fld (t.rg pKEY 0x110) 8 9,
                                           owner := k.owner &&& fld (t.rg pKEY 0x114) 0 18 } ∧
          (∀ n, n ≠ t.argSlot → x.slot n = t.slot n) ∧
          x = { t with regs := x.regs, key := x.key, units := x.units, ports := x.ports }) ∧
      (t.argSlot ≤ 1015 → ∃ x, exec (.keyZeroize a) s = .next x ∧ ok x a ∧
        x.key.run = some { cmd := 7, code := some 0, target := none, slots := [t.argSlot] } ∧ x.slot t.argSlot = none ∧
        (∀ n, n ≠ t.argSlot → x.slot n = t.slot n) ∧ x.mem = t.mem) ∧
      (t.argBad = false → t.argInst < 64 → ∃ x, exec (.keyZeroizeInst a) s = .next x ∧ ok x a ∧
        x.key.run = some { cmd := 8, code := some 0, target := none, slots := t.instSlots t.argInst } ∧ x.mem = t.mem ∧
        (∀ n, n ≤ 1015 → (t.slot n).map (·.inst) = some t.argInst → x.slot n = none)) ∧
      (∀ bs', t.lcState = 0 → t.key.root = none → (keyBusy t 9).wireDraw 4 64 = (w, 0, bs') →
        ∃ x, exec (.keyRootGen a) s = .next x ∧ ok x a ∧
          x.key = { w.key with root := some (bs'.take 32, xorBytes (bs'.drop 32) (bs'.take 32)),
                               run := some { cmd := 9, code := some 0, target := none } } ∧
          x = { w with key := x.key, ports := x.ports }) ∧
      ((t.lcState ≠ 0 ∨ t.key.root.isSome = true) → ∃ x, exec (.keyRootGen a) s = .next x ∧
        KeyRan t x a 9 15 none ∧ x.key.root = t.key.root)) ∧
    (∀ r c, s.key.run = some r → r.code = some c → s.key.scrub = 0 → s.keyPending r = false → s.twinRepl = false → s.changes = [] →
      ∃ x, exec .keyCommandDone s = .next x ∧ x.rg pKEY 0x124 = wd (c + 256 * r.cmd + 2 ^ 31) ∧
        x.key = { s.key with run := none } ∧ bitAt (x.rg pKEY 0x20) 0 = true ∧
        (∀ i, i < 16 → x.rg pKEY (0x180 + 4 * i) = 0) ∧ x = { s with regs := x.regs, key := x.key })

/-- Class keys, LOAD_MODE, BOOT_OFF and injection (R175–R177, R186). -/
def Obligations.ClassKeysAndInjection : Prop :=
  ∀ (s t u w : State) (a : AgentId) (v : Word),
    (∀ m x' g ak, s.key.root = some (m, x') → lcGroup s.lcState = some g → s.key.derived = false → s.rng.ready = true →
      s.rng.fault = false → s.key.classFail = false → s.tamp.maskDue = false → s.tamp.lockdown = false → s.changes = [] →
      (∃ x, exec (.keyClassDerive false) s = .next x ∧ bitAt (x.rg pKEY 0x1C) 18 = true ∧ x.key.classFail = true ∧
        bitAt (x.rg pBKP 0x100) 22 = true) ∧
      (s.key.arenaKey = [] → s.wireDraw 4 32 = (w, 0, ak) → OwnRuns w .classes 4 21 classBytes →
        ∃ x, exec (.keyClassDerive true) s = .next x ∧ x.key.derived = true ∧ x.key.arenaKey = ak ∧
          x.key.classReady = s.key.classReady ∧ x = { w with key := x.key, units := x.units } ∧
          (∀ n lab ty us, (n, lab, ty, us) ∈ classKeys → x.slot n = some {
            typ := ty, len := 32, usage := us, owner := 0, inst := 0x7F,
            mat := kdfBytes (xorBytes m x') (lab ++ [0] ++ serialBytes ++ [g]) 32 }) ∧
          (∀ n, n < 1016 → x.slot n = w.slot n))) ∧
    (s.key.derived = true → s.classFilled = true → exec .keyClassReady s = .next { s with key := { s.key with classReady := true } }) ∧
    (a.toNat = aMCORE → Pairs s u a pKEY 0x100 v → bitAt (u.rg pKEY 0x30) 1 = false →
      ∃ x, exec (.keyCfgWrite a v (~~~ v)) s = .next x ∧ ok x a ∧
        x.rg pKEY 0x100 = wd (min (fld v 0 2) (loadCeiling u.lcState)) ∧
        (loadCeiling u.lcState < fld v 0 2 → bitAt (x.rg pKEY 0x1C) 17 = true) ∧
        regsBut u x [rkey pKEY 0x100, rkey pKEY 0x1C] ∧
        x = { u with regs := x.regs, pairs := x.pairs, ports := x.ports }) ∧
    (CtrlBits s u a pKEY 0x100 → ∃ x, exec (.keyBootOff a) s = .next x ∧ ok x a ∧ x.rbit pKEY 0x10 8 = true ∧
      (∀ ag tag, x.classAdmits 1016 ag tag = false) ∧ regsBut u x [rkey pKEY 0x10] ∧
      x = { u with key := { u.key with bootOff := true }, regs := x.regs, pairs := x.pairs, ports := x.ports }) ∧
    (∀ (n st pur off tag : Nat), n = fld v 0 10 → st = fld v 12 2 → pur = fld v 16 2 →
      off = fld (t.arg a.toNat pKEY 0x140) 0 10 → tag = fld (t.arg a.toNat pKEY 0x144) 0 7 →
      Writes s t a pKEY 0x13C →
      ((pur = 0 ∨ (1016 ≤ n ∧ t.key.classReady = false)) →
        ∃ x, exec (.keyInject a v) s = .next x ∧ ok x a ∧
          (tfind x.key.inject a.toNat).map (·.code) = some (if pur = 0 then some 9 else none) ∧
          x.arg a.toNat pKEY 0x148 = 0x40000000 ∧
          x = { t with key := { t.key with inject := x.key.inject }, aregs := x.aregs, ports := x.ports }) ∧
      (pur ≠ 0 → ∀ bit, bit = (if pur = 1 then 2 else if pur = 2 then 1 else 7) →
        (∀ code, (t.judgeUse a.toNat tag n (fun _ => true) bit, code) ∈
            [(UseVerdict.empty, 5), (UseVerdict.usage, 9), (UseVerdict.owner, 10)] →
          ∃ x, exec (.keyInject a v) s = .next x ∧ ok x a ∧
            (tfind x.key.inject a.toNat).map (·.code) = some (some code) ∧ x.arg a.toNat pKEY 0x148 = 0x40000000 ∧
            x = { t with key := { t.key with inject := x.key.inject }, aregs := x.aregs, ports := x.ports }) ∧
        (∀ k full, t.judgeUse a.toNat tag n (fun _ => true) bit = .ok → t.slot n = some k →
          full = fitTo (((injectBytes k.typ (t.slotMat n)).length + 63) / 64 * 64) (injectBytes k.typ (t.slotMat n)) →
          (((t.stave st).claim ≠ some a.toNat ∨ 1024 < off + full.length / 64) →
            ((t.stave st).claim = some a.toNat → (t.stave st).clearing = false) →
            ∃ x, exec (.keyInject a v) s = .next x ∧ ok x a ∧
              (tfind x.key.inject a.toNat).map (·.code) =
                some (some (if (t.stave st).claim = some a.toNat then 8 else 17)) ∧
              x.arg a.toNat pKEY 0x148 = 0x40000000 ∧
              x = { t with key := { t.key with inject := x.key.inject }, aregs := x.aregs, ports := x.ports }) ∧
          (off + full.length / 64 ≤ 1024 → (t.stave st).claim = some a.toNat → (t.stave st).clearing = false →
          (t.stave st).bind = none → (t.stave st).hidden = [] → (t.stave st).taint = [] →
          t.staveBlocks st (staveBase st + 64 * off) full.length = false →
          ∃ x, exec (.keyInject a v) s = .next x ∧ ok x a ∧ (tfind x.key.inject a.toNat).map (·.code) = some (some 0) ∧
            x.arg a.toNat pKEY 0x148 = 0x40000000 ∧ (x.stave st).bind = some (n, pur, k.typ) ∧
            (∀ gr, gr ∈ (x.stave st).hidden ↔ gr ∈ granulesOf (8 * off) (full.length / 8)) ∧
            (∀ i, i < full.length → memByte x.ddr x.mem (staveBase st + 64 * off + i) = full.getD i 0) ∧
            (∀ y, y < staveBase st + 64 * off ∨ staveBase st + 64 * off + full.length ≤ y →
              memByte x.ddr x.mem y = memByte t.ddr t.mem y) ∧ x.regs = t.regs)))) ∧
    (∀ j c, tfind s.key.inject a.toNat = some j → j.code = some c → ∃ x, exec (.keyInjectDone a) s = .next x ∧
      tfind x.key.inject a.toNat = none ∧ x.arg a.toNat pKEY 0x148 = wd (c + 2 ^ 31) ∧
      bitAt (x.rg pKEY 0x20) 1 = true ∧ regsBut s x [rkey pKEY 0x20] ∧
      x = { s with regs := x.regs, aregs := x.aregs, key := x.key })

/-! ### Press and digest units -/

/-- Jobs of the Press and digest units (R190–R200, R203, R207, R213–R217, R223). -/
def Obligations.EngineJobs : Prop :=
  (∀ n : Fin 4, UnitSubmits n (.pressSubmit n) ∧ UnitDrops n (.pressDescriptorFetch n) ∧
    (∀ f, UnitReports n (.pressSegmentComplete ⟨n, f⟩) ∧ UnitFails n (.pressSegmentComplete ⟨n, f⟩)) ∧ UnitFaults n 23 (.pressQuantum n true)) ∧
  (∀ n : Fin 6, UnitSubmits (4 + n) (.digestSubmit n) ∧ UnitDrops (4 + n) (.digestDescriptorFetch n) ∧
    (∀ f, UnitReports (4 + n) (.digestSegmentComplete ⟨n, f⟩) ∧ UnitFails (4 + n) (.digestSegmentComplete ⟨n, f⟩)) ∧
    UnitFaults (4 + n) 24 (.digestQuantum n true)) ∧
  (∀ (s t : State) (n : Fin 4) (q : QEntry) (rest : List QEntry) (d : List Byte) (e : Desc),
    HeadRead s t n q rest d → e = descOf true d →
    (t.pressCheck n q.agent d = 0 → e.op < 0x10 → e.first = true → e.binv = false → ∀ k,
      (s.unit n).freePlace = some k →
      ∃ x, exec (.pressDescriptorFetch n) s = .next x ∧ (x.unit n).queue = rest ∧
        (x.unit n).segs = (s.unit n).segs ++ [({
          addr := q.addr, agent := q.agent, desc := d, ctx := some k, waitIv := flagGeniv d,
          stamp := (s.unit n).stamp } : Segment)] ∧
        ((x.unit n).ctx k).agent = jobAgent q.agent e.inst ∧ ((x.unit n).ctx k).inst = e.inst ∧
        ((x.unit n).ctx k).mode = e.op ∧ ((x.unit n).ctx k).consumed = 0 ∧ x = { t with units := x.units }) ∧
    (∀ c, t.pressCheck n q.agent d = c → 1 ≤ c → c ≤ 16 → (t.unit n).entryWaits n [] d = false → ∃ x, exec (.pressDescriptorFetch n) s = .next x ∧
      (x.unit n).queue = rest ∧ (x.unit n).ctxs = (s.unit n).ctxs ∧
      (∃ g ∈ (x.unit n).segs, g.addr = q.addr ∧ g.code = some c ∧ g.ctx = none) ∧ x = { t with units := x.units })) ∧
  (∀ (s t : State) (n : Fin 6) (q : QEntry) (rest : List QEntry) (d : List Byte) (e : Desc),
    HeadRead s t (4 + n) q rest d → e = descOf false d →
    (t.digestCheck (4 + n) q.agent d = 0 → e.op < 0x10 → e.first = true → e.binv = false → ∀ k,
      (s.unit (4 + n)).freePlace = some k →
      ∃ x, exec (.digestDescriptorFetch n) s = .next x ∧ (x.unit (4 + n)).queue = rest ∧
        ((x.unit (4 + n)).ctx k).agent = jobAgent q.agent e.inst ∧ ((x.unit (4 + n)).ctx k).mode = e.op ∧
        ((x.unit (4 + n)).ctx k).consumed = 0 ∧ x = { t with units := x.units }) ∧
    (∀ c, t.digestCheck (4 + n) q.agent d = c → 1 ≤ c → c ≤ 16 → (t.unit (4 + n)).entryWaits (4 + n) [] d = false →
      ∃ x, exec (.digestDescriptorFetch n) s = .next x ∧ (x.unit (4 + n)).queue = rest ∧
        (x.unit (4 + n)).ctxs = (s.unit (4 + n)).ctxs ∧
        (∃ g ∈ (x.unit (4 + n)).segs, g.addr = q.addr ∧ g.code = some c ∧ g.ctx = none) ∧
        x = { t with units := x.units })) ∧
  (∀ (s t : State) (n : Fin 4) (a : AgentId) (which : Fin 65) (v : Word) (off : Nat),
    off = (if which.val = 64 then 0x134 else 0x200 + 4 * which.val) → Writes s t a (unitPage n) off →
    ((classOf a.toNat = .sys ∨ classOf a.toNat = .keyd) → fld (t.rg (unitPage n) 0x30) 0 2 = 0 →
      ∃ x, exec (.pressQuantumWrite n a which v) s = .next x ∧ ok x a ∧ x.rg (unitPage n) off = v &&& 0x1FF ∧
        regsBut t x [rkey (unitPage n) off] ∧ x = { t with regs := x.regs, ports := x.ports }) ∧
    (classOf a.toNat ≠ .sys → classOf a.toNat ≠ .keyd →
      ∃ x, exec (.pressQuantumWrite n a which v) s = .next x ∧ ok x a ∧ bitAt (x.rg (unitPage n) 0x1C) 3 = true ∧
        regsBut t x [rkey (unitPage n) 0x1C] ∧ x = { t with regs := x.regs, ports := x.ports }))

/-- Quanta and completions (R185, R197–R199, R202, R211, R218, R219, R222, R226). -/
def Obligations.EngineResults : Prop :=
  (∀ (s : State) (n : Fin 4) (k len : Nat) (g : Segment) (c : Ctx) (m : List Byte × List Byte) (e : Desc) (r : MemAns),
    UnitWorks s n → NoOwnWork s → (s.unit n).pick = some (k, g) → g.own = none → c = (s.unit n).ctx k →
    c.mats = some m → e = descOf true g.desc →
    len = min (min (c.quantumLen (s.quantum n c.inst)) (e.seglen - g.taken)) (c.aadlen + c.totlen - c.consumed) →
    r = s.engRead c.agent (e.src + g.taken) len → Went s r.st →
    (r.fault ≠ .none → ∃ x, exec (.pressQuantum n false) s = .next x ∧
      { g with code := some (runFault r.fault), total := c.consumed } ∈ (x.unit n).segs ∧
      x = { r.st with units := x.units }) ∧
    (∀ q w, r.fault = .none → q = c.take m.1 r.data → (e.final && c.dir && aeadMode c.mode) = false → q.2 ≠ [] →
      w = r.st.engWrite c.agent (e.dst + g.outlen) q.2 → w.fault = .none → Went s w.st →
      ∃ x used, exec (.pressQuantum n false) s = .next x ∧ (x.unit n).ctx k = { q.1 with used := used } ∧
        (∃ h ∈ (x.unit n).segs, h.addr = g.addr ∧ h.taken = g.taken + len ∧ h.outlen = g.outlen + q.2.length ∧
          h.code = none ∧ (h.ran = true ↔ g.taken + len = e.seglen ∨ q.1.consumed = c.aadlen + c.totlen)) ∧
        x = { w.st with units := x.units })) ∧
  (∀ (s : State) (n : Fin 4) (k : Nat) (g : Segment) (c : Ctx) (m : List Byte × List Byte) (out tag : List Byte),
    UnitWorks s n → UnitRead s n → (s.unit n).due = some g → g.code = none → g.ctx = some k → g.iv = [] →
    s.flights = [] → 0x22000000 ≤ g.addr → g.addr + 96 ≤ 0x22100000 → c = (s.unit n).ctx k → c.mats = some m →
    (descOf true g.desc).final = true → c.consumed = c.aadlen + c.totlen → c.dir = true → aeadMode c.mode = true →
    c.finish m.1 = some (out, tag) → tag.take c.taglen ≠ (g.desc.drop 64).take c.taglen → s.rng.fault = true →
    s.changes = [] →
    ∃ x, exec (.pressSegmentComplete ⟨n, false⟩) s = .next x ∧ tfind (x.unit n).ctxs k = none ∧
      (∀ h ∈ (x.unit n).segs, h.addr = g.addr → h.stamp ≠ g.stamp) ∧
      (∀ y, y < g.addr + 80 ∨ g.addr + 96 ≤ y →
        memByte x.ddr x.mem y = memByte s.ddr s.mem y ∨ memByte x.ddr x.mem y = 0)) ∧
  (∀ (s t : State) (n : Fin 4) (g : Segment) (k : Nat) (iv : List Byte) (m : List Byte × List Byte),
    UnitWorks s n → (s.unit n).segs.find? (fun h => h.waitIv) = some g → g.ctx = some k → ((s.unit n).ctx k).mats = some m →
    s.wireDraw n 12 = (t, 0, iv) → s.changes = [] →
    ∃ x, exec (.pressGenivDraw n) s = .next x ∧ (x.unit n).ctx k = ((s.unit n).ctx k).start m.1 m.2 iv ∧
      { g with waitIv := false, iv := iv } ∈ (x.unit n).segs ∧ x = { t with units := x.units }) ∧
  (∀ (s : State) (n : Fin 6) (k len : Nat) (g : Segment) (c : Ctx) (m : List Byte × List Byte) (e : Desc) (r : MemAns),
    UnitWorks s (4 + n) → (s.unit (4 + n)).pick = some (k, g) → g.own = none → c = (s.unit (4 + n)).ctx k →
    c.mats = some (m.1, []) → e = descOf false g.desc →
    len = min (min (quantumBytes (s.quantum (4 + n) c.inst) c.part.length (((hashAlg c.alg).map (·.block)).getD 64))
      (e.seglen - g.taken)) (c.totlen - c.consumed) →
    r = s.engRead c.agent (e.src + g.taken) len → Went s r.st →
    (r.fault ≠ .none → ∃ x, exec (.digestQuantum n false) s = .next x ∧
      { g with code := some (runFault r.fault), total := c.consumed } ∈ (x.unit (4 + n)).segs ∧
      x = { r.st with units := x.units }) ∧
    (r.fault = .none → ∃ x used, exec (.digestQuantum n false) s = .next x ∧
      (x.unit (4 + n)).ctx k = { c.hashTake r.data with used := used } ∧ x = { r.st with units := x.units })) ∧
  (∀ (s : State) (n : Fin 6) (k : Nat) (g : Segment) (c : Ctx) (k0 : List Byte),
    UnitWorks s (4 + n) → (s.unit (4 + n)).due = some g → g.code = none → g.ctx = some k → g.iv = [] →
    s.flights = [] → 0x22000000 ≤ g.addr → g.addr + 64 ≤ 0x22100000 → c = (s.unit (4 + n)).ctx k →
    c.mats = some (k0, []) → (descOf false g.desc).op < 0x10 → (descOf false g.desc).final = true → c.consumed = c.totlen → flagOut g.desc = 1 → flagCmp g.desc = false →
    s.changes = [] →
    ∃ x, exec (.digestSegmentComplete ⟨n, false⟩) s = .next x ∧ tfind (x.unit (4 + n)).ctxs k = none ∧
      (∀ i, i < 16 → x.rg (pDIGEST n) (0x140 + 4 * i) = wordOf (fitTo 4 ((c.hashEnd k0).drop (4 * i)))) ∧
      x.rg (pDIGEST n) 0x138 = wd (c.agent + 256 * c.alg + 65536 * (c.hashEnd k0).length) ∧
      x.rg (pDIGEST n) 0x13C = s.rg (pDIGEST n) 0x13C + 1) ∧
  (∀ (s : State) (r : KeyRun), s.tamp.halted = false → s.key.run = some r → r.cmd = 4 → r.code = none →
    OwnRuns s .key 4 21 (fld (s.rg pKEY 0x118) 16 8) → s.deriveCheck = none → 32 ≤ s.argSlot → s.twinRepl = false → s.changes = [] →
    ∃ x, exec .digestKeystoreHash s = .next x ∧
      x.slot s.argSlot = some (s.argKey (kdfBytes (s.slotMat s.argSlot2)
        (s.loadBytes.take (fld (s.rg pKEY 0x118) 16 8)) s.argLen)) ∧
      x.key.run = some { r with code := some 0, target := some s.argSlot } ∧
      x = { s with key := x.key, units := x.units })

/-- Context commands (R201, R204–R206, R208, R222, R224, R265). -/
def Obligations.EngineContexts : Prop :=
  (∀ n : Fin 4, UnitSpills n (.pressContextSpill n) ∧ UnitRestores n (.pressContextRestore n) ∧
    UnitSaves n (.pressSave n) ∧ UnitAborts n (.pressAbort n)) ∧
  (∀ n : Fin 6, UnitSpills (4 + n) (.digestContextSpill n) ∧ UnitRestores (4 + n) (.digestContextRestore n) ∧
    UnitSaves (4 + n) (.digestSave n) ∧ UnitAborts (4 + n) (.digestAbort n)) ∧
  (∀ u : Fin 10, UnitSpills u (.binEngineTransfer u true) ∧ UnitRestores u (.binEngineTransfer u false)) ∧
  (∀ (s t1 t2 : State) (n : Fin 4) (g : Segment) (e : Desc) (k : Nat) (c : Ctx) (iv : List Byte) (x : List Byte × List Byte)
      (w : MemAns),
    UnitWorks s n → (s.unit n).ctxCmd 0x11 = some g → g.outlen = 0 → e = descOf true g.desc → (s.unit n).placeOf e.bin = some k →
    c = (s.unit n).ctx k → c.poisoned = false → s.ctxKey ≠ [] → s.wireDraw n 12 = (t1, 0, iv) →
    x = gcmSeal s.ctxKey iv c.header c.pack →
    w = t1.engWrite (jobAgent g.agent e.inst) e.dst (c.header ++ iv ++ x.1 ++ x.2) → w.fault = .none →
    (w.st.setSeg n g.stamp { g with outlen := 128 }).clearJob n (some k) (some e.bin) g.stamp false = (t2, true) →
    Went s t2 → (s.binRec e.bin).st ≠ .free →
    exec (.pressExport n) s = .next (t2.setSeg n g.stamp { g with code := some 0, outlen := 128, ctx := none }) ∧
      tfind (t2.unit n).ctxs k = none ∧ t2.savedCtx n e.bin = none) ∧
  (∀ (s : State) (n : Fin 4) (g : Segment) (e : Desc) (k : Nat) (r : MemAns),
    UnitWorks s n → (s.unit n).ctxCmd 0x12 = some g → e = descOf true g.desc → s.ctxCheck n e true = 0 → s.ctxKey ≠ [] → (s.unit n).freePlace = some k →
    r = s.engRead (jobAgent g.agent e.inst) e.src 128 → r.fault = .none → Went s r.st →
    leAt (r.data.take 16) 8 2 = e.bin → leAt (r.data.take 16) 10 1 = e.inst →
    (gcmOpen s.ctxKey ((r.data.drop 16).take 12) (r.data.take 16) ((r.data.drop 28).take 84) (r.data.drop 112) = none →
      ∃ y, exec (.pressImport n) s = .next y ∧ { g with code := some 20, ctx := none } ∈ (y.unit n).segs ∧
        (y.unit n).ctxs = (s.unit n).ctxs ∧ y = { r.st with units := y.units }) ∧
    (∀ st c, gcmOpen s.ctxKey ((r.data.drop 16).take 12) (r.data.take 16) ((r.data.drop 28).take 84) (r.data.drop 112) = some st →
      c = ctxUnpack (r.data.take 16) st (jobAgent g.agent e.inst) →
      r.st.pressKeys c.agent c.inst c.mode c.alg c.totlen c.dir c.key c.key2 = 0 →
      ∃ y used, exec (.pressImport n) s = .next y ∧ { g with code := some 0, ctx := none } ∈ (y.unit n).segs ∧
        (y.unit n).ctx k = { c with used := used, mats := some (r.st.slotMat c.key,
          if c.mode = 7 then r.st.slotMat c.key2 else []) } ∧
        y.flagOpen n e.bin = true ∧ y = { r.st with units := y.units, bin := y.bin }))

/-! ### Staves -/

/-- Claims and queues (R235–R237, R245). -/
def Obligations.StaveClaimsAndQueues : Prop :=
  ∀ (s t u w : State) (a : AgentId) (n : Fin 5) (v lo hi : Word),
    (Writes s t a (pSTAVE n) 0x100 →
      ((classOf a.toNat = .sys ∨ classOf a.toNat = .keyd ∨ n = 4) → (t.stave n).claim = none →
        ∃ x, exec (.staveClaim n a) s = .next x ∧ ok x a ∧ (x.stave n).claim = some a.toNat ∧ (x.stave n).queue = [] ∧
          (x.stave n).error = false ∧ x.rg (pSTAVE n) 0x11C = 0 ∧ x.rg (pSTAVE n) 0x120 = 0 ∧
          x.rg (pSTAVE n) 0x128 = 0 ∧ (∀ m, m ≠ n.val → x.stave m = t.stave m) ∧
          regsBut t x [rkey (pSTAVE n) 0x11C, rkey (pSTAVE n) 0x120, rkey (pSTAVE n) 0x128] ∧
          x = { t with regs := x.regs, staves := x.staves, ports := x.ports }) ∧
      (classOf a.toNat ≠ .sys → classOf a.toNat ≠ .keyd → n ≠ 4 →
        ∃ x, exec (.staveClaim n a) s = .next x ∧ ok x a ∧ bitAt (x.rg (pSTAVE n) 0x1C) 3 = true ∧
          x = { t with regs := x.regs, ports := x.ports }) ∧
      (∀ b, (classOf a.toNat = .sys ∨ classOf a.toNat = .keyd ∨ n = 4) → (t.stave n).claim = some b → b ≠ a.toNat →
        ∃ x, exec (.staveClaim n a) s = .next x ∧ ok x a ∧ bitAt (x.rg (pSTAVE n) 0x1C) 16 = true ∧
          x = { t with regs := x.regs, ports := x.ports }) ∧
      ((t.stave n).claim = some a.toNat → ∃ x, exec (.staveClaimEnd n a) s = .next x ∧ ok x a ∧
        x.stave n = { t.stave n with
          clearing := true, ending := true, queue := (t.stave n).queue.take (b01 (t.stave n).randing), list := none } ∧
        x.rg (pSTAVE n) 0x120 =
          t.rg (pSTAVE n) 0x120 + wd ((t.stave n).queue.drop (b01 (t.stave n).randing)).length ∧
        (∀ m, m ≠ n.val → x.stave m = t.stave m) ∧ regsBut t x [rkey (pSTAVE n) 0x120, rkey (pSTAVE n) 0x20] ∧
        x = { t with regs := x.regs, staves := x.staves, ports := x.ports })) ∧
    (∀ v : State, Writes s t a (pSTAVE n) 0x104 → v = answered (t.setRg (pSTAVE n) 0x104 lo) a →
      (t.stave n).claim = some a.toNat → (t.stave n).list = none → 1 ≤ fld hi 16 4 → fld hi 16 4 ≤ 7 →
      (Writes v u a (pSTAVE n) 0x108 → (t.stave n).queue.length < 16 → (∀ q r, (t.stave n).queue = q :: r → 1 ≤ fld q.2 16 4 ∧ fld q.2 16 4 ≤ 7) →
        ∃ x, exec (.staveCommandEntry n a lo hi) s = .next x ∧ ok x a ∧
          x.stave n = { t.stave n with queue := (t.stave n).queue ++ [(lo, hi)] } ∧
          x.rg (pSTAVE n) 0x11C = t.rg (pSTAVE n) 0x11C + 1 ∧
          x = { u with regs := x.regs, staves := x.staves, ports := x.ports }) ∧
      (∀ addr c o d w, addr = pageBase (pSTAVE n) + 0x108 → 16 ≤ (t.stave n).queue.length → v.issues a.toNat = true →
        v.busAdmits a.toNat addr 4 .write (issuedOrder a.toNat) .none = .yes u c o d w false .none →
        exec (.staveCommandEntry n a lo hi) s = .next (u.addFlight
          (v.newFlight a.toNat addr 4 .write (leBytes 4 hi.toNat) c o (issuedOrder a.toNat))))) ∧
    (Writes s t a (pSTAVE n) 0x114 → (t.stave n).claim = some a.toNat → (t.stave n).list = none →
      ∀ addr, addr = (t.rg (pSTAVE n) 0x10C).toNat + fld (t.rg (pSTAVE n) 0x110) 0 8 * 2 ^ 32 →
      (1 ≤ fld v 0 13 → fld v 0 13 ≤ 4096 → addr % 8 = 0 → ∃ x, exec (.staveListStart n a v) s = .next x ∧ ok x a ∧
        x.stave n = { t.stave n with list := some (addr, fld v 0 13) } ∧
        x = { t with staves := x.staves, ports := x.ports }) ∧
      ((fld v 0 13 = 0 ∨ 4096 < fld v 0 13 ∨ addr % 8 ≠ 0) → (t.stave n).error = false →
        ∃ x, exec (.staveListStart n a v) s = .next x ∧ ok x a ∧ (x.stave n).error = true ∧
          fld (x.rg (pSTAVE n) 0x128) 0 8 = 1 ∧ (x.stave n).list = none ∧
          x = { t with regs := x.regs, staves := x.staves, ports := x.ports })) ∧
    (∀ b addr left k r, (n ≠ 4 → s.tamp.halted = false) → (s.stave n).claim = some b → (s.stave n).list = some (addr, left) → (s.stave n).clearing = false →
      k = min (16 - (s.stave n).queue.length) left → k ≠ 0 → r = s.engRead b addr (8 * k) →
      r.st.held = s.held →
      (r.fault ≠ .none → (r.st.stave n).error = false → ∃ x, exec (.staveListFetch n) s = .next x ∧
        (x.stave n).list = none ∧ (x.stave n).error = true ∧ fld (x.rg (pSTAVE n) 0x128) 0 8 = 5 ∧
        x = { r.st with regs := x.regs, staves := x.staves }) ∧
      (r.fault = .none → ∃ x, exec (.staveListFetch n) s = .next x ∧
        (x.stave n).list = (if left = k then none else some (addr + 8 * k, left - k)) ∧
        x.rg (pSTAVE n) 0x11C = r.st.rg (pSTAVE n) 0x11C + wd (chunks 8 r.data).length ∧
        x = { r.st with regs := x.regs, staves := x.staves })) ∧
    (Writes s t a (pSTAVE n) 0x12C → (t.stave n).claim = some a.toNat →
      ∃ x, exec (.staveAbort n a) s = .next x ∧ ok x a ∧ x.rg (pSTAVE n) 0x128 = 0 ∧
        x.stave n = { t.stave n with
          clearing := true, queue := (t.stave n).queue.take (b01 (t.stave n).randing), list := none, error := false,
          gone := false } ∧
        x.rg (pSTAVE n) 0x120 =
          t.rg (pSTAVE n) 0x120 + wd ((t.stave n).queue.drop (b01 (t.stave n).randing)).length ∧
        regsBut t x [rkey (pSTAVE n) 0x128, rkey (pSTAVE n) 0x120, rkey (pSTAVE n) 0x20] ∧ x = { t with regs := x.regs, staves := x.staves, ports := x.ports }) ∧
    (∀ bs, (s.stave n).clearing = true → (s.stave n).randing = false →
      (((n = 4 ∨ s.rng.fault = true) ∧ w = s) ∨ (n ≠ 4 ∧ s.rng.fault = false ∧ s.wireDraw (5 + n) 64 = (w, 0, bs))) →
      ∃ x, exec (.staveClearingDone n) s = .next x ∧ (x.stave n).acc = 0 ∧ (x.stave n).hidden = [] ∧
        (x.stave n).taint = [] ∧ (x.stave n).bind = none ∧ (x.stave n).clearing = false ∧
        (x.stave n).claim = (if (s.stave n).ending then none else (s.stave n).claim) ∧
        ((s.stave n).gone = true → (s.stave n).ending = false →
          fld (x.rg (pSTAVE n) 0x128) 0 8 = 10 ∧ (x.stave n).error = true) ∧
        bitAt (x.rg (pSTAVE n) 0x20) 2 = true ∧
        (∀ g i, g ∈ (s.stave n).written → i < 64 → memByte x.ddr x.mem (staveBase n + 64 * g + i) = 0) ∧
        (∀ y, (∀ g, g ∈ (s.stave n).written → y < staveBase n + 64 * g ∨ staveBase n + 64 * g + 64 ≤ y) →
          memByte x.ddr x.mem y = memByte s.ddr s.mem y) ∧
        x = { w with regs := x.regs, staves := x.staves, mem := x.mem })

/-- The operations of R233, their checks and the hidden words (R233, R238, R239, R241–R244, R358). -/
def Obligations.StaveCommands : Prop :=
  ∀ (s w : State) (n : Fin 5) (b : Nat) (lo hi : Word) (rest : List (Word × Word)) (c : StaveCmd),
    (n ≠ 4 → s.tamp.halted = false) → (s.stave n).claim = some b → (s.stave n).queue = (lo, hi) :: rest → c = staveCmd lo hi →
    (s.stave n).clearing = false → (s.stave n).randing = false →
    (∀ q r, rest = q :: r → 1 ≤ fld q.2 16 4 ∧ fld q.2 16 4 ≤ 7) →
    (∀ p ∈ [(1, Instr.staveMul n), (2, .staveMullo n), (3, .staveShift n), (4, .staveLdacc n), (5, .staveStacc n),
        (6, .staveRand n), (7, .staveRelease n)], c.op = p.1 →
      ((s.stave n).error = true → ∃ x, exec p.2 s = .next x ∧ x.stave n = { s.stave n with queue := rest } ∧
        x.rg (pSTAVE n) 0x120 = s.rg (pSTAVE n) 0x120 + 1 ∧ x = { s with regs := x.regs, staves := x.staves }) ∧
      (∀ code, (s.stave n).error = false → c.check (s.stave n) n = some code → ∃ x, exec p.2 s = .next x ∧
        x.stave n = { s.stave n with queue := rest, error := true } ∧
        x.rg (pSTAVE n) 0x128 = wd (code + 65536 * ((s.rg (pSTAVE n) 0x120).toNat % 65536)) ∧
        x.rg (pSTAVE n) 0x120 = s.rg (pSTAVE n) 0x120 + 1 ∧ x = { s with regs := x.regs, staves := x.staves })) ∧
    ((s.stave n).error = false → c.check (s.stave n) n = none →
      (∀ p ∈ [(1, Instr.staveMul n, false), (2, .staveMullo n, true)], c.op = p.1 →
        ∃ x, exec p.2.1 s = .next x ∧ x.stave n = { s.stave n with
          queue := rest,
          acc := accOf ((if c.clr then 0 else accInt (s.stave n).acc) + (if c.sub then (-1) else 1) *
            (((if p.2.2 then s.staveA n c * s.staveB n c % 2 ^ c.w else s.staveA n c * s.staveB n c) : Nat) : Int)),
          accTaint := (s.stave n).dirtyRead c || (!c.clr && (s.stave n).accTaint) } ∧
        x.rg (pSTAVE n) 0x120 = s.rg (pSTAVE n) 0x120 + 1 ∧ x = { s with regs := x.regs, staves := x.staves }) ∧
      (c.op = 3 → ∃ x, exec (.staveShift n) s = .next x ∧ x.stave n = { s.stave n with
          queue := rest, acc := accOf (accInt (s.stave n).acc / (2 ^ (64 * (c.d % 256)) : Nat)) } ∧
        x = { s with regs := x.regs, staves := x.staves }) ∧
      (c.op = 4 → ∃ x, exec (.staveLdacc n) s = .next x ∧ x.stave n = { s.stave n with
          queue := rest, acc := accOf (sext (s.staveVal n c.d c.lenBits) c.lenBits),
          accTaint := (s.stave n).dirtyRead c } ∧ x = { s with regs := x.regs, staves := x.staves }) ∧
      (c.op = 5 → ∃ x, exec (.staveStacc n) s = .next x ∧ (x.stave n).queue = rest ∧ (x.stave n).acc = (s.stave n).acc ∧
        x.staveVal n c.d c.lenBits = (s.stave n).acc % 2 ^ c.lenBits ∧
        (∀ g, g ∈ (x.stave n).taint ↔ g ∈ (s.stave n).taint ∨
          ((s.stave n).accTaint = true ∧ g ∈ rangesGranules c.writes)) ∧
        (∀ y, y < staveBase n + 8 * c.d ∨ staveBase n + 8 * c.d + c.lenBits / 8 ≤ y →
          memByte x.ddr x.mem y = memByte s.ddr s.mem y) ∧
        x = { s with regs := x.regs, staves := x.staves, mem := x.mem }) ∧
      (∀ bs, c.op = 6 → (s.stave n).marked = false → s.rng.fault = false → s.wireDraw (5 + n) (c.w / 8) = (w, 0, bs) →
        bs.length = c.w / 8 → ∃ x, exec (.staveRand n) s = .next x ∧ (x.stave n).queue = rest ∧
          x.staveVal n c.d c.w = leNat bs ∧ (x.stave n).ranRand = true ∧
          (∀ g, g ∈ (x.stave n).taint ↔ g ∈ (s.stave n).taint ∨ (c.x % 2 = 1 ∧ g ∈ rangesGranules c.writes)) ∧
          x = { w with regs := x.regs, staves := x.staves, mem := x.mem }) ∧
      (c.op = 7 → (s.stave n).marked = false →
        (s.staveHolds n c = true → ∃ x, exec (.staveRelease n) s = .next x ∧ (x.stave n).queue = rest ∧
          (∀ g, g ∈ (x.stave n).taint ↔ g ∈ (s.stave n).taint ∧ g ∉ granulesOf c.d c.regionWords) ∧
          (x.stave n).hidden = (s.stave n).hidden ∧ x = { s with regs := x.regs, staves := x.staves }) ∧
        (s.staveHolds n c = false → ∃ x, exec (.staveRelease n) s = .next x ∧ (x.stave n).clearing = true ∧
          (x.stave n).error = true ∧ fld (x.rg (pSTAVE n) 0x128) 0 8 = 7 ∧ bitAt (x.rg (pSTAVE n) 0x1C) 18 = true ∧
          bitAt (x.rg (pSTAVE n) 0x20) 1 = true ∧ bitAt (x.rg pBKP 0x100) 25 = true))) ∧
    (∀ id f k, s.flight id = some f → regionOf f.addr = some (.stave k) → regionOf (f.addr + f.size - 1) = some (.stave k) →
      s.canPerform f = true → s.outranked f = false →
      (∀ g ∈ ramGranules f.addr f.size, g ∉ (s.stave k).hidden ∧ g ∉ (s.stave k).taint) → f.timedOut = false →
      f.write = true → f.data.length = f.size → 0 < f.size → s.changes = [] →
      ∃ x, exec (.staveRamAccessResume id) s = .next x ∧ (x.port f.agent).fault = .none ∧ x.flight id = none ∧
        (∀ i, i < f.size → memByte x.ddr x.mem (f.addr + i) = f.data.getD i 0) ∧
        (∀ y, (y < f.addr ∨ f.addr + f.size ≤ y) → memByte x.ddr x.mem y = memByte s.ddr s.mem y)) ∧
    (s.issues aLCORE = true →
      (∃ x, exec (.stavelKeyld false) s = .next x ∧ bitAt (x.rg (pSTAVE 4) 0x1C) 3 = true ∧ x = { s with regs := x.regs }) ∧
      (∀ k j, s.legal.key = some (k, j) → (s.stave 4).claim = some aLCORE → (s.stave 4).clearing = false →
        (s.stave 4).bind = none → (0 : Nat) ∉ (s.stave 4).hidden → (0 : Nat) ∉ (s.stave 4).taint →
        (xorBytes k.1 k.2).length = 32 →
        ∃ x, exec (.stavelKeyld true) s = .next x ∧ (∃ ty, (x.stave 4).bind = some (0, 1, ty)) ∧
          (0 : Nat) ∈ (x.stave 4).hidden ∧ x.staveVal 4 0 512 = beNat (xorBytes k.1 k.2) ∧
          (∀ y, y < 0x26020000 ∨ 0x26020040 ≤ y → memByte x.ddr x.mem y = memByte s.ddr s.mem y) ∧
          x = { s with staves := x.staves, mem := x.mem }))

/-! ### Bin store -/

/-- The bin commands (R253, R258–R263, R266). -/
def Obligations.BinCommands : Prop :=
  ∀ (s t : State) (a : AgentId) (b tag : Nat) (r : BinRec), Writes s t a pBIN 0x120 → t.binRuns a.toNat = false →
    b = fld (t.arg a.toNat pBIN 0x10C) 0 16 → tag = carriedTag a.toNat (fld (t.arg a.toNat pBIN 0x10C) 16 7) →
    r = t.binRec b → t.twinRepl = false →
    (∀ w, t.bin.waits.find? (fun w => w.who == .cmd a.toNat) = some w → ∃ x, exec (.binCancel a) s = .next x ∧ ok x a ∧
      x.arg a.toNat pBIN 0x124 = wd (14 + 256 * w.cmd + 2 ^ 31) ∧ (∀ y ∈ x.bin.waits, y.who ≠ .cmd a.toNat) ∧
      x.bin.bins = t.bin.bins ∧ x = { t with bin := x.bin, aregs := x.aregs, regs := x.regs, ports := x.ports }) ∧
    (t.binRunning a.toNat = false →
      (∀ p ∈ [(1, Instr.binOpen a), (2, .binPin a), (3, .binUnpin a), (4, .binRead a), (5, .binWrite a), (6, .binIncr a),
          (7, .binClose a)], ∀ code,
        code = (if t.bin.ready = false then 1 else if 256 * t.binCount ≤ b then 3 else if mayCarry a.toNat tag = false then 4
          else if t.twinStandby = true ∧ p.1 ≠ 4 then 15 else if r.st = .free then (if p.1 = 1 then 0 else 6)
          else if r.st = .lost then (if p.1 = 7 then (if tag = r.inst then 0 else 4) else 12) else if p.1 = 1 ∨ (p.1 = 3 ∧ r.st = .cold) then 5
          else if tag ≠ r.inst then 4 else if p.1 = 3 ∧ r.pins = 0 then 9 else 0) →
        (code ≠ 0 → ∃ x, exec p.2 s = .next x ∧ ok x a ∧
          x.arg a.toNat pBIN 0x124 = wd (code + 256 * p.1 + 2 ^ 31) ∧ regsBut t x [rkey pBIN 0x20] ∧
          x = { t with aregs := x.aregs, regs := x.regs, ports := x.ports }) ∧
        (code = 0 → r.st = .cold → p.1 ≠ 7 → ∃ x, exec p.2 s = .next x ∧ ok x a ∧
          x.bin = { t.bin with waits := t.bin.waits ++ [{ who := .cmd a.toNat, cmd := p.1, bin := b, args := t.binArgs a.toNat, framed := t.noFrame }] } ∧
          bitAt (x.arg a.toNat pBIN 0x124) 30 = true ∧ bitAt (x.arg a.toNat pBIN 0x124) 31 = false ∧
          bitAt (x.arg a.toNat pBIN 0x124) 16 = t.noFrame ∧
          x = { t with bin := x.bin, aregs := x.aregs, regs := x.regs, ports := x.ports })) ∧
      (t.bin.ready = true → b < 256 * t.binCount → mayCarry a.toNat tag = true → t.twinStandby = false →
        (r.st = .free → (tag = 0x7F ∨ tget 0 t.bin.used tag < (t.rg pBIN (0x200 + 4 * tag)).toNat) → t.frameFree = true →
          (bitAt (t.arg a.toNat pBIN 0x10C) 24 = false ∨ t.pinWaits b tag = false) →
          ∃ x, exec (.binOpen a) s = .next x ∧ ok x a ∧ x.arg a.toNat pBIN 0x124 = wd (256 * 1 + 2 ^ 31) ∧
            x.binRec b = BinRec.mk .hot tag (b01 (bitAt (t.arg a.toNat pBIN 0x10C) 24)) 0
              (leBytes 2 b ++ [BitVec.ofNat 8 tag, 0] ++ zeros 156) none none false ∧
            (tag ≠ 0x7F → tget 0 x.bin.used tag = tget 0 t.bin.used tag + 1) ∧
            (∀ m, m ≠ b → x.binRec m = t.binRec m) ∧
            x = { t with bin := x.bin, aregs := x.aregs, regs := x.regs, ports := x.ports }) ∧
        (r.st = .free → tag ≠ 0x7F → (t.rg pBIN (0x200 + 4 * tag)).toNat ≤ tget 0 t.bin.used tag →
          ∃ x, exec (.binOpen a) s = .next x ∧ x.arg a.toNat pBIN 0x124 = wd (7 + 256 * 1 + 2 ^ 31) ∧ x.bin = t.bin) ∧
        (r.st = .hot → r.inst = tag →
          (r.pins < 255 → t.pinWaits b tag = false → ∃ x, exec (.binPin a) s = .next x ∧ ok x a ∧
            x.arg a.toNat pBIN 0x124 = wd (256 * 2 + 2 ^ 31) ∧ x.binRec b = { r with pins := r.pins + 1 } ∧
            (∀ m, m ≠ b → x.binRec m = t.binRec m) ∧
            x = { t with bin := x.bin, aregs := x.aregs, regs := x.regs, ports := x.ports }) ∧
          (r.pins = 255 → ∃ x, exec (.binPin a) s = .next x ∧
            x.arg a.toNat pBIN 0x124 = wd (8 + 256 * 2 + 2 ^ 31) ∧ x.bin = t.bin) ∧
          (r.pins ≠ 0 → ∃ x, exec (.binUnpin a) s = .next x ∧ ok x a ∧
            x.arg a.toNat pBIN 0x124 = wd (256 * 3 + 2 ^ 31) ∧ x.binRec b = { r with pins := r.pins - 1 } ∧
            (∀ m, m ≠ b → x.binRec m = t.binRec m) ∧
            x = { t with bin := x.bin, aregs := x.aregs, regs := x.regs, ports := x.ports }) ∧
          (∀ u m, t.tamp.halted = false → u = t.setArg a.toNat pBIN 0x124 (wd (256 * 4 + 2 ^ 30)) →
            m = u.engWrite a.toNat (t.binAddr a.toNat) (binVisible b r (binTwinSeq r.vis) r.vis) → Went t m.st →
            m.st.bin = t.bin → m.st.aregs = u.aregs →
            ∃ x, exec (.binRead a) s = .next x ∧ ok x a ∧
              x.arg a.toNat pBIN 0x124 = wd ((if m.fault = .none then 0 else binFault m.fault) + 256 * 4 + 2 ^ 31) ∧
              x.bin.bins = t.bin.bins ∧
              x = { m.st with bin := x.bin, aregs := x.aregs, regs := x.regs, ports := x.ports }) ∧
          (∀ u m, t.tamp.halted = false → u = t.setArg a.toNat pBIN 0x124 (wd (256 * 5 + 2 ^ 30)) →
            m = u.engRead a.toNat (t.binAddr a.toNat) 160 → Went t m.st → m.st.bin = t.bin → m.st.aregs = u.aregs →
            m.st.twinRepl = false →
            (m.fault ≠ .none → ∃ x, exec (.binWrite a) s = .next x ∧
              x.arg a.toNat pBIN 0x124 = wd (binFault m.fault + 256 * 5 + 2 ^ 31) ∧ x.bin.bins = t.bin.bins) ∧
            (m.fault = .none → m.st.badKeyref r.inst m.data = true → ∃ x, exec (.binWrite a) s = .next x ∧
              x.arg a.toNat pBIN 0x124 = wd (4 + 256 * 5 + 2 ^ 31) ∧ x.bin.bins = t.bin.bins) ∧
            (m.fault = .none → m.st.badKeyref r.inst m.data = false → ∃ x, exec (.binWrite a) s = .next x ∧ ok x a ∧
              x.arg a.toNat pBIN 0x124 = wd (256 * 5 + 2 ^ 31) ∧
              x.binRec b = { r with vis := binVisible b r (binTwinSeq r.vis) m.data } ∧
              (∀ k, k ≠ b → x.binRec k = t.binRec k) ∧
              x = { m.st with bin := x.bin, aregs := x.aregs, regs := x.regs, ports := x.ports })) ∧
          (∀ f n, f = 32 + 8 * fld (t.arg a.toNat pBIN 0x10C) 26 2 →
            n = leAt r.vis f 8 + (t.arg a.toNat pBIN 0x118).toNat + (t.arg a.toNat pBIN 0x11C).toNat * 2 ^ 32 →
            (n < 2 ^ 64 → ∃ x, exec (.binIncr a) s = .next x ∧ ok x a ∧
              x.arg a.toNat pBIN 0x124 = wd (256 * 6 + 2 ^ 31) ∧
              x.binRec b = { r with vis := overlay r.vis f (leBytes 8 n) } ∧
              (x.arg a.toNat pBIN 0x118).toNat + (x.arg a.toNat pBIN 0x11C).toNat * 2 ^ 32 = n ∧
              (∀ k, k ≠ b → x.binRec k = t.binRec k) ∧
              x = { t with bin := x.bin, aregs := x.aregs, regs := x.regs, ports := x.ports }) ∧
            (2 ^ 64 ≤ n → ∃ x, exec (.binIncr a) s = .next x ∧
              x.arg a.toNat pBIN 0x124 = wd (13 + 256 * 6 + 2 ^ 31) ∧ x.bin.bins = t.bin.bins)) ∧
          (r.flags % 4 ≠ 0 → ∃ x, exec (.binClose a) s = .next x ∧
            x.arg a.toNat pBIN 0x124 = wd (10 + 256 * 7 + 2 ^ 31) ∧ x.bin = t.bin) ∧
          (∀ y z c bs, r.flags % 4 = 0 → t.bin.scrubs = [] →
            y = (t.setArg a.toNat pBIN 0x124 (wd (256 * 7 + 2 ^ 30))).modBin (fun g => { g with
              bins := tdel g.bins b, lru := g.lru.filter (· != b),
              scrubs := [{ inst := r.inst, close := some (a.toNat, bitAt (t.arg a.toNat pBIN 0x10C) 28) }] }) →
            ((t.rng.fault = true ∧ c = 0) ∨ (t.rng.fault = false ∧ y.wireDraw 4 512 = (z, c, bs))) →
            (c = 0 → ∃ x, exec (.binClose a) s = .next x ∧ ok x a ∧
              x.arg a.toNat pBIN 0x124 = wd (256 * 7 + 2 ^ 31) ∧ x.binRec b = {} ∧
              (tag ≠ 0x7F → tget 0 x.bin.used tag = tget 0 t.bin.used tag - 1) ∧
              (∀ k, k ≠ b → x.binRec k = t.binRec k) ∧
              x = { t with bin := x.bin, aregs := x.aregs, regs := x.regs, ports := x.ports, rng := x.rng }) ∧
            (c = 1 ∨ c = 2 → ∃ x, exec (.binClose a) s = .next x ∧ ok x a ∧
              x.arg a.toNat pBIN 0x124 = wd (256 * 7 + 2 ^ 30) ∧ x.binRec b = {} ∧ x.bin.used = t.bin.used ∧
              x.bin.scrubs = y.bin.scrubs ∧ (∀ k, k ≠ b → x.binRec k = t.binRec k))))))

/-- The store as a whole (R255–R257, R259, R263, R267, R269). -/
def Obligations.BinStore : Prop :=
  ∀ (s t u : State) (a : AgentId) (v : Word),
    (CtrlBits s u a pBIN 1 → u.en pBIN = false →
      (u.key.classReady = true → (u.binCount ≤ 1 ∨ u.coldRegionOk = true) →
        ∃ x, exec (.binEnable a) s = .next x ∧ ok x a ∧ x.en pBIN = true ∧ x.bin.bins = [] ∧ x.bin.gens = [] ∧
          x.bin.ready = false ∧ x.bin.clearing = true ∧ x.bin.spillSeq = u.bin.spillSeq ∧
          regsBut u x [rkey pBIN 0x10] ∧
          x = { u with bin := x.bin, regs := x.regs, pairs := x.pairs, ports := x.ports }) ∧
      ((u.key.classReady = false ∨ (1 < u.binCount ∧ u.coldRegionOk = false)) →
        ∃ x, exec (.binEnable a) s = .next x ∧ ok x a ∧ x.en pBIN = false ∧ bitAt (x.rg pBIN 0x1C) 16 = true ∧
          regsBut u x [rkey pBIN 0x1C] ∧ x = { u with regs := x.regs, pairs := x.pairs, ports := x.ports })) ∧
    (s.bin.clearing = true → s.en pBIN = true →
      exec .binReady s = .next { s with bin := { s.bin with clearing := false, ready := true } }) ∧
    (∀ b r h iv g w, s.tamp.halted = false → s.bin.waits ≠ [] → s.frameFree = false → s.binVictim = some b → r = s.binRec b → r.press = none →
      r.digest = none → h = leBytes 2 b ++ [BitVec.ofNat 8 r.inst, 1] ++ leBytes 2 ((tget 0 s.bin.gens b + 1) % 0x10000) ++
        zeros 2 ++ leBytes 4 s.resets ++ zeros 4 →
      iv = leBytes 4 s.resets ++ leBytes 8 (s.bin.spillSeq + 1) →
      g = gcmSeal (s.slotMat 1017) iv h
        ((binVisible b r (binTwinSeq r.vis) r.vis).take 64 ++ zeros 128 ++ zeros 224 ++ r.vis.drop 64) →
      w = ((s.modBin fun g => { g with gens := tset g.gens b ((tget 0 g.gens b + 1) % 0x10000), spillSeq := g.spillSeq + 1 }).draw).engWrite
        aBIN (s.coldAddr b) (h ++ iv ++ zeros 4 ++ g.1 ++ g.2 ++ zeros 16) → Went s w.st →
      (w.fault = .none → ∃ x, exec .binSpill s = .next x ∧ (x.binRec b).st = .cold ∧ (x.binRec b).inst = r.inst ∧
        x.bin.noSpill = false ∧ b ∉ x.bin.lru ∧ (∀ k, k ≠ b → x.binRec k = w.st.binRec k) ∧
        x = { w.st with bin := x.bin, regs := x.regs }) ∧
      (w.fault ≠ .none → ∃ x, exec .binSpill s = .next x ∧ x.binRec b = { r with stuck := true } ∧ x.bin.noSpill = true ∧
        bitAt (x.rg pBIN 0x1C) 18 = true ∧ x = { w.st with bin := x.bin, regs := x.regs })) ∧
    (∀ w n m r, s.tamp.halted = false → s.frameFree = true → s.bin.waits.find? (fun w => (s.binRec w.bin).st == .cold) = some w →
      w.who = .engine n → r = s.binRec w.bin → m = s.engRead aBIN (s.coldAddr w.bin) 576 → Went s m.st →
      m.st.twinRepl = false →
      (∀ p, m.fault = .none → m.data.take 16 = s.coldHeader w.bin r →
        gcmOpen (m.st.slotMat 1017) ((m.data.drop 16).take 12) (m.data.take 16) ((m.data.drop 32).take 512)
          ((m.data.drop 544).take 16) = some p →
        ∃ x, exec .binFill s = .next x ∧
          x.binRec w.bin = { r with st := .hot, vis := p.take 64 ++ (p.drop 416).take 96 } ∧
          x.bin.waits = m.st.bin.waits.erase w ∧ x = { m.st with bin := x.bin, regs := x.regs }) ∧
      (∀ why, why = (match m.fault with
          | .none => if m.data.take 16 = s.coldHeader w.bin r then 4 else 3
          | .data => 2
          | .parity => 2
          | _ => 1) →
        (m.fault = .none → m.data.take 16 = s.coldHeader w.bin r → gcmOpen (m.st.slotMat 1017)
          ((m.data.drop 16).take 12) (m.data.take 16) ((m.data.drop 32).take 512) ((m.data.drop 544).take 16) = none) →
        bitAt (m.st.rg pBIN 0x144) 31 = false → w.bin < 0x10000 →
        ∃ x, exec .binFill s = .next x ∧ (x.binRec w.bin).st = .lost ∧ (x.binRec w.bin).vis = [] ∧
          x.rg pBIN 0x144 = wd (w.bin + 65536 * why + 2 ^ 31) ∧ bitAt (x.rg pBIN 0x20) 2 = true ∧
          x.bin.waits = m.st.bin.waits.erase w ∧ x = { m.st with bin := x.bin, regs := x.regs })) ∧
    (∀ w b y, s.bin.scrubs = [] → s.bin.waits.find? (fun w => (s.binRec w.bin).st != .cold) = some w → w.who = .cmd b →
      (s.binDequeue w).binCheck b w.cmd w.bin (binTag b w.args) = none → s.changes = [] →
      (∀ c, (s.binDequeue w).binDo b w.cmd w.bin w.args = (y, .done c) → Went s y →
        exec .binFrameWaitServed s = .next (y.binFinish b w.cmd c (binIrq w.args))) ∧
      ((s.binDequeue w).binDo b w.cmd w.bin w.args = (y, .wait) → exec .binFrameWaitServed s = .next s)) ∧
    (∀ nn : Fin 64, ((s.inst nn).st = 3 ∨ (s.inst nn).st = 4) → (s.inst nn).drained = true → (s.inst nn).binsDone = false →
      (s.bin.bins.map (·.1)).Nodup → s.twinRepl = false → s.changes = [] →
      ∃ x, exec (.binInstanceClear nn) s = .next x ∧ (s.rng.fault = true → x.bin.scrubs = []) ∧
        ((∀ y ∈ x.bin.scrubs, y.inst ≠ nn.val) → (x.inst nn).binsDone = true ∧ tget 0 x.bin.used nn = 0) ∧
        ((∃ y ∈ x.bin.scrubs, y.inst = nn.val) → (x.inst nn).binsDone = false) ∧
        (∀ b, (s.binRec b).inst = nn → (x.binRec b).st = .free) ∧
        (∀ b, (s.binRec b).inst ≠ nn → x.binRec b = s.binRec b) ∧
        (∀ w ∈ x.bin.waits, w.who ≠ .cmd (0x40 + nn.val)) ∧
        x = { s with bin := x.bin, host := x.host, rng := x.rng, aregs := x.aregs, regs := x.regs }) ∧
    (∀ nn : Fin 64, Writes s t a pBIN (0x200 + 4 * nn) →
      ((classOf a.toNat = .sys ∨ classOf a.toNat = .keyd) → fld (t.rg pBIN 0x30) 0 2 = 0 →
        ∃ x, exec (.binQuotaWrite a nn v) s = .next x ∧ ok x a ∧ x.rg pBIN (0x200 + 4 * nn) = v &&& 0x1FFFF ∧
          regsBut t x [rkey pBIN (0x200 + 4 * nn)] ∧ x = { t with regs := x.regs, ports := x.ports }) ∧
      (classOf a.toNat ≠ .sys → classOf a.toNat ≠ .keyd → ∃ x, exec (.binQuotaWrite a nn v) s = .next x ∧ ok x a ∧
        bitAt (x.rg pBIN 0x1C) 3 = true ∧ regsBut t x [rkey pBIN 0x1C] ∧ x = { t with regs := x.regs, ports := x.ports }))

/-! ### Reader channels -/

/-- The field of a channel (R272, R274–R279, R289). -/
def Obligations.ReaderField : Prop :=
  ∀ (s t : State) (a : AgentId) (n : Fin 8) (v : Word),
    (Writes s t a (pRDR n) 0x104 →
      (t.en (pRDR n) = false → ∃ x, exec (.rdrFieldWrite n a v) s = .next x ∧ ok x a ∧ x = { t with ports := x.ports }) ∧
      (t.en (pRDR n) = true → (fld v 0 2 = 1 ∨ fld v 0 2 = 2) → t.bstUp = false →
        ∃ x, exec (.rdrFieldWrite n a v) s = .next x ∧ ok x a ∧ x.rdr n = { t.rdr n with ant := false } ∧
          bitAt (x.rg (pRDR n) 0x1C) 19 = true ∧ regsBut t x [rkey (pRDR n) 0x1C] ∧
          x = { t with rdrs := x.rdrs, regs := x.regs, ports := x.ports }) ∧
      (t.en (pRDR n) = true → fld v 0 2 = 2 → t.bstUp = true → (t.rdr n).hold = false →
        (t.fpHolders < 4 → t.rdrWaits = [] → ∃ x, exec (.rdrFieldWrite n a v) s = .next x ∧ ok x a ∧
          x.rdr n = { t.rdr n with ant := false, hold := true, ramp := some 2 } ∧ x.rg (pRDR n) 0x104 = 2 ∧
          bitAt (x.rg (pRDR n) 0x20) 2 = true ∧ (∀ m, m ≠ n.val → x.rdr m = t.rdr m) ∧
          x = { t with rdrs := x.rdrs, regs := x.regs, ports := x.ports }) ∧
        (∀ i j k l : Nat, [i, j, k, l].Nodup → (∀ m ∈ [i, j, k, l], (t.rdr m).hold = true) →
          ∃ x, exec (.rdrFieldWrite n a v) s = .next x ∧ ok x a ∧ x.rdr n = { t.rdr n with ant := false } ∧
            x.rdrWaits = (t.rdrWaits.filter (· != n.val)) ++ [n.val] ∧ x.rg (pRDR n) 0x104 = 2 ∧
            x = { t with rdrs := x.rdrs, rdrWaits := x.rdrWaits, regs := x.regs, ports := x.ports })) ∧
      (t.en (pRDR n) = true → fld v 0 2 = 0 → (t.rdr n).level = 2 → (t.rdr n).ramp = none →
        ∃ x, exec (.rdrFieldWrite n a v) s = .next x ∧ ok x a ∧ (x.rdr n).ramp = some 0 ∧ (x.rdr n).guard = false ∧
          x.rg (pRDR n) 0x104 = 0 ∧ (∀ e ∈ (x.rdr n).entries, e.2.st = 4 ∧ e.2.pquiet = true ∧ e.2.held = true) ∧
          (∀ u, (t.rdr n).run = some u → RdrEnds x n u 1) ∧ (∀ m, m ≠ n.val → x.rdr m = t.rdr m) ∧
          x = { t with rdrs := x.rdrs, rdrWaits := x.rdrWaits, regs := x.regs, ports := x.ports })) ∧
    (s.rdrWaits.head? = some n.val → s.fpHolders < 4 →
      ∃ x, exec .rdrFullPowerGrant s = .next x ∧ x.rdr n = { s.rdr n with hold := true, ramp := some 2 } ∧
        x.rdrWaits = s.rdrWaits.filter (· != n.val) ∧ bitAt (x.rg (pRDR n) 0x20) 2 = true ∧
        (∀ m, m ≠ n.val → x.rdr m = s.rdr m) ∧ regsBut s x [rkey (pRDR n) 0x20] ∧
        x = { s with rdrs := x.rdrs, rdrWaits := x.rdrWaits, regs := x.regs }) ∧
    (∀ l, (s.rdr n).ramp = some l → ∃ x, exec (.rdrFieldRampDone n) s = .next x ∧ (x.rdr n).level = l ∧
      (x.rdr n).ramp = none ∧ (x.rdr n).guard = (l == 2) ∧ (x.rdr n).hold = ((s.rdr n).hold && l == 2) ∧
      (x.rdr n).entries = (s.rdr n).entries ∧ (x.rdr n).run = (s.rdr n).run ∧
      (l = 2 → (x.rdr n).detect = false) ∧ (∀ m, m ≠ n.val → x.rdr m = s.rdr m) ∧ x = { s with rdrs := x.rdrs }) ∧
    ((s.rdr n).guard = true →
      ((s.rdr n).run = none → ∃ x, exec (.rdrGuardEnd n) s = .next x ∧ x.rdr n = { s.rdr n with guard := false } ∧
        x = { s with rdrs := x.rdrs }) ∧
      (∀ u, (s.rdr n).run = some u → u.phase = .guard → u.cmd = 1 → nfld u.arg0 0 2 = 0 →
        ∃ x, exec (.rdrGuardEnd n) s = .next x ∧ (x.rdr n).guard = false ∧
          (x.rdr n).sent = [if u.arg0.testBit 2 then 0x52 else 0x26] ∧ (x.rdr n).sentBits = 7 ∧
          x.rg (pRDR n) 0x160 = s.rg (pRDR n) 0x160 + 1 ∧ regsBut s x [rkey (pRDR n) 0x160] ∧
          x = { s with rdrs := x.rdrs, regs := x.regs })) ∧
    (((s.rdr n).level ≠ 0 ∨ (s.rdr n).ramp ≠ none) → ∃ x, exec (.rdrAntennaFault n) s = .next x ∧
      (x.rdr n).level = 0 ∧ (x.rdr n).ramp = none ∧ (x.rdr n).hold = false ∧ (x.rdr n).ant = true ∧
      x.rg (pRDR n) 0x104 = 0 ∧ n.val ∉ x.rdrWaits ∧ bitAt (x.rg (pRDR n) 0x1C) 18 = true ∧
      bitAt (x.rg (pRDR n) 0x20) 3 = true ∧ (∀ u, (s.rdr n).run = some u → RdrEnds x n u 13) ∧
      (∀ m, m ≠ n.val → x.rdr m = s.rdr m) ∧ x = { s with rdrs := x.rdrs, rdrWaits := x.rdrWaits, regs := x.regs }) ∧
    (∀ m : Fin 65536, (s.rdr n).ramp = none →
      (fld (s.rg (pRDR n) 0x100) 0 2 = 1 → (s.rdr n).level = 1 →
        Watched n 0 m (fun base => fld (s.rg (pRDR n) 0x108) 0 8 * base < 1000 * apart m base) (.rdrLoadWatch n m) s) ∧
      (6 ≤ n.val → fld (s.rg (pRDR n) 0x100) 0 2 = 2 → (s.rdr n).level = 0 →
        Watched n 16 m (fun base => fld (s.rg (pRDR n) 0x108) 8 8 < apart m base) (.rdrCapWatch n m) s) ∧
      (n.val < 6 → exec (.rdrCapWatch n m) s = .next s)) ∧
    (∀ e : Fin 64, ((s.rdrEntry n e).held = true → ∃ x, exec (.rdrPqHoldExpiry n e) s = .next x ∧
        x.rdrEntry n e = {} ∧ (∀ k, k ≠ e.val → x.rdrEntry n k = s.rdrEntry n k) ∧ x = { s with rdrs := x.rdrs }) ∧
      ((s.rdrEntry n e).held = false → exec (.rdrPqHoldExpiry n e) s = .next s))

/-- The commands of a channel (R276, R280–R294). -/
def Obligations.ReaderCommands : Prop :=
  (∀ (s t : State) (a : AgentId) (n : Fin 8) (ent : Fin 64) (a0 a1 : Nat), Writes s t a (pRDR n) 0x110 →
    a0 = (t.rg (pRDR n) 0x114).toNat → a1 = (t.rg (pRDR n) 0x118).toNat →
    (∀ u, (t.rdr n).run = some u → ∃ x, exec (.rdrAbort n a) s = .next x ∧ ok x a ∧ RdrEnds x n u 12 ∧
      (x.rdr n).entries = (t.rdr n).entries ∧ x = { t with rdrs := x.rdrs, regs := x.regs, ports := x.ports }) ∧
    ((t.rdr n).run = none →
      (∃ x, exec (.rdrAbort n a) s = .next x ∧ ok x a ∧ x = { t with ports := x.ports }) ∧
      (∀ p ∈ [(1, Instr.rdrRound n a, (0 : Nat)), (2, .rdrActivate n a ent, ent.val), (3, .rdrXchg n a ent, ent.val),
          (4, .rdrRaw n a, 0), (5, .rdrHalt n a ent, ent.val), (6, .rdrForget n a ent, ent.val)],
        (∀ c, t.rdrRefuses n p.1 (t.rdrEntry n p.2.2) = some c → ∃ x, exec p.2.1 s = .next x ∧ ok x a ∧
          x.rg (pRDR n) 0x124 = wd (c + 2 ^ 12 * p.1 + 2 ^ 16 * p.2.2 + 2 ^ 31) ∧ x.rdr n = t.rdr n ∧
          x = { t with rdrs := x.rdrs, regs := x.regs, ports := x.ports }) ∧
        (t.rdrRefuses n p.1 (t.rdrEntry n p.2.2) = none → (t.rdr n).guard = true → p.1 ≠ 6 →
          ∃ x, exec p.2.1 s = .next x ∧ ok x a ∧
            x.rg (pRDR n) 0x124 = wd (2 ^ 12 * p.1 + 2 ^ 16 * p.2.2 + 2 ^ 30) ∧ (x.rdr n).sent = (t.rdr n).sent ∧
            (∃ u, (x.rdr n).run = some u ∧ u.cmd = p.1 ∧ u.phase = .guard) ∧
            (x.rdr n).entries = (t.rdr n).entries ∧ x = { t with rdrs := x.rdrs, regs := x.regs, ports := x.ports })) ∧
      (∃ x, exec (.rdrForget n a ent) s = .next x ∧ ok x a ∧ x.rdrEntry n ent = {} ∧
        x.rg (pRDR n) 0x124 = wd (2 ^ 12 * 6 + 2 ^ 16 * ent.val + 2 ^ 31) ∧
        (∀ k, k ≠ ent.val → x.rdrEntry n k = t.rdrEntry n k) ∧
        x = { t with rdrs := x.rdrs, regs := x.regs, ports := x.ports }) ∧
      ((t.rdr n).guard = false →
        (t.rdrRefuses n 1 (t.rdrEntry n 0) = none → ∃ x, exec (.rdrRound n a) s = .next x ∧ ok x a ∧
          x.rg (pRDR n) 0x160 = t.rg (pRDR n) 0x160 + 1 ∧ (x.rdr n).entries = (t.rdr n).entries ∧
          (nfld a0 0 2 = 0 → (x.rdr n).sent = [if a0.testBit 2 then 0x52 else 0x26] ∧ (x.rdr n).sentBits = 7) ∧
          (nfld a0 0 2 = 1 → (x.rdr n).sent = [0x05, BitVec.ofNat 8 (if a0.testBit 5 then nfld a0 8 8 else 0),
            BitVec.ofNat 8 (nfld a0 16 3 + flagAt (a0.testBit 2) 3 + 0x10)]) ∧
          (2 ≤ nfld a0 0 2 → (x.rdr n).sent =
            [BitVec.ofNat 8 (0x06 + flagAt (a0.testBit 5) 4), if nfld a0 0 2 = 3 then 0xB0 else 0x01] ++
            (if nfld a0 0 2 = 3 then [BitVec.ofNat 8 (fld (t.rg (pRDR n) 0x170) 0 8)] else []) ++
            (if a0.testBit 5 then [BitVec.ofNat 8 (nfld a0 8 8)] else []) ++ [0]) ∧
          x = { t with rdrs := x.rdrs, regs := x.regs, ports := x.ports }) ∧
        (∀ e, e = t.rdrEntry n ent →
          (t.rdrRefuses n 2 e = none → ∃ x, exec (.rdrActivate n a ent) s = .next x ∧ ok x a ∧
            (e.proto = 0 → e.st = 2 → (x.rdr n).sent = [0x52] ∧ (x.rdr n).sentBits = 7) ∧
            (e.proto = 0 → e.st ≠ 2 → (x.rdr n).sent =
              [0xE0, BitVec.ofNat 8 (nfld a0 0 4 * 16 + (if a0.testBit 8 then nfld a0 4 4 else 0))]) ∧
            (2 ≤ e.proto → (x.rdr n).sent = [0x22, 0x25] ++ e.uid) ∧ (x.rdr n).entries = (t.rdr n).entries ∧
            x = { t with rdrs := x.rdrs, regs := x.regs, ports := x.ports }) ∧
          (t.rdrRefuses n 3 e = none → ∃ x, exec (.rdrXchg n a ent) s = .next x ∧ ok x a ∧
            (∀ tx, tx = t.rdrTx n (fld (t.rg (pRDR n) 0x11C) 0 11) → e.proto = 2 → e.st = 3 →
              (x.rdr n).sent = [BitVec.ofNat 8 (0x12 + flagAt (a0.testBit 1) 6)] ++ tx) ∧
            (x.rdr n).entries = (t.rdr n).entries ∧ x = { t with rdrs := x.rdrs, regs := x.regs, ports := x.ports }) ∧
          (t.rdrRefuses n 5 e = none → (e.proto = 0 ∨ 2 ≤ e.proto) → (e.proto = 0 → e.st ≠ 3) →
            ∃ x, exec (.rdrHalt n a ent) s = .next x ∧ ok x a ∧
              (e.proto = 0 → (x.rdr n).sent = [0x50, 0x00] ∧ x.rdrEntry n ent = { e with st := 2 }) ∧
              (2 ≤ e.proto → (x.rdr n).sent = [0x22, 0x02] ++ e.uid ∧ x.rdrEntry n ent = { e with st := 4 }) ∧
              x.rg (pRDR n) 0x124 = wd (2 ^ 12 * 5 + 2 ^ 16 * ent.val + 2 ^ 31) ∧
              x = { t with rdrs := x.rdrs, regs := x.regs, ports := x.ports })) ∧
        (t.rdrRefuses n 4 (t.rdrEntry n 0) = none → ∃ x, exec (.rdrRaw n a) s = .next x ∧ ok x a ∧
          (x.rdr n).sent = t.rdrTx n (fld (t.rg (pRDR n) 0x11C) 0 11) ∧ (x.rdr n).sentBits = nfld a1 24 3 ∧
          (x.rdr n).entries = (t.rdr n).entries ∧
          (nfld a1 0 24 = 0 → x.rg (pRDR n) 0x124 = wd (2 ^ 12 * 4 + 2 ^ 8 + 2 ^ 31)) ∧
          (nfld a1 0 24 ≠ 0 → x.rg (pRDR n) 0x124 = wd (2 ^ 12 * 4 + 2 ^ 30)) ∧
          x = { t with rdrs := x.rdrs, regs := x.regs, ports := x.ports })))) ∧
  (∀ (s : State) (n : Fin 8) (d : List Byte) (bits : Fin 8) (coll : Option Nat) (good : Bool) (u : RdrRun),
    ((s.rdr n).run = none → exec (.rdrFrameReceived n d bits coll good) s = .next s ∧
      exec (.rdrResponseTimeout n) s = .next s) ∧
    ((s.rdr n).run = some u →
      (u.phase = .raw → d.length ≤ 1024 → ∃ x, exec (.rdrFrameReceived n d bits none true) s = .next x ∧ RdrEnds x n u 0 ∧
        x.rg (pRDR n) 0x120 = wd (d.length + 2 ^ 12 * bits.val) ∧
        (∀ i, 4 * i < d.length → x.rg (pRDR n) (0x800 + 4 * i) = wordOf (fitTo 4 (d.drop (4 * i)))) ∧
        (x.rdr n).entries = (s.rdr n).entries ∧ x = { s with rdrs := x.rdrs, regs := x.regs }) ∧
      (∀ e uid, u.phase = .sak → u.uid = uid → (byteAt d 0).getLsbD 2 = false → u.arg0.testBit 3 = true →
        u.deferred = false → (s.rdr n).known 0 uid = none → (s.rdr n).freeEntry = some e →
        ∃ x, exec (.rdrFrameReceived n d bits none true) s = .next x ∧ RdrEnds x n { u with low := lowest u.low e } 0 ∧
          (x.rdrEntry n e).st = 1 ∧ (x.rdrEntry n e).proto = 0 ∧ (x.rdrEntry n e).uid = uid ∧
          (x.rdrEntry n e).dep = (byteAt d 0).getLsbD 5 ∧ (∀ k, k ≠ e → x.rdrEntry n k = s.rdrEntry n k) ∧
          x = { s with rdrs := x.rdrs, regs := x.regs }) ∧
      (u.phase = .selectV → (byteAt d 0).getLsbD 0 = false →
        ∃ x, exec (.rdrFrameReceived n d bits none true) s = .next x ∧ RdrEnds x n u 0 ∧
          x.rdrEntry n u.entry = { s.rdrEntry n u.entry with st := 3 } ∧ x = { s with rdrs := x.rdrs, regs := x.regs }) ∧
      (∃ x, exec (.rdrResponseTimeout n) s = .next x ∧ x = { s with rdrs := x.rdrs, regs := x.regs } ∧
        ((u.phase = .raw ∨ u.phase = .xchgV) → RdrEnds x n u 7 ∧ (x.rdr n).entries = (s.rdr n).entries) ∧
        (u.phase = .reqa → u.deferred = false → RdrEnds x n u (if u.new + u.seen = 0 then 2 else 0) ∧
          (x.rdr n).entries = (s.rdr n).entries) ∧
        (u.phase = .block → fld (s.rg (pRDR n) 0x128) 24 4 ≤ u.retry → RdrEnds x n u 10 ∧
          x.rdrEntry n u.entry = {}) ∧
        (u.phase ≠ .guard → s.rg (pRDR n) 0x168 ≠ 0xFFFFFFFF →
          x.rg (pRDR n) 0x168 = s.rg (pRDR n) 0x168 + 1)))) 

/-! ### Tag island -/

/-- Supply and changes (R296, R302, R304, R306, R307, R310). -/
def Obligations.TagSupply : Prop :=
  ∀ (s : State),
    (∀ step : Fin 6, s.tagWired = false →
      ∃ x, exec (.tagSupplyLoss step) s = .next x ∧ x.tag.powered = false ∧ x.tag.field = false ∧ x.tag.shown = 0 ∧
        x.tag.nonce = none ∧ x.tag.cycle = none ∧ x.tag.count = s.tag.count ∧
        (∀ c, s.tag.cycle = some c →
          (step.val ≤ 3 → x.tag.blocks = s.tag.blocks ∧ x.tag.shadow = s.tag.shadow) ∧
          (∀ b v, step.val = 4 → c.change = .block b v → x.tag.shadow = .copied c.change (s.tag.blockVal b) ∧
            ∀ k, k ≠ b → x.tag.blockVal k = s.tag.blockVal k) ∧
          (step.val = 5 → x.tag.shadow = .committed c.change ∧ ∀ k, x.tag.blockVal k = (s.tag.apply c.change).blockVal k)) ∧
        x = { s with tag := x.tag, free := x.free }) ∧
    (∀ field reserve, s.tag.powered = false →
      (s.tag.shadow = .empty → ∃ x, exec (.tagPowerUp field reserve) s = .next x ∧ x.tag.powered = true ∧
        x.tag.field = field ∧ x.tag.shown = 0 ∧ x.tag.rf = (if s.tag.quietCap then 1 else 0) ∧
        x.tag.blocks = s.tag.blocks ∧
        (∀ k, s.tag.seed = some k → s.tag.conf.testBit 0 = true → s.tag.count < 0xFFFFFFFF →
          x.tag.count = s.tag.count + 1 ∧ x.tag.rid = some (tagDerive k (s.tag.count + 1))) ∧
        ((s.tag.seed = none ∨ s.tag.conf.testBit 0 = false) → x.tag.ident = tagFixed) ∧
        regsBut s x [rkey pTAG 0x20] ∧ x = { s with tag := x.tag, regs := x.regs }) ∧
      (∀ b v old, s.tag.shadow = .copied (.block b v) old → (reserve = true ∨ s.tagWired = true) → b < 2048 →
        ∃ x, exec (.tagPowerUp field reserve) s = .next x ∧ x.tag.blockVal b = old ∧ x.tag.shadow = .empty ∧
          x.rg pTAG 0x130 = wd (1 + 2 ^ 16 * b + 2 ^ 31) ∧ (∀ k, k ≠ b → x.tag.blockVal k = s.tag.blockVal k) ∧
          x = { s with tag := x.tag, regs := x.regs }) ∧
      (∀ b v, s.tag.shadow = .committed (.block b v) → (reserve = true ∨ s.tagWired = true) → b < 2048 →
        ∃ x, exec (.tagPowerUp field reserve) s = .next x ∧ x.tag.blocks = s.tag.blocks ∧ x.tag.shadow = .empty ∧
          x.rg pTAG 0x130 = wd (2 + 2 ^ 16 * b + 2 ^ 31) ∧ x = { s with tag := x.tag, regs := x.regs }) ∧
      (s.tag.shadow ≠ .empty → reserve = false → s.tagWired = false →
        exec (.tagPowerUp field reserve) s = .next s)) ∧
    (∀ p, s.tag.powered = true → ∃ x, exec (.tagFieldChange p) s = .next x ∧ x.tag = { s.tag with field := p } ∧
      (p = true → s.tag.field = false → s.tamp.vin = true → bitAt (x.rg pTAG 0x20) 1 = true) ∧
      regsBut s x [rkey pTAG 0x20] ∧ x = { s with tag := x.tag, regs := x.regs }) ∧
    (s.tag.powered = true → exec .tagQuietExpiry s = .next s) ∧
    (s.tag.powered = false →
      exec .tagQuietExpiry s = .next { s with tag := { s.tag with quietCap := false } }) ∧
    (∀ c b v, s.tag.cycle = some c → c.change = .block b v → s.tag.waits = [] →
      (∃ x, exec (.tagWriteCycleDone true) s = .next x ∧ x.tag.blockVal b = v ∧ x.tag.cycle = none ∧
        (∀ k, k ≠ b → x.tag.blockVal k = s.tag.blockVal k) ∧
        (c.wire = none → x.tag.answer = some [0x00] ∧ bitAt (x.rg pTAG 0x20) 2 = true) ∧
        (∀ w a, c.wire = some w → w.agent = some a → x.arg a pTAG 0x10C = wd (256 * w.cmd + 2 ^ 31)) ∧
        x = { s with tag := x.tag, aregs := x.aregs, regs := x.regs }) ∧
      (∃ x, exec (.tagWriteCycleDone false) s = .next x ∧ x.tag.blocks = s.tag.blocks ∧ x.tag.cycle = none ∧
        (c.wire = none → x.tag.answer = some [0x01, 0x13]) ∧
        (∀ w a, c.wire = some w → w.agent = some a → x.arg a pTAG 0x10C = wd (6 + 256 * w.cmd + 2 ^ 31)) ∧
        x = { s with tag := x.tag, aregs := x.aregs, regs := x.regs })) ∧
    (∀ (b : BitVec 16) (v : Word) (n : Fin 33), s.tagWired = false → s.tag.conf.testBit 2 = true → b.toNat < 2048 →
      (s.tag.locks.contains b.toNat = false →
        ∃ x, exec (.tagI2cWrite b [v]) s = .next x ∧ x.tag.blockVal b.toNat = v ∧
          (∀ k, k ≠ b.toNat → x.tag.blockVal k = s.tag.blockVal k) ∧ x = { s with tag := x.tag }) ∧
      (s.tag.locks.contains b.toNat = true → exec (.tagI2cWrite b [v]) s = .next s) ∧
      (b.toNat + n.val ≤ 2048 → n.val ≤ 32 → ∃ x, exec (.tagI2cRead b n) s = .next x ∧
        x.tag.i2c = ((List.range n.val).map (b.toNat + ·)).flatMap (fun k => leBytes 4 (s.tag.blockVal k).toNat) ∧
        x = { s with tag := x.tag })) ∧
    (∀ (b : BitVec 16) (ws : List Word) (n : Fin 33), (s.tagWired = true ∨ s.tag.conf.testBit 2 = false) →
      exec (.tagI2cWrite b ws) s = .next s ∧ exec (.tagI2cRead b n) s = .next s)

/-- The RF side (R295, R299–R306, R308). -/
def Obligations.TagRf : Prop :=
  ∀ (s : State) (q : TagReq),
    (∀ (b c : Byte) (w : BitVec 16) (m : BitVec 64) (v : Word), s.tagHears q = false →
      ∀ row ∈ [Instr.tagInventory q b c m, .tagStayQuiet q, .tagReadSingleBlock q b, .tagWriteSingleBlock q b v,
          .tagReadMultipleBlocks q b c, .tagSelect q, .tagResetToReady q, .tagWriteAfi q b, .tagWriteDsfid q b,
          .tagGetSystemInformation q, .tagGetMultipleBlockSecurity q b c, .tagExtRead q w, .tagExtWrite q w v,
          .tagExtReadMultiple q w w, .tagExtGetSystemInformation q, .tinventory q b c m, .trerand q, .tpassword q b v,
          .tchallenge q, .tgetpwstat q, .tlockblock q w, .tkill q v, .treaduid q],
        exec row s = .next { s with tag := { s.tag with answer := none } }) ∧
    (TagTakes s q →
      (∀ (b c : Byte) (w : BitVec 16), ∀ p ∈ [(Instr.tagReadSingleBlock q b, b.toNat, 1, 255),
          (.tagReadMultipleBlocks q b c, b.toNat, c.toNat + 1, 255), (.tagExtRead q w, w.toNat, 1, 2047),
          (.tagExtReadMultiple q w (BitVec.ofNat 16 c.toNat), w.toNat, c.toNat + 1, 2047)],
        ∃ x, exec p.1 s = .next x ∧ TagSays s x (
          if s.tag.hold = true then [0x01, 0xA4] else if 32 < p.2.2.1 then [0x01, 0x03]
          else if p.2.2.2 < p.2.1 + p.2.2.1 - 1 then [0x01, 0x10]
          else if ∃ i, i < p.2.2.1 ∧ s.tag.readable (p.2.1 + i) = false then [0x01, 0xA3]
          else 0x00 :: ((List.range p.2.2.1).flatMap fun i => leBytes 4 (s.tag.blockVal (p.2.1 + i)).toNat))) ∧
      (∀ (b : Byte) (w : BitVec 16) (v : Word), ∀ p ∈ [(Instr.tagWriteSingleBlock q b v, b.toNat, 255, 0x12, TagChange.block b.toNat v),
          (.tagExtWrite q w v, w.toNat, 2047, 0x12, .block w.toNat v), (.tlockblock q w, w.toNat, 2047, 0x11, .lock w.toNat)],
        (p.2.2.1 < p.2.1 → ∃ x, exec p.1 s = .next x ∧ TagSays s x [0x01, 0x10]) ∧
        (p.2.1 ≤ p.2.2.1 → s.tag.writable p.2.1 = false → ∃ x, exec p.1 s = .next x ∧ TagSays s x [0x01, 0xA3]) ∧
        (p.2.1 ≤ p.2.2.1 → s.tag.writable p.2.1 = true → s.tag.locks.contains p.2.1 = true →
          ∃ x, exec p.1 s = .next x ∧ TagSays s x [0x01, p.2.2.2.1]) ∧
        (p.2.1 ≤ p.2.2.1 → s.tag.writable p.2.1 = true → s.tag.locks.contains p.2.1 = false →
          ((s.tag.hold = true ∨ s.tag.cycle.isSome = true) → ∃ x, exec p.1 s = .next x ∧ TagSays s x [0x01, 0xA4]) ∧
          (s.tag.hold = false → s.tag.cycle = none → s.tagReserve q = false →
            ∃ x, exec p.1 s = .next x ∧ TagSays s x [0x01, 0xA1]) ∧
          (s.tag.hold = false → s.tag.cycle = none → s.tagReserve q = true → exec p.1 s = .next { s with tag := {
            s.tag with cycle := some { change := p.2.2.2.2, wire := none }, answer := none } }))) ∧
      (∀ b : Byte, s.tag.hold = false → s.tag.cycle = none → s.tagReserve q = true →
        exec (.tagWriteAfi q b) s = .next { s with tag := {
          s.tag with cycle := some { change := .afi b.toNat, wire := none }, answer := none } } ∧
        exec (.tagWriteDsfid q b) s = .next { s with tag := {
          s.tag with cycle := some { change := .dsfid b.toNat, wire := none }, answer := none } }) ∧
      (∃ x, exec (.tagResetToReady q) s = .next x ∧
        TagSays { s with tag := { s.tag with rf := 0, quietCap := false } } x [0x00]) ∧
      (∃ x, exec (.tagGetSystemInformation q) s = .next x ∧ TagSays s x ([0x00, 0x07] ++ s.tag.ident ++
        [BitVec.ofNat 8 (nfld s.tag.conf 16 8), BitVec.ofNat 8 (nfld s.tag.conf 8 8), 0xFF, 3])) ∧
      (∃ x, exec (.tagExtGetSystemInformation q) s = .next x ∧ TagSays s x ([0x00, 0x07] ++ s.tag.ident ++
        [BitVec.ofNat 8 (nfld s.tag.conf 16 8), BitVec.ofNat 8 (nfld s.tag.conf 8 8), 0xFF, 0x07, 3])) ∧
      (∀ b c : Byte, s.tag.hold = false → b.toNat + c.toNat ≤ 255 →
        (∀ i, i ≤ c.toNat → s.tag.readable (b.toNat + i) = true) →
        ∃ x, exec (.tagGetMultipleBlockSecurity q b c) s = .next x ∧ TagSays s x (0x00 ::
          (List.range (c.toNat + 1)).map fun i => if s.tag.locks.contains (b.toNat + i) then 0x01 else 0x00)) ∧
      (∃ x n, exec (.tchallenge q) s = .next x ∧ n = Config.tagNonce (s.tag.seed.getD []) s.tag.count s.tag.nonces ∧
        TagSays { s with tag := { s.tag with nonce := some n, nonces := s.tag.nonces + 1 } } x (0x00 :: leBytes 4 n.toNat)) ∧
      (∃ x, exec (.tgetpwstat q) s = .next x ∧
        TagSays s x [0x00, BitVec.ofNat 8 (s.tag.shown &&& 0xFE), BitVec.ofNat 8 (s.tag.pwlock &&& 0xFE)]) ∧
      (∃ x, exec (.treaduid q) s = .next x ∧
        TagSays s x (if s.tag.shown.testBit 1 then 0x00 :: tagFixed else [0x01, 0xA3])) ∧
      (∀ (i : Byte) (v : Word), ∀ p ∈ [(Instr.tpassword q i v, i.toNat, false), (.tkill q v, 7, true)],
        1 ≤ p.2.1 → p.2.1 ≤ 7 → s.tag.cnts.length = 8 →
        (s.tag.pwlock.testBit p.2.1 = true → ∃ x, exec p.1 s = .next x ∧ TagSays s x [0x01, 0xA2]) ∧
        (s.tag.pwlock.testBit p.2.1 = false →
          (s.tag.nonce = none → ∃ x, exec p.1 s = .next x ∧ TagSays s x [0x01, 0x0F]) ∧
          (∀ n, s.tag.nonce = some n →
            (s.tagReserve q = false → ∃ x, exec p.1 s = .next x ∧ TagSays s x [0x01, 0xA1]) ∧
            (s.tagReserve q = true → s.tag.pws.getD p.2.1 0 ≠ 0 → v = s.tag.pws.getD p.2.1 0 ^^^ n →
              ∃ x, exec p.1 s = .next x ∧ x.tag = { s.tag with
                cnts := s.tag.cnts.set p.2.1 0, shown := s.tag.shown ||| 2 ^ p.2.1, nonce := none,
                killed := p.2.2 || s.tag.killed, answer := some [0x00] } ∧ x = { s with tag := x.tag, regs := x.regs }) ∧
            (s.tagReserve q = true → (s.tag.pws.getD p.2.1 0 = 0 ∨ v ≠ s.tag.pws.getD p.2.1 0 ^^^ n) →
              ∃ x, exec p.1 s = .next x ∧ x.tag.cnts.getD p.2.1 0 = s.tag.cnts.getD p.2.1 0 + 1 ∧ x.tag.shown = 0 ∧
                x.tag.nonce = none ∧ x.tag.killed = s.tag.killed ∧ x.tag.answer = some [0x01, 0xA3] ∧
                (s.tag.lims.getD p.2.1 0 ≤ s.tag.cnts.getD p.2.1 0 + 1 → x.tag.pwlock.testBit p.2.1 = true ∧
                  bitAt (x.rg pTAG 0x20) 3 = true) ∧ x = { s with tag := x.tag, regs := x.regs }))))) ∧
    (∀ (afi len : Byte) (m : BitVec 64), s.tagHears q = true → q.flags.getLsbD 0 = false → q.flags.getLsbD 2 = true →
      s.tag.rf ≠ 1 → (q.flags.getLsbD 4 = true → afiMatch (nfld s.tag.conf 8 8) afi.toNat = true) → len.toNat ≤ 64 →
      leNat s.tag.ident % 2 ^ len.toNat = m.toNat % 2 ^ len.toNat →
      (∃ x, exec (.tagInventory q afi len m) s = .next x ∧
        x.tag.answer = some ([0x00, BitVec.ofNat 8 (nfld s.tag.conf 16 8)] ++ s.tag.ident) ∧
        (q.flags.getLsbD 5 = false → x.tag.slot = leNat s.tag.ident / 2 ^ len.toNat % 16) ∧
        x = { s with tag := x.tag, regs := x.regs }) ∧
      (∃ x, exec (.tinventory q afi len m) s = .next x ∧ x.tag.answer = some ([0x00,
          BitVec.ofNat 8 (flagAt s.tag.random 0 + flagAt (s.tag.conf.testBit 1) 1), BitVec.ofNat 8 (nfld s.tag.conf 16 8)] ++
          s.tag.ident) ∧ x = { s with tag := x.tag, regs := x.regs })) ∧
    (s.tagHears q = true → q.flags.getLsbD 5 = true → q.uid = s.tag.ident →
      exec (.tagStayQuiet q) s = .next { s with tag := {
        s.tag with rf := 1, quietCap := s.tag.quietCap || s.tag.conf.testBit 1, answer := none } } ∧
      (s.tag.random = true → ∀ k, s.tag.seed = some k → exec (.trerand q) s = .next { s with tag := {
        s.tag with count := min 0xFFFFFFFF (s.tag.count + 1), rid := some (tagDerive k (min 0xFFFFFFFF (s.tag.count + 1))),
                   answer := none } })) ∧
    (s.tagHears q = true → q.uid = s.tag.ident → ∃ x, exec (.tagSelect q) s = .next x ∧
      TagSays { s with tag := { s.tag with rf := 2, quietCap := false } } x [0x00])

/-- The wire side (R303, R305, R308, R309). -/
def Obligations.TagWireSide : Prop :=
  (∀ (s t : State) (a : AgentId) (b i : Nat) (arg data : Word), Writes s t a pTAG 0x100 → arg = t.arg a.toNat pTAG 0x104 →
    data = t.arg a.toNat pTAG 0x108 → b = fld arg 0 11 → i = fld arg 12 3 →
    (∀ p ∈ [(1, Instr.tagWireRead a), (2, .tagWireWrite a), (3, .tagProtect a), (4, .tagSetpw a), (5, .tagPwreset a),
        (6, .tagConfig a), (7, .tagSeed (some a)), (8, .tagHold a), (9, .tagUnhold a), (10, .tagKill a), (11, .tagLockblock a)],
      (t.tagBusy a.toNat = true → ∃ x, exec p.2 s = .next x ∧ ok x a ∧ bitAt (x.rg pTAG 0x1C) 16 = true ∧
        regsBut t x [rkey pTAG 0x1C] ∧ x = { t with regs := x.regs, ports := x.ports }) ∧
      (t.tagBusy a.toNat = false → (3 ≤ p.1 ∧ p.1 ≤ 8 ∨ p.1 = 10) → classOf a.toNat ≠ .sys →
        (classOf a.toNat ≠ .keyd ∨ p.1 = 10) → ∃ x, exec p.2 s = .next x ∧ ok x a ∧
          x.arg a.toNat pTAG 0x10C = wd (4 + 256 * p.1 + 2 ^ 31) ∧
          x = { t with aregs := x.aregs, regs := x.regs, ports := x.ports })) ∧
    (t.tagBusy a.toNat = false → t.tag.waits = [] → t.tag.cycle = none →
      (∃ x, exec (.tagWireRead a) s = .next x ∧ ok x a ∧ x.arg a.toNat pTAG 0x108 = t.tag.blockVal b ∧
        x.arg a.toNat pTAG 0x10C = wd (256 * 1 + 2 ^ 31) ∧
        x = { t with aregs := x.aregs, regs := x.regs, ports := x.ports }) ∧
      (∃ x, exec (.tagUnhold a) s = .next x ∧ ok x a ∧ x.tag = { t.tag with hold := false } ∧
        x.arg a.toNat pTAG 0x10C = wd (256 * 9 + 2 ^ 31) ∧
        x = { t with tag := x.tag, aregs := x.aregs, regs := x.regs, ports := x.ports }) ∧
      (∀ p ∈ [(2, Instr.tagWireWrite a), (11, .tagLockblock a)], t.tag.locks.contains b = true →
        ∃ x, exec p.2 s = .next x ∧ ok x a ∧ x.arg a.toNat pTAG 0x10C = wd (3 + 256 * p.1 + 2 ^ 31) ∧
          x = { t with aregs := x.aregs, regs := x.regs, ports := x.ports }) ∧
      (∀ p ∈ [(2, Instr.tagWireWrite a, TagChange.block b data), (11, .tagLockblock a, .lock b),
          (3, .tagProtect a, .protect (fld arg 16 4) (fld arg 20 3) (fld arg 24 3)),
          (4, .tagSetpw a, .setpw i data (fld arg 28 4)), (5, .tagPwreset a, .pwreset i),
          (6, .tagConfig a, .conf data.toNat)],
        ((p.1 = 2 ∨ p.1 = 11) → t.tag.locks.contains b = false) →
        (3 ≤ p.1 → p.1 ≤ 6 → classOf a.toNat = .sys ∨ classOf a.toNat = .keyd) → ((p.1 = 4 ∨ p.1 = 5) → i ≠ 0) →
        ∃ x w, exec p.2.1 s = .next x ∧ ok x a ∧ x.tag = { t.tag with cycle := some { change := p.2.2, wire := some w } } ∧
          w.agent = some a.toNat ∧ w.cmd = p.1 ∧ x.arg a.toNat pTAG 0x10C = wd (256 * p.1 + 2 ^ 30) ∧
          x = { t with tag := x.tag, aregs := x.aregs, ports := x.ports }) ∧
      ((classOf a.toNat = .sys ∨ classOf a.toNat = .keyd) →
        (∃ x, exec (.tagHold a) s = .next x ∧ ok x a ∧ x.tag = { t.tag with hold := true } ∧
          x.arg a.toNat pTAG 0x10C = wd (256 * 8 + 2 ^ 31) ∧
          x = { t with tag := x.tag, aregs := x.aregs, regs := x.regs, ports := x.ports }) ∧
        (i = 0 → ∀ p ∈ [(4, Instr.tagSetpw a), (5, .tagPwreset a)], ∃ x, exec p.2 s = .next x ∧ ok x a ∧
          x.arg a.toNat pTAG 0x10C = wd (2 + 256 * p.1 + 2 ^ 31) ∧
          x = { t with aregs := x.aregs, regs := x.regs, ports := x.ports }) ∧
        (∀ y k w, w = TagWire.mk (some a.toNat) 7 arg data →
          ((t.setArg a.toNat pTAG 0x10C (wd (256 * 7 + 2 ^ 30))).modTag fun g => { g with waits := [w] }).wireDraw 9 16 =
            (y, 0, k) →
          ∃ x, exec (.tagSeed (some a)) s = .next x ∧ ok x a ∧
            x.tag.cycle = some { change := .seed k, wire := some w } ∧ x = { y with tag := x.tag, ports := x.ports })) ∧
      (classOf a.toNat = .sys → ∃ x, exec (.tagKill a) s = .next x ∧ ok x a ∧ x.tag = { t.tag with killed := true } ∧
        x.arg a.toNat pTAG 0x10C = wd ((if t.tag.killed then 8 else 0) + 256 * 10 + 2 ^ 31) ∧
        x = { t with tag := x.tag, aregs := x.aregs, regs := x.regs, ports := x.ports }))) ∧
  (∀ (s y : State) (k : List Byte), s.tag.waits = [] → s.tag.cycle = none → s.tag.seedDue = true → s.rng.ready = true →
    s.tag.conf.testBit 0 = true → s.wireDraw 9 16 = (y, 0, k) →
    ∃ x w, exec (.tagSeed none) s = .next x ∧ x.tag = { y.tag with
        seedDue := false, cycle := some { change := .seed k, wire := some w } } ∧ w.agent = none ∧
      x = { y with tag := x.tag })

/-! ### Contact slots, SD slot, journal -/

/-- The contact slots (R311–R318). -/
def Obligations.ContactSlots : Prop :=
  ∀ (s t : State) (a : AgentId) (n : Fin 4),
    (Writes s t a (pCARD n) 0x108 →
      (∀ u, (t.card n).run = some u →
        (∃ x, exec (.cardDeactivate n a) s = .next x ∧ ok x a ∧ bitAt (x.rg (pCARD n) 0x1C) 16 = true ∧
          regsBut t x [rkey (pCARD n) 0x1C] ∧ x = { t with regs := x.regs, ports := x.ports }) ∧
        (u.cmd = 2 → u.opened = false → ∃ x, exec (.cardAbort n a) s = .next x ∧ ok x a ∧
          CardEnds x n u (if u.left = 0 ∨ u.jrn = false then 13 else 10) ∧ (x.card n).st = (t.card n).st ∧
          x = { t with cards := x.cards, regs := x.regs, ports := x.ports })) ∧
      ((t.card n).run = none →
        (∃ x, exec (.cardAbort n a) s = .next x ∧ ok x a ∧ x = { t with ports := x.ports }) ∧
        (∀ cls div, cls = (if fld (t.rg (pCARD n) 0x100) 0 2 = 0 then 3 else fld (t.rg (pCARD n) 0x100) 0 2) →
          div = fld (t.rg (pCARD n) 0x104) 0 8 →
          ((t.card n).st ≠ 1 → ∃ x, exec (.cardActivate n a none) s = .next x ∧ ok x a ∧
            CardEnds x n { cmd := 1 } 17 ∧ x = { t with cards := x.cards, regs := x.regs, ports := x.ports }) ∧
          ((t.card n).st = 1 → (div < 12 ∨ 240 < div) → ∃ x, exec (.cardActivate n a none) s = .next x ∧ ok x a ∧
            CardEnds x n { cmd := 1 } 2 ∧ bitAt (x.rg (pCARD n) 0x1C) 17 = true ∧
            x = { t with cards := x.cards, regs := x.regs, ports := x.ports }) ∧
          ((t.card n).st = 1 → 12 ≤ div → div ≤ 240 → (cls = 1 → t.classAHeld n = false ∧ t.bstUp = true) →
            ∃ x, exec (.cardActivate n a none) s = .next x ∧ ok x a ∧ (x.card n).st = 2 ∧ (x.card n).cls = cls ∧
              (x.card n).run = some { cmd := 1, cls := cls } ∧ (∀ m, m ≠ n.val → x.card m = t.card m) ∧
              x = { t with cards := x.cards, ports := x.ports }) ∧
          ((t.card n).st = 1 → 12 ≤ div → div ≤ 240 → cls = 1 → t.bstUp = false →
            ∃ x, exec (.cardActivate n a none) s = .next x ∧ ok x a ∧ CardEnds x n { cmd := 1 } 12 ∧ (x.card n).st = 1 ∧
              x = { t with cards := x.cards, regs := x.regs, ports := x.ports })) ∧
        (∃ x, exec (.cardDeactivate n a) s = .next x ∧ ok x a ∧
          CardEnds x n { cmd := 4 } (if (t.card n).st = 0 then 17 else 0) ∧
          ((t.card n).st ≠ 0 → (x.card n).st = 1 ∧ (x.card n).cls = 0) ∧
          x = { t with cards := x.cards, regs := x.regs, ports := x.ports }) ∧
        (((t.card n).st = 3 ∨ (t.card n).st = 4) → ∃ x, exec (.cardWarm n a none) s = .next x ∧ ok x a ∧
          (x.card n).st = 2 ∧ (x.card n).run = some { cmd := 3, cls := (t.card n).cls } ∧
          x = { t with cards := x.cards, ports := x.ports }) ∧
        (∀ len tx j code u, len = fld (t.rg (pCARD n) 0x110) 0 11 → tx = t.cardTx n → j = t.rbit (pCARD n) 0x10C 0 →
          u = CardRun.mk 2 (t.card n).cls 0 j false →
          code = (if (t.card n).st ≠ 3 ∧ (t.card n).st ≠ 4 then 17 else if len < 4 ∨ 1024 < len then 5
            else if apduOk tx = false then 6 else if apduExtended tx = true ∧ t.cardT1 n = false then 2
            else if j = true ∧ tfind t.jrnl.opens n ≠ none then 16 else 0) →
          (code ≠ 0 → ∃ x, exec (.cardApdu n a .silent none) s = .next x ∧ ok x a ∧ CardEnds x n u code ∧
            x = { t with cards := x.cards, regs := x.regs, ports := x.ports }) ∧
          (code = 0 → ∃ x, exec (.cardApdu n a .silent none) s = .next x ∧ ok x a ∧ (x.card n).st = 3 ∧
            (x.card n).run = some u ∧ x = { t with cards := x.cards, ports := x.ports })))) ∧
    (∀ u y i, (s.card n).run = some u → u.cmd = 1 → s.rbit (pCARD n) 0x100 2 = false →
      (parseAtr y.bytes = none → ∃ x, exec (.cardActivate n a (some y)) s = .next x ∧ CardEnds x n u 3 ∧
        (x.card n).st = 1 ∧ (x.card n).cls = 0 ∧ x = { s with cards := x.cards, regs := x.regs }) ∧
      (∃ x, exec (.cardAtrTimeout n) s = .next x ∧ CardEnds x n u 3 ∧ (x.card n).st = 1 ∧
        x = { s with cards := x.cards, regs := x.regs }) ∧
      (parseAtr y.bytes = some i → i.ta2 = none → i.ta1 = 0x11 → i.proto.getD 0 ≤ 1 →
        ∃ x, exec (.cardActivate n a (some y)) s = .next x ∧ CardEnds x n u 0 ∧ (x.card n).st = 3 ∧
          (x.card n).atr = y.bytes.take 16 ∧ x.rg (pCARD n) 0x120 = wd y.bytes.length ∧
          fld (x.rg (pCARD n) 0x11C) 0 4 = 1 ∧ fld (x.rg (pCARD n) 0x11C) 4 4 = 1 ∧
          bitAt (x.rg (pCARD n) 0x11C) 8 = (i.proto.getD 0 == 1) ∧
          (∀ k, 4 * k < y.bytes.length → x.rg (pCARD n) (0x800 + 4 * k) = wordOf (fitTo 4 (y.bytes.drop (4 * k)))) ∧
          x = { s with cards := x.cards, regs := x.regs })) ∧
    (∀ u, (s.card n).run = some u → u.cmd = 2 → u.jrn = false → u.opened = false → s.changes = [] →
      (∀ bs, bs.length ≤ 1024 → s.cardT1 n = true →
        ∃ x, exec (.cardApdu n a (.answer [bs] 0) none) s = .next x ∧ CardEnds x n { u with left := 2 } 0 ∧
          x.rg (pCARD n) 0x114 = wd bs.length ∧
          (∀ k, 4 * k < bs.length → x.rg (pCARD n) (0x800 + 4 * k) = wordOf (fitTo 4 (bs.drop (4 * k)))) ∧
          (x.card n).st = (s.card n).st ∧ x = { s with cards := x.cards, regs := x.regs }) ∧
      (∃ x, exec (.cardApdu n a (.left true) none) s = .next x ∧ (x.card n).run = some { u with left := 2 } ∧
        x = { s with cards := x.cards }) ∧
      (∃ x, exec (.cardApdu n a (.lost 0) none) s = .next x ∧ CardEnds x n u (if u.left = 0 then 9 else 10) ∧
        (x.card n).st = 1 ∧ x = { s with cards := x.cards, regs := x.regs })) ∧
    (∀ u, (s.card n).run = some u → u.opened = false →
      (∃ x, exec (.cardTimeout n) s = .next x ∧ CardEnds x n u (if u.left = 0 then 7 else 10) ∧
        (u.cmd ≠ 2 → (x.card n).st = 1) ∧ x.rg (pCARD n) 0x124 ≠ 0 ∧ x = { s with cards := x.cards, regs := x.regs }) ∧
      ((s.card n).cls ≠ 0 → ∃ x, exec (.cardOvercurrent n) s = .next x ∧ CardEnds x n u 11 ∧ (x.card n).st = 1 ∧
        (x.card n).cls = 0 ∧ bitAt (x.rg (pCARD n) 0x1C) 18 = true ∧ x = { s with cards := x.cards, regs := x.regs }) ∧
      (s.pdOn 49 = true → (s.card n).st ≠ 0 → ∃ x, exec (.cardRemoval n) s = .next x ∧
        CardEnds x n u (if u.left = 0 then 1 else 10) ∧ (x.card n).st = 0 ∧ bitAt (x.rg (pCARD n) 0x20) 2 = true ∧
        x = { s with cards := x.cards, regs := x.regs })) ∧
    (s.pdOn 49 = true → (s.card n).st = 0 → ∃ x, exec (.cardInsertion n) s = .next x ∧
      x.card n = { s.card n with st := 1 } ∧ bitAt (x.rg (pCARD n) 0x20) 1 = true ∧ (∀ m, m ≠ n.val → x.card m = s.card m) ∧
      regsBut s x [rkey (pCARD n) 0x20] ∧ x = { s with cards := x.cards, regs := x.regs }) ∧
    ((s.card n).st = 3 → (s.card n).run = none → s.rbit (pCARD n) 0x100 6 = true → fld (s.rg (pCARD n) 0x11C) 11 2 ≠ 0 →
      ∃ x, exec (.cardClockStop n) s = .next x ∧ x.card n = { s.card n with st := 4 } ∧ x = { s with cards := x.cards })

/-- The SD slot (R319–R323, R328). -/
def Obligations.SdSlot : Prop :=
  (∀ (s t : State) (a : AgentId) (r : SdRun), Writes s t a pSDC 0x104 → t.sdc.run = none →
    r = { cmd := 0, agent := a.toNat, jrn := bitAt (t.rg pSDC 0x108) 31, mode := fld (t.rg pSDC 0x108) 0 3,
          lba := (t.rg pSDC 0x10C).toNat, count := fld (t.rg pSDC 0x110) 0 16,
          addr := (t.rg pSDC 0x114).toNat + fld (t.rg pSDC 0x118) 0 8 * 2 ^ 32 } →
    (t.sdc.present = false → ∀ p ∈ [(1, Instr.sdcInit a none), (2, .sdcRead a none), (3, .sdcWrite a 0 [] true none),
        (4, .sdcSwitch a none), (5, .sdcPowerOff a)],
      ∃ x, exec p.2 s = .next x ∧ ok x a ∧ SdEnds x { r with cmd := p.1 } 1 ∧ x.sdc = t.sdc ∧
        x = { t with regs := x.regs, ports := x.ports }) ∧
    (t.sdc.present = true →
      (t.sdc.st ≠ 5 → ∃ x, exec (.sdcInit a none) s = .next x ∧ ok x a ∧
        x.sdc = { t.sdc with st := 2, run := some { r with cmd := 1 } } ∧ x = { t with sdc := x.sdc, ports := x.ports }) ∧
      (∃ x, exec (.sdcPowerOff a) s = .next x ∧ ok x a ∧ x.sdc = { t.sdc with st := 1 } ∧ x.rg pSDC 0x120 = 0 ∧
        SdEnds x { r with cmd := 5 } 0 ∧ x = { t with sdc := x.sdc, regs := x.regs, ports := x.ports }) ∧
      (t.sdc.st = 4 → r.mode ≤ 5 → ∃ x, exec (.sdcSwitch a none) s = .next x ∧ ok x a ∧
        x.sdc = { t.sdc with run := some { r with cmd := 4 } } ∧ x = { t with sdc := x.sdc, ports := x.ports }) ∧
      (∀ p ∈ [(2, Instr.sdcRead a none), (3, .sdcWrite a 0 [] true none)], ∀ code,
        code = (if t.sdc.st = 5 then 12 else if t.sdc.st ≠ 4 then 3 else if r.count = 0 ∨ (r.jrn = true ∧ 31 < r.count) then 5
          else if t.sdBlocks < r.lba + r.count then 6 else if p.1 = 3 ∧ t.sdc.wp = true then 7
          else if p.1 = 3 ∧ r.jrn = true ∧ tfind t.jrnl.opens 4 ≠ none then 12 else 0) →
        (code ≠ 0 → ∃ x, exec p.2 s = .next x ∧ ok x a ∧ SdEnds x { r with cmd := p.1 } code ∧ x.sdc = t.sdc ∧
          x = { t with regs := x.regs, ports := x.ports }) ∧
        (code = 0 → (p.1 = 2 ∨ r.jrn = false) → ∃ x, exec p.2 s = .next x ∧ ok x a ∧
          x.sdc = { t.sdc with run := some { r with cmd := p.1 } } ∧ x = { t with sdc := x.sdc, ports := x.ports })))) ∧
  (∀ (s t : State) (a : AgentId) (r : SdRun), Writes s t a pSDC 0x104 → t.sdc.run = some r → t.sdc.wait = none →
    t.sdc.restoring = false → r.cmd = 2 → r.auto = false →
    ∃ x, exec (.sdcAbort a) s = .next x ∧ ok x a ∧ SdEnds x r 15 ∧ x = { t with sdc := x.sdc, regs := x.regs, ports := x.ports }) ∧
  (∀ (s : State) (a : AgentId) (r : SdRun), s.sdc.run = some r → r.auto = false → s.sdc.wait = none →
    (∀ y : SdInit, r.cmd = 1 → s.sdc.restoring = false → s.jrnl.ready = true →
      (y.answers = false → ∃ x, exec (.sdcInit a (some y)) s = .next x ∧ SdEnds x r 3 ∧ x.sdc.st = 6 ∧
        x = { s with sdc := x.sdc, regs := x.regs }) ∧
      (y.answers = true → y.supported = true → y.s18a = false → fld (s.rg pSDC 0x100) 0 3 ≤ 5 → tfind s.jrnl.opens 4 = none →
        y.cid.length = 16 → ∃ x, exec (.sdcInit a (some y)) s = .next x ∧ x.sdc.st = 4 ∧ x.rg pSDC 0x124 = wd y.blocks ∧
          (∀ k, k < 4 → x.rg pSDC (0x128 + 4 * k) = wordOf (y.cid.drop (4 * k))) ∧
          SdEnds x r (if (sdSpeed 0 (fld (s.rg pSDC 0x100) 0 3) y.speed).2 then 0 else 4) ∧
          fld (x.rg pSDC 0x120) 0 3 = (sdSpeed 0 (fld (s.rg pSDC 0x100) 0 3) y.speed).1 ∧
          x = { s with sdc := x.sdc, regs := x.regs })) ∧
    (r.cmd = 2 →
      (∀ bs w, s.tamp.halted = false → w = (s.modSdRun fun r => { r with stage := 2 }).engWrite r.agent r.addr (fitTo (512 * r.count) bs) →
        w.st.sdc = (s.modSdRun fun r => { r with stage := 2 }).sdc → w.st.held = s.held →
        ∃ x, exec (.sdcRead a (some (.blocks bs))) s = .next x ∧
          SdEnds x { r with stage := 2 } (if w.fault = .none then 0 else sdFault w.fault) ∧
          x = { w.st with sdc := x.sdc, regs := x.regs }) ∧
      (s.tamp.halted = false → ∃ x, exec (.sdcRead a (some .crc)) s = .next x ∧ SdEnds x { r with stage := 2 } 8 ∧ x.rg pSDC 0x13C ≠ 0 ∧
        x = { s with sdc := x.sdc, regs := x.regs }) ∧
      (s.tamp.halted = false → ∃ x, exec (.sdcRead a (some .timeout)) s = .next x ∧ SdEnds x r 9 ∧ x.rg pSDC 0x140 ≠ 0 ∧
        x = { s with sdc := x.sdc, regs := x.regs })) ∧
    (∀ m, s.tamp.halted = false → r.cmd = 3 → r.jrn = false → r.stage = 0 → s.sdc.restoring = false →
      m = (s.modSdRun fun r => { r with stage := 2 }).engRead r.agent r.addr (512 * r.count) →
      m.st.sdc = (s.modSdRun fun r => { r with stage := 2 }).sdc → m.fault = .none → m.st.held = s.held →
      ∃ x, exec (.sdcWrite a 3 [] true none) s = .next x ∧ SdEnds x { r with stage := 2 } 0 ∧
        x.sdc.sent = some (r.lba, m.data) ∧ x = { m.st with sdc := x.sdc, regs := x.regs }) ∧
    (∀ w : SdSwitch, r.cmd = 4 → ∃ x, exec (.sdcSwitch a (some w)) s = .next x ∧
      SdEnds x r (if w.check && w.switched && (r.mode < 4 || w.tuned) then 0 else 4) ∧
      (w.check && w.switched && (r.mode < 4 || w.tuned) → r.mode < 8 → fld (x.rg pSDC 0x120) 0 3 = r.mode) ∧
      ((w.check && w.switched) = false → x.rg pSDC 0x120 = s.rg pSDC 0x120) ∧
      x = { s with sdc := x.sdc, regs := x.regs }) ∧
    (r.cmd = 3 → r.stage = 2 → s.sdc.restoring = false → s.sdc.present = true →
      ∃ x, exec .sdcBusyTimeout s = .next x ∧ x.rg pSDC 0x11C = wd (10 + 256 * 3 + 2 ^ 16 + 2 ^ 31) ∧ x.sdc.st = 2 ∧
        (∃ q, x.sdc.run = some q ∧ q.cmd = 1 ∧ q.auto = true) ∧ x = { s with sdc := x.sdc, regs := x.regs }) ∧
    (s.pdOn 50 = true → s.sdc.present = true → tfind s.jrnl.opens 4 = none → ∃ x, exec .sdcRemoval s = .next x ∧
      SdEnds x r (if r.cmd = 3 ∧ r.stage = 2 then 10 else 1) ∧ x.sdc.present = false ∧ x.sdc.st = 0 ∧
      bitAt (x.rg pSDC 0x20) 2 = true ∧ x = { s with sdc := x.sdc, regs := x.regs })) ∧
  (∀ (s : State) (wp : Bool), s.pdOn 50 = true → s.sdc.present = false → s.rbit pSDC 0x100 6 = false →
    ∃ x, exec (.sdcInsertion wp) s = .next x ∧ x.sdc = { s.sdc with present := true, wp := wp, st := 1 } ∧
      bitAt (x.rg pSDC 0x20) 1 = true ∧ regsBut s x [rkey pSDC 0x20] ∧ x = { s with sdc := x.sdc, regs := x.regs })

/-- The journal (R324–R332). -/
def Obligations.Journal : Prop :=
  (∀ (s : State) (a : AgentId) (r : SdRun) (sec p : Nat) (pre old head : List Byte), s.sdc.run = some r → r.cmd = 3 →
    r.jrn = true → r.stage = 0 → s.tamp.halted = false → s.jrnl.ready = true → s.jrnl.cur = some sec → r.count ≤ 31 →
    s.jrnl.pos + (80 + 512 * r.count) ≤ 0x4000 → p = sectorBase sec + s.jrnl.pos →
    s.flashWaits p = false → old = fitTo (512 * r.count) pre →
    head = [0x4A, 0x52, 0x01, 0x01, 0x04, BitVec.ofNat 8 r.count, 0, 0] ++ leBytes 8 s.jrnl.seq ++
      ((List.range 4).flatMap fun i => leBytes 4 (s.rg pSDC (0x128 + 4 * i)).toNat) ++
      leBytes 4 r.lba ++ leBytes 4 (crc32 old) ++ leBytes 8 s.now →
    ∃ x, exec (.sdcWrite a 1 pre true none) s = .next x ∧ x.sdc = { s.sdc with run := some { r with stage := 1 } } ∧
      x.jrnl = { s.jrnl with
        pos := s.jrnl.pos + 80 + 512 * r.count, seq := s.jrnl.seq + 1, opens := tset s.jrnl.opens 4 p } ∧
      (∀ i, i < 48 → memByte x.ddr x.mem (p + i) = byteAt head i) ∧
      (∀ i, i < 16 → memByte x.ddr x.mem (p + 48 + i) = byteAt [0x4F, 0x50, 0x45, 0x4E] i) ∧
      (∀ i, i < 512 * r.count → memByte x.ddr x.mem (p + 80 + i) = byteAt old i) ∧ x.wsAt (p + 48) = 0 ∧
      (∀ y, (y < p ∨ p + 80 + 512 * r.count ≤ y) → memByte x.ddr x.mem y = memByte s.ddr s.mem y) ∧
      x = { s with sdc := x.sdc, jrnl := x.jrnl, flash := x.flash, mem := x.mem }) ∧
  (∀ (s : State) (a : AgentId) (r : SdRun) (p : Nat), s.sdc.run = some r → r.cmd = 3 → r.jrn = true → r.auto = false →
    r.stage = 1 → s.tamp.halted = false → s.sdc.restoring = false → s.sdc.wait = none → tfind s.jrnl.opens 4 = some p →
    s.flashWaits (p + 64) = false → ∃ x, exec (.sdcWrite a 3 [] true none) s = .next x ∧ SdEnds x { r with stage := 2 } 0 ∧ JrnlClosed s x 4 1 p ∧
      x.sdc.sent = some (r.lba, r.data) ∧
      x = { s with sdc := x.sdc, jrnl := x.jrnl, flash := x.flash, mem := x.mem, regs := x.regs }) ∧
  (∀ (s t : State) (a : AgentId) (k : Fin 8), Writes s t a pJRNL 0x138 →
    (tfind t.jrnl.opens k = none → ∃ x, exec (.jrnlAck a k) s = .next x ∧ ok x a ∧ x.rg pJRNL 0x13C = wd (1 + 2 ^ 31) ∧
      x = { t with regs := x.regs, ports := x.ports }) ∧
    (a.toNat ≠ aMCORE → ∃ x, exec (.jrnlDiscard a k) s = .next x ∧ ok x a ∧ x.rg pJRNL 0x13C = wd (2 + 2 ^ 31) ∧
      x = { t with regs := x.regs, ports := x.ports }) ∧
    (∀ p, tfind t.jrnl.opens k = some p → t.flashWaits (p + 64) = false →
      (k.val = 4 → ∃ x, exec (.jrnlAck a k) s = .next x ∧ ok x a ∧ x.rg pJRNL 0x13C = wd (3 + 2 ^ 31) ∧
        x = { t with regs := x.regs, ports := x.ports }) ∧
      (k.val ≠ 4 → ∃ x, exec (.jrnlAck a k) s = .next x ∧ ok x a ∧ x.rg pJRNL 0x13C = wd (2 ^ 31) ∧
        JrnlClosed t x k 4 p ∧
        x = { t with jrnl := x.jrnl, flash := x.flash, mem := x.mem, regs := x.regs, ports := x.ports }) ∧
      (a.toNat = aMCORE → ∃ x, exec (.jrnlDiscard a k) s = .next x ∧ ok x a ∧ x.rg pJRNL 0x13C = wd (2 ^ 31) ∧
        JrnlClosed t x k 3 p ∧
        (k.val = 4 → t.sdc.st = 5 → x.sdc = { t.sdc with st := if t.sdc.present then 4 else 0 }) ∧
        x = { t with sdc := x.sdc, jrnl := x.jrnl, flash := x.flash, mem := x.mem, regs := x.regs, ports := x.ports }))) ∧
  (∀ (s : State) (r : SdRun) (p count : Nat) (pre : List Byte), s.tamp.halted = false → s.sdc.restoring = true → s.sdc.run = some r →
    r.auto = false → s.sdc.wait = none → tfind s.jrnl.opens 4 = some p → count = leAt (s.flashBytes p 16) 5 1 →
    pre = s.flashBytes (p + 80) (512 * count) → s.flashWaits (p + 64) = false →
    (s.sdc.wp = false → crc32 pre = leAt (s.flashBytes (p + 32) 16) 4 4 →
      (∀ w ∈ codeWords p (80 + 512 * count), w ≠ (p + 64 - 0x10000000) / 16 → s.wordFlagged w = false) →
      ∃ x, exec (.sdcRestore true) s = .next x ∧ x.sdc.st = 4 ∧ x.sdc.restoring = false ∧
        x.sdc.sent = some (leAt (s.flashBytes (p + 32) 16) 0 4, pre) ∧ JrnlClosed s x 4 2 p ∧ SdEnds x r r.after ∧
        x.rg pJRNL 0x14C ≠ 0 ∧ bitAt (x.rg pJRNL 0x20) 2 = true ∧
        x = { s with sdc := x.sdc, jrnl := x.jrnl, flash := x.flash, mem := x.mem, regs := x.regs }) ∧
    (∃ x, exec (.sdcRestore false) s = .next x ∧ x.sdc.st = 5 ∧ x.sdc.restoring = false ∧ SdEnds x r 16 ∧
      bitAt (x.rg pJRNL 0x1C) 16 = true ∧ x = { s with sdc := x.sdc, regs := x.regs })) ∧
  (∀ s : State, s.flash.scanned = true → s.jrnl.ready = false → (∀ i, i < 16 → s.sectorHeader (496 + i) = none) →
    exec .jrnlScan s = .next { s with jrnl := { ready := true } })

/-! ### Legal island -/

/-- The mailbox (R353, R356–R364). -/
def Obligations.LegalMailbox : Prop :=
  (∀ (s t : State) (a : AgentId), Writes s t a pLEGAL 0x130 →
    (t.legal.mb = 0 → ∃ x, exec (.legalMbPost a) s = .next x ∧ ok x a ∧
      x.legal = { t.legal with mb := 1, mbAgent := a.toNat } ∧ x.rg pLEGAL 0x134 = 0 ∧
      (∀ k, k < 64 → x.rg pLEGAL (0x800 + 4 * k) = 0) ∧
      x = { t with legal := x.legal, regs := x.regs, ports := x.ports }) ∧
    (t.legal.mb ≠ 0 → ∃ x, exec (.legalMbPost a) s = .next x ∧ ok x a ∧ bitAt (x.rg pLEGAL 0x1C) 16 = true ∧
      regsBut t x [rkey pLEGAL 0x1C] ∧ x = { t with regs := x.regs, ports := x.ports })) ∧
  (∀ (s t : State), s.legal.mb = 1 → s.legal.mstate ≠ 0 →
    t = (s.setRg pLEGAL 0x138 (s.rg pLEGAL 0x138 + 1)).modLegal (fun l => { l with mb := 2 }) →
    ((1 ≤ s.mbCode ∧ s.mbCode ≤ 0x0E) ∨ (0x80 ≤ s.mbCode ∧ s.legal.mstate = 1) → exec .legalMbTake s = .next t) ∧
    (s.mbCode = 0 ∨ (0x0F ≤ s.mbCode ∧ s.mbCode < 0x80) → ∃ x, exec .legalMbTake s = .next x ∧ MbAnswers t x 1 []) ∧
    (0x80 ≤ s.mbCode → s.legal.mstate ≠ 1 → ∃ x, exec .legalMbTake s = .next x ∧ MbAnswers t x 5 [])) ∧
  (∀ (s : State) (good : Bool) (samples : List Bool) (mask : List Byte), s.legal.mb = 2 →
    ∀ p ∈ [(1, 0, Instr.legalStatus), (2, 48, .legalReading good), (3, 4, .legalGetrec), (4, 4, .legalGetbook),
        (5, 0, .legalGetkey), (6, 8, .legalSettime), (7, 4, .legalParam), (8, 0, .legalUpdateBegin),
        (9, 256, .legalUpdateData), (0x0A, 0, .legalUpdateEnd), (0x0B, 32, .legalKeygen samples mask),
        (0x0C, 0, .legalReset), (0x0D, 0, .legalHarmonics), (0x0E, 0, .legalClearbook)],
      s.mbCode = p.1 → s.mbLen ≠ p.2.1 → ∃ x, exec p.2.2 s = .next x ∧ MbAnswers s x 2 []) ∧
  (∀ (s : State), MbHolds s 1 0 → ∃ x, exec .legalStatus s = .next x ∧
    MbAnswers s x 0 ((List.range 16).flatMap fun i => leBytes 4 (s.rg pAFE (0x240 + 4 * i)).toNat)) ∧
  (∀ (s : State) (good : Bool) (code : Nat), MbHolds s 2 48 →
    code = (if s.mbArg = 0 ∨ 3 < s.mbArg then 3 else if s.legal.mstate ≠ 1 then 5 else if 2 < s.islandLc then 6
      else if s.legal.key = none then 12 else if good = false then 13 else 0) →
    (code ≠ 0 → ∃ x, exec (.legalReading good) s = .next x ∧ MbAnswers s x code []) ∧
    (∀ k, s.legal.key = some k → code = 0 → LflFree s → ∃ x bs, exec (.legalReading good) s = .next x ∧ MbEnds s x 0 bs ∧
      RecordMade s x s.mbArg (s.mbReq 0 16) (unshare k.1) bs ∧
      x = { s with regs := x.regs, legal := x.legal, mem := x.mem, flash := x.flash })) ∧
  (∀ (s : State), MbHolds s 3 4 →
    (∀ bs, s.recordAt (leNat (s.mbReq 0 4)) = some bs → ∃ x, exec .legalGetrec s = .next x ∧ MbAnswers s x 0 bs) ∧
    (s.recordAt (leNat (s.mbReq 0 4)) = none → ∃ x, exec .legalGetrec s = .next x ∧ MbAnswers s x 3 [])) ∧
  (∀ (s : State) (i : Nat), MbHolds s 4 4 → i = leNat (s.mbReq 0 4) →
    (1 ≤ s.mbArg → s.mbArg ≤ 8 → i + s.mbArg ≤ s.legal.bookNo → ∃ x, exec .legalGetbook s = .next x ∧
      MbAnswers s x 0 (s.flashBytes (0x103E0000 + 32 * i) (32 * s.mbArg))) ∧
    ((s.mbArg = 0 ∨ 8 < s.mbArg ∨ s.legal.bookNo < i + s.mbArg) → ∃ x, exec .legalGetbook s = .next x ∧
      MbAnswers s x 3 [])) ∧
  (∀ (s : State), MbHolds s 5 0 →
    (∀ k, s.legal.key = some k → ∃ x, exec .legalGetkey s = .next x ∧
      MbAnswers s x 0 (keyPoint (unshare k.1) ++ keyId (unshare k.1))) ∧
    (s.legal.key = none → ∃ x, exec .legalGetkey s = .next x ∧ MbAnswers s x 12 [])) ∧
  (∀ (s : State) (new o n delta : Nat), MbHolds s 6 8 → new = leNat (s.mbReq 0 8) → o = s.legal.time / 65536 →
    n = new / 65536 → delta = (n + 2 ^ 32 - o % 2 ^ 32) % 2 ^ 32 →
    (LflFree s → s.legal.sealOn = true → s.legal.bookNo < 4096 → s.legal.audit < 4096 → ∃ x, exec .legalSettime s = .next x ∧
      MbEnds s x 0 [] ∧ Booked (s.modLegal fun l => { l with audit := l.audit + 1 }) x 4 true o n delta ∧
      x.legal = { s.legal with mb := 0, audit := s.legal.audit + 1, bookNo := s.legal.bookNo + 1, ovfNext := false,
                               time := new, timeUnset := false, frac := 0 } ∧
      x = { s with regs := x.regs, legal := x.legal, mem := x.mem, flash := x.flash }) ∧
    (s.legal.sealOn = true → 4096 ≤ s.legal.bookNo → ∃ x, exec .legalSettime s = .next x ∧ MbAnswers s x 8 []) ∧
    (s.legal.sealOn = true → s.legal.bookNo < 4096 → 4096 ≤ s.legal.audit →
      ∃ x, exec .legalSettime s = .next x ∧ MbAnswers s x 7 []) ∧
    (LflFree s → s.legal.sealOn = false → apart new s.legal.time ≤ 30 * 65536 → (∀ q, s.legal.lastSet = some q → q + 86400 ≤ o) →
      s.legal.bookNo < 4032 → ∃ x, exec .legalSettime s = .next x ∧ MbEnds s x 0 [] ∧ Booked s x 4 false o n delta ∧
        x.legal = { s.legal with mb := 0, bookNo := s.legal.bookNo + 1, ovfNext := false, time := new,
                                 timeUnset := false, frac := 0, lastSet := some n }) ∧
    (s.legal.sealOn = false → (30 * 65536 < apart new s.legal.time ∨ ∃ q, s.legal.lastSet = some q ∧ o < q + 86400) →
      ∃ x, exec .legalSettime s = .next x ∧ MbAnswers s x 9 [])) ∧
  (∀ (s : State) (v : Word) (code : Nat), MbHolds s 7 4 → v = wordOf (s.mbReq 0 4) →
    code = (if s.mbArg ∉ paramIds then 3 else (s.auditRefuses true).getD 0) →
    (code ≠ 0 → ∃ x, exec .legalParam s = .next x ∧ MbAnswers s x code []) ∧
    (code = 0 → LflFree s → (∀ q, s.paramGoverning = some q → q.2 = s.legal.pseq) → s.legal.pseq + 1 < 2 ^ 64 →
      ∃ x, exec .legalParam s = .next x ∧ MbEnds s x 0 [] ∧
        (∀ i ∈ paramIds, (i ≠ 0x31 ∨ i = s.mbArg) → x.paramVal i = (s.paramSet s.mbArg v).paramVal i) ∧
        x.legal.pseq = s.legal.pseq + 1 ∧ x.legal.audit = s.legal.audit + 1 ∧
        x.legal.bookNo = s.legal.bookNo + 1 ∧ x.flashBytes (0x103E0000 + 32 * s.legal.bookNo) 32 =
          ({ s.legal with audit := s.legal.audit + 1 } : LegalSt).bookEntry s.islandLc 5 true
            (s.paramVal s.mbArg).toNat v.toNat s.mbArg ∧
        x.legal.mstate = (if s.legal.mstate = 3 then 1 else s.legal.mstate) ∧
        x = { s with regs := x.regs, legal := x.legal, mem := x.mem, flash := x.flash })) ∧
  (∀ (s : State), MbHolds s 8 0 →
    (s.legal.sealOn = false → ∃ x, exec .legalUpdateBegin s = .next x ∧ MbAnswers s x 4 []) ∧
    (s.legal.sealOn = true → LflFree s → ∃ x, exec .legalUpdateBegin s = .next x ∧ MbEnds s x 0 [] ∧
      x.legal = { s.legal with mb := 0, mstate := 4 } ∧
      (∀ y, 0x10380000 ≤ y → y < 0x10390000 → memByte x.ddr x.mem y = 0xFF ∧ x.wsAt y = 3) ∧
      (∀ y, (y < 0x10380000 ∨ 0x10390000 ≤ y) → memByte x.ddr x.mem y = memByte s.ddr s.mem y) ∧
      x = { s with regs := x.regs, legal := x.legal, mem := x.mem, flash := x.flash })) ∧
  (∀ (s : State) (a code : Nat), MbHolds s 9 256 → a = 0x10380000 + 256 * s.mbArg →
    code = (if s.legal.sealOn = false then 4 else if s.legal.mstate ≠ 4 then 5 else if 255 < s.mbArg then 3
      else if s.anyWritten a 256 = true then 10 else 0) →
    (code ≠ 0 → ∃ x, exec .legalUpdateData s = .next x ∧ MbAnswers s x code []) ∧
    (code = 0 → LflFree s → ∃ x, exec .legalUpdateData s = .next x ∧ MbEnds s x 0 [] ∧ FlashPut s x a (s.mbReq 0 256) ∧
      x = { s with regs := x.regs, legal := { s.legal with mb := 0 }, mem := x.mem, flash := x.flash })) ∧
  (∀ (s : State), MbHolds s 0x0A 0 →
    (s.legal.sealOn = false → ∃ x, exec .legalUpdateEnd s = .next x ∧ MbAnswers s x 4 []) ∧
    (s.legal.sealOn = true → s.legal.mstate ≠ 4 → ∃ x, exec .legalUpdateEnd s = .next x ∧ MbAnswers s x 5 []) ∧
    (s.legal.sealOn = true → s.legal.mstate = 4 →
      (∀ h, s.imageHead = some h → s.imageCrc h.2.1 ≠ h.2.2.1) → ∃ x, exec .legalUpdateEnd s = .next x ∧
        MbEnds s x 11 [] ∧ x.legal = { s.legal with mb := 0, mstate := 2 } ∧
        x = { s with regs := x.regs, legal := x.legal }) ∧
    (∀ h, s.legal.sealOn = true → s.legal.mstate = 4 → s.imageHead = some h → s.imageCrc h.2.1 = h.2.2.1 →
      s.legal.bookNo < 4096 → s.legal.audit < 4096 → LflFree s → ∃ x t, exec .legalUpdateEnd s = .next x ∧ MbEnds s t 0 [] ∧
        Booked (s.modLegal fun l => { l with audit := l.audit + 1 }) t 6 true s.legal.swid h.1 h.2.2.1 ∧
        t.legal.audit = s.legal.audit + 1 ∧ IslandWarm t x 4 ∧ x.rg pLEGAL 0x134 = t.rg pLEGAL 0x134)) ∧
  (∀ (s : State) (samples : List Bool) (mask base d : List Byte) (h : Byte → List Byte) (code : Nat), MbHolds s 0x0B 32 →
    base = fitTo 256 (bytesOfBits samples) ++ s.mbReq 0 32 → h = (fun j => sha256.hash (j :: base)) →
    d = beBytes 32 (beNat (h 1 ++ (h 2).take 16) % (p256.n - 1) + 1) →
    code = (match s.auditRefuses (s.islandLc ≤ 1) with
      | some c => c
      | none => if s.legal.key.isSome then 12 else if longRun samples none 0 then 11 else 0) →
    (code ≠ 0 → ∃ x, exec (.legalKeygen samples mask) s = .next x ∧ MbAnswers s x code []) ∧
    (code = 0 → LflFree s → ∃ x k, exec (.legalKeygen samples mask) s = .next x ∧ MbEnds s x 0 (keyPoint d ++ keyId d) ∧
      x.legal.key = some k ∧ unshare k.1 = d ∧ unshare k.2 = h 3 ∧ x.legal.audit = s.legal.audit + 1 ∧
      Booked (s.modLegal fun l => { l with audit := l.audit + 1 }) x 0x0C true 0 0 (leNat ((keyId d).take 4)) ∧
      x = { s with regs := x.regs, legal := x.legal, mem := x.mem, flash := x.flash })) ∧
  (∀ (s : State), MbHolds s 0x0C 0 →
    (s.legal.sealOn = false → ∃ x, exec .legalReset s = .next x ∧ MbAnswers s x 4 []) ∧
    (s.legal.sealOn = true → LflFree s → ∃ x t, exec .legalReset s = .next x ∧ MbAnswers s t 0 [] ∧ IslandWarm t x 3 ∧
      x.rg pLEGAL 0x134 = t.rg pLEGAL 0x134)) ∧
  (∀ (s : State), MbHolds s 0x0D 0 →
    (7 < s.mbArg → ∃ x, exec .legalHarmonics s = .next x ∧ MbAnswers s x 3 []) ∧
    (s.mbArg ≤ 7 → ∃ x, exec .legalHarmonics s = .next x ∧ MbAnswers s x 0
      ((List.range 40).flatMap fun i => leBytes 2 ((s.legal.harm.getD s.mbArg []).getD i 0)))) ∧
  (∀ (s : State), MbHolds s 0x0E 0 →
    (∀ c, s.auditRefuses (s.islandLc == 0) = some c → ∃ x, exec .legalClearbook s = .next x ∧ MbAnswers s x c []) ∧
    (s.auditRefuses (s.islandLc == 0) = none → LflFree s → ∃ x, exec .legalClearbook s = .next x ∧ MbEnds s x 0 [] ∧
      x.flashBytes 0x103E0000 32 = ({ s.legal with audit := s.legal.audit + 1, bookNo := 0 } : LegalSt).bookEntry
        s.islandLc 0x10 true 0 0 s.legal.bookNo ∧
      (∀ y, 0x103E0020 ≤ y → y < 0x10400000 → memByte x.ddr x.mem y = 0xFF) ∧
      (∀ y, (y < 0x103E0000 ∨ 0x10400000 ≤ y) → memByte x.ddr x.mem y = memByte s.ddr s.mem y) ∧
      x.legal = { s.legal with mb := 0, audit := s.legal.audit + 1, bookNo := 1, ovfNext := false } ∧
      x = { s with regs := x.regs, legal := x.legal, mem := x.mem, flash := x.flash })) ∧
  (∀ (s : State) (code : Byte) (rsp : List Byte), s.legal.mb = 2 → 0x80 ≤ s.mbCode →
    ∃ x, exec (.legalAppRequest code rsp) s = .next x ∧ MbAnswers s x code.toNat (rsp.take 256)) ∧
  (∀ (s : State) (lc : Bool), (s.auditRefuses lc = some 4 ↔ s.legal.sealOn = false) ∧
    (s.auditRefuses lc = some 6 ↔ s.legal.sealOn = true ∧ lc = false) ∧
    (s.auditRefuses lc = some 8 ↔ s.legal.sealOn = true ∧ lc = true ∧ 4096 ≤ s.legal.bookNo) ∧
    (s.auditRefuses lc = some 7 ↔ s.legal.sealOn = true ∧ lc = true ∧ s.legal.bookNo < 4096 ∧ 4096 ≤ s.legal.audit))

/-- What the island measures and notes (R335, R338, R348–R354, R360, R361). -/
def Obligations.LegalMeasuring : Prop :=
  (∀ (s : State) (b : AfeBlock),
    (s.legal.dsp = false → exec (.afeBlockEnd b) s = .next s) ∧
    (s.legal.dsp = true → ∃ x, exec (.afeBlockEnd b) s = .next x ∧ x.legal.energy.length = 6 ∧
      (∀ i inc old new, i < 6 → old = s.legal.energy.getD i (0, 0) → new = x.legal.energy.getD i (0, 0) →
        inc = [b.p.toNat, (-b.p).toNat, b.q.toNat, (-b.q).toNat, b.sApp, b.dc.toNat].getD i 0 →
        new.2 < 2 ^ 32 ∧ new.1 * 2 ^ 32 + new.2 = (old.1 * 2 ^ 32 + old.2 + inc) % 2 ^ 96) ∧
      (∀ i, i < 4 → x.rg pAFE (0x240 + 4 * i) = b.urms.getD i 0 ∧ x.rg pAFE (0x250 + 4 * i) = b.irms.getD i 0) ∧
      x.rg pAFE 0x26C = b.freq ∧ x.rg pAFE 0x270 = b.udc ∧ x.rg pAFE 0x274 = b.idc ∧ x.rg pAFE 0x278 = b.temp ∧
      x.rg pAFE 0x27C = b.flags ∧ x.legal.mstate = s.legal.mstate ∧ x.legal.time = s.legal.time ∧
      x = { s with legal := x.legal, regs := x.regs })) ∧
  (∀ (s : State) (c : Nat), c = (s.rg pAFE 0x108).toNat * 2 ^ 32 →
    (0 < c → c ≤ s.legal.pulseAcc → ∃ x, exec .lpulsePulse s = .next x ∧
      x = { s with legal := { s.legal with pulseAcc := s.legal.pulseAcc - c, pulses := s.legal.pulses + 1 } }) ∧
    ((c = 0 ∨ s.legal.pulseAcc < c) → exec .lpulsePulse s = .next s)) ∧
  (∀ (s : State), LflFree s → (∃ x, exec .energySavePeriodic s = .next x ∧ EnergySaved s x 0) ∧
    (∃ x y z, EnergySaved s y 1 ∧ EventBooked y z 1 ((s.legal.energy.getD 0 (0, 0)).1 % 2 ^ 32) 0 0 ∧
      x = z.modLegal (fun l => { l with lvwarn := true }) ∧ exec .lvwarnSave s = .next x)) ∧
  (∀ (s : State),
    ((s.legal.recint = 0 ∨ s.legal.mstate ≠ 1 ∨ 2 < s.islandLc ∨ s.legal.key = none) →
      exec .periodicRecord s = .next s) ∧
    (∀ k, LflFree s → s.legal.recint ≠ 0 → s.legal.mstate = 1 → s.islandLc ≤ 2 → s.legal.key = some k →
      ∃ x bs, exec .periodicRecord s = .next x ∧ RecordMade s x 0 [] (unshare k.1) bs ∧
        x = { s with regs := x.regs, legal := x.legal, mem := x.mem, flash := x.flash })) ∧
  (∀ (s t : State) (a : AgentId), a.toNat = aLCORE → Writes s t a pLRTC 0x110 →
    (t.lcoreRom = true → ∃ x, exec .lrtcSetcmd s = .next x ∧ ok x a ∧
      x.legal = { t.legal with time := (t.rg pLRTC 0x108).toNat + (t.rg pLRTC 0x10C).toNat * 2 ^ 32, timeUnset := false,
                               frac := 0 } ∧ x = { t with legal := x.legal, ports := x.ports }) ∧
    (t.lcoreRom = false → ∃ x, exec .lrtcSetcmd s = .next x ∧ ok x a ∧ bitAt (x.rg pLRTC 0x1C) 3 = true ∧
      regsBut t x [rkey pLRTC 0x1C] ∧ x = { t with regs := x.regs, ports := x.ports })) ∧
  (∀ (s : State) (temp : Int), ∃ x steps, exec (.lrtcCompensation temp) s = .next x ∧
    steps * 10000000 + x.legal.comp = s.legal.comp + (sext (s.rg pLRTC 0x114).toNat 32 + temp) * 65536 ∧
    0 ≤ x.legal.comp ∧ x.legal.comp < 10000000 ∧ x.legal.time = ((s.legal.time : Int) + steps).toNat % 2 ^ 64 ∧
    x = { s with legal := { s.legal with time := x.legal.time, comp := x.legal.comp } }) ∧
  (∀ (s : State), LflFree s → s.legal.mstate ≠ 5 → ∃ x, exec .islandClockFault s = .next x ∧
    EventBooked ((s.modLegal fun l => { l with held := l.mstate, dsp := false, mstate := 5 }).irq pLEGAL 2) x
      0x0A s.legal.mstate 5 0) ∧
  (∀ (s : State), s.legal.mstate = 5 → ∃ x, exec .islandClockResume s = .next x ∧
    x.legal = { s.legal with mstate := s.legal.held, dsp := true } ∧
    (s.legal.held ≠ 5 → bitAt (x.rg pLEGAL 0x20) 2 = true) ∧ regsBut s x [rkey pLEGAL 0x20] ∧
    x = { s with legal := x.legal, regs := x.regs }) ∧
  (∀ (s : State), LflFree s → s.legal.mstate ≠ 6 → ∃ x, exec .afeFault s = .next x ∧
    EventBooked ((s.modLegal fun l => { l with mstate := 6 }).irq pLEGAL 2) x 0x0B s.legal.mstate 6 0) ∧
  (∀ (s : State) (on : Bool) (row : Instr), row = (if on then .legalSealAssert else .legalSealRelease) →
    (s.legal.sealOn = on → exec row s = .next s) ∧
    (s.legal.sealOn ≠ on → LflFree s → ∃ x, exec row s = .next x ∧
      EventBooked ((s.modLegal fun l => { l with sealOn := on, lirq := l.lirq ||| 0x80 }).irq pLEGAL 1) x
        (if on then 7 else 8) 0 0 0)) ∧
  (∀ (s : State), (s.notices = [] → exec .alarmNotice s = .next s) ∧
    (∀ n r, s.notices = n :: r → LflFree s → ∃ x, exec .alarmNotice s = .next x ∧ EventBooked { s with notices := r } x 9 0 0 n)) ∧
  (∀ (s : State), (s.legal.lc = s.islandLc → exec .lcChangeNotice s = .next s) ∧
    (s.legal.lc ≠ s.islandLc → LflFree s → ∃ x y, EventBooked s y 0x0E s.legal.lc s.islandLc 0 ∧
      x = y.modLegal (fun l => { l with lc := s.islandLc }) ∧ exec .lcChangeNotice s = .next x))

/-- The island's resets, start and flash port (R147, R339, R341, R344–R346). -/
def Obligations.LegalIsland : Prop :=
  (∀ (s : State) (cause : Fin 5), LflFree s →
    (∃ x, exec (.islandWarmReset cause) s = .next x ∧ IslandWarm s x cause ∧
      (s.legal.mb = 2 → x.rg pLEGAL 0x134 = wd (14 + at' s.legal.mbAgent 8 + 2 ^ 31)) ∧
      (s.legal.mb ≠ 2 → x.rg pLEGAL 0x134 = s.rg pLEGAL 0x134)) ∧
    (∃ x, exec .islandWatchdogExpiry s = .next x ∧ IslandWarm s x 1) ∧
    ((s.core 10).run = .halted → ∃ x, exec .lcoreHaltTimeout s = .next x ∧ IslandWarm s x 2)) ∧
  (∀ (s : State) (vbat : Bool), ∃ x, exec (.islandColdReset vbat) s = .next x ∧
    x.legal.mstate = 0 ∧ x.legal.mb = 0 ∧ x.legal.dsp = false ∧ x.legal.cold = true ∧
    x.legal.audit = s.legal.audit ∧ x.legal.key = s.legal.key ∧
    (vbat = true → x.legal.time = s.legal.time ∧ x.legal.timeUnset = s.legal.timeUnset) ∧
    (vbat = false → x.legal.time = 0 ∧ x.legal.timeUnset = true) ∧
    (∀ pg off, 0x80 ≤ pg → pg ≤ 0x84 → off < 0x1000 → x.rg pg off = regCold (rkey pg off)) ∧
    (x.core 10).run = .reset ∧ (∀ n, n < 10 → x.core n = s.core n) ∧
    (∀ y, 0x26010000 ≤ y → y < 0x26020000 → memByte x.ddr x.mem y = 0) ∧
    (∀ y, 0x10000000 ≤ y → y < 0x10800000 → memByte x.ddr x.mem y = memByte s.ddr s.mem y)) ∧
  (∀ (s : State), s.legal.mstate = 0 → LflFree s →
    ∃ x, exec .islandStartScan s = .next x ∧ x.legal.dsp = true ∧ x.legal.cold = false ∧
      (0x26000000 ≤ (x.rg pLCORE 0x100).toNat ∧ (x.rg pLCORE 0x100).toNat ≤ 0x26001F80 ∧ x.rg pLCORE 0x10C = 0) ∧
      (s.imageHead = none → x.legal.mstate = 2 ∧ x.legal.swid = 0 ∧ x.legal.csum = 0) ∧
      (∀ h, s.imageHead = some h → x.legal.swid = h.1 ∧ x.legal.csum = s.imageCrc h.2.1 ∧
        (∀ i, i < h.2.1 → memByte x.ddr x.mem (0x26010000 + i) = memByte s.ddr s.mem (0x10380040 + i)) ∧
        (s.imageCrc h.2.1 ≠ h.2.2.1 → x.legal.mstate = 2) ∧
        (s.imageCrc h.2.1 = h.2.2.1 → s.paramGoverning ≠ none → x.legal.mstate = 1) ∧
        (s.imageCrc h.2.1 = h.2.2.1 → s.paramCopy 228 = none → s.paramCopy 229 = none → x.legal.mstate = 3))) ∧
  (∀ (s t : State) (a : AgentId) (vinLow : Bool) (cmd sec : Nat), a.toNat = aLCORE → sec = fld (t.rg pLEGAL 0x204) 14 9 →
    ∀ p ∈ [(1, s.vinReads vinLow, Instr.lflProgram vinLow), (2, s.vinReads vinLow, .lflEraseSector vinLow),
        (5, s, .lflBlankCheck)], cmd = p.1 → Writes p.2.1 t a pLEGAL 0x200 →
      ((224 ≤ sec ∧ sec ≤ 229) ∨ (246 ≤ sec ∧ sec ≤ 255) → t.lcoreRom = false →
        ∃ x, exec p.2.2 s = .next x ∧ ok x a ∧ bitAt (x.rg pLEGAL 0x1C) 3 = true ∧ regsBut t x [rkey pLEGAL 0x1C] ∧
          x = { t with regs := x.regs, ports := x.ports }) ∧
      (sec < 224 ∨ (230 ≤ sec ∧ sec ≤ 245) ∨ 256 ≤ sec ∨ t.lcoreRom = true → t.legal.lfl = none →
        ∃ x, exec p.2.2 s = .next x ∧ ok x a ∧ x.legal = { t.legal with lfl := some cmd } ∧
          x.rg pLEGAL 0x21C = wd (256 * cmd + 2 ^ 30) ∧ x.flash = { t.flash with islandReq := true } ∧
          regsBut t x [rkey pLEGAL 0x21C] ∧
          x = { t with legal := x.legal, flash := x.flash, regs := x.regs, ports := x.ports })) ∧
  (∀ (s : State) (cmd off sec w : Nat), s.legal.lfl = some cmd → LflFree s → off = fld (s.rg pLEGAL 0x204) 0 23 → sec = off / 0x4000 → w = off / 16 →
    ∃ x code count, exec .flashIslandRequest s = .next x ∧
      x.rg pLEGAL 0x21C = wd (code + 256 * cmd + 65536 * count + 2 ^ 31) ∧ regsBut s x [rkey pLEGAL 0x21C] ∧
      x.legal = { s.legal with lfl := none, lirq := s.legal.lirq ||| 0x100 } ∧ x.flash.islandReq = false ∧
      x = { s with legal := x.legal, regs := x.regs, mem := x.mem, flash := x.flash } ∧
      ((code ≠ 0 ∨ cmd = 5) → x.mem = s.mem ∧ x.flash = { s.flash with islandReq := false }) ∧
      (cmd ≠ 1 → cmd ≠ 2 → cmd ≠ 5 → code = 13) ∧
      (cmd = 1 ∨ cmd = 2 ∨ cmd = 5 → (sec < 224 ∨ 255 < sec) → code = 5) ∧
      (224 ≤ sec → sec ≤ 255 →
        (cmd = 1 → code = (if off % 16 ≠ 0 then 4 else if s.pwr.vinLow = true then 7
            else if tget 3 s.flash.ws w ≠ 3 ∨ s.flash.sectState sec = 1 then 1 else 0) ∧
          (code = 0 → FlashPut s x (0x10000000 + off)
            ((List.range 4).flatMap fun i => leBytes 4 (s.rg pLEGAL (0x208 + 4 * i)).toNat))) ∧
        (cmd = 2 → code = (if s.pwr.vinLow = true then 7 else 0) ∧
          (code = 0 → (∀ y, 0x10000000 + sec * 0x4000 ≤ y → y < 0x10000000 + (sec + 1) * 0x4000 →
              memByte x.ddr x.mem y = 0xFF ∧ x.wsAt y = 3) ∧
            (∀ y, (y < 0x10000000 + sec * 0x4000 ∨ 0x10000000 + (sec + 1) * 0x4000 ≤ y) →
              memByte x.ddr x.mem y = memByte s.ddr s.mem y))) ∧
        (cmd = 5 → ((∀ i, i < 1024 → tget 3 s.flash.ws (1024 * sec + i) = 3) → code = 0 ∧ count = 0) ∧
          (∀ i, i < 1024 → tget 3 s.flash.ws (1024 * sec + i) ≠ 3 →
            (∀ j, j < i → tget 3 s.flash.ws (1024 * sec + j) = 3) → code = 10 ∧ count = i))))

/-! ### Host interface -/

/-- The mediator and the instances' life (R369–R373, R380–R383). -/
def Obligations.HostInstances : Prop :=
  (∀ (s t : State) (a : AgentId) (x0 x1 x2 x3 x4 x5 : Word),
    (∀ p ∈ [(1, [x0, x1, x2, x3, x4, x5], Instr.medCreate a x0 x1 x2 x3 x4 x5), (2, [x0], .medRemove a x0),
        (3, [x0], .medReset a x0), (4, [x0], .medQuery a x0)],
      Writes (s.medFill a.toNat p.1 p.2.1) t a pHOST 0x824 → t.host.med ≠ none →
        ∃ x, exec p.2.2 s = .next x ∧ ok x a ∧ bitAt (x.rg pHOST 0x1C) 16 = true ∧ regsBut t x [rkey pHOST 0x1C] ∧
          x = { t with regs := x.regs, ports := x.ports }) ∧
    (t.host.med = none → MedPosts s t a 1 [x0, x1, x2, x3, x4, x5] →
      (t.role ≠ 2 ∨ (∀ n, n < 64 → (t.inst n).st ≠ 0) ∨ fld x4 0 4 = 0 ∨ 8 < fld x4 0 4 →
        ∃ x, exec (.medCreate a x0 x1 x2 x3 x4 x5) s = .next x ∧ ok x a ∧ MedEnds x 1 1 [] ∧ MsixSent t x 0 ∧
          x.host.insts = t.host.insts ∧ x = { t with host := x.host, regs := x.regs, ports := x.ports }) ∧
      (∀ nn, nn < 64 → t.role = 2 → 1 ≤ fld x4 0 4 → fld x4 0 4 ≤ 8 → (t.inst nn).st = 0 →
        (∀ m, m < nn → (t.inst m).st ≠ 0) →
        ∃ x, exec (.medCreate a x0 x1 x2 x3 x4 x5) s = .next x ∧ ok x a ∧
          x.inst nn = { t.inst nn with st := 1, args := [x0, x1, x2, x3, x4, x5] } ∧
          (∀ m, m ≠ nn → x.inst m = t.inst m) ∧ x.host.med = some { cmd := 1, inst := nn } ∧
          x.rg pHOST 0x82C = wd nn ∧ bitAt (x.rg pHOST 0x20) 0 = true ∧
          regsBut t x [rkey pHOST 0x82C, rkey pHOST 0x20] ∧
          x = { t with host := x.host, regs := x.regs, ports := x.ports })) ∧
    (∀ nn, nn = fld x0 0 6 → t.host.med = none →
      (MedPosts s t a 2 [x0] →
        ((t.inst nn).st = 0 → ∃ x, exec (.medRemove a x0) s = .next x ∧ ok x a ∧ MedEnds x 2 3 [] ∧ MsixSent t x 0) ∧
        ((t.inst nn).st = 1 ∨ (t.inst nn).st = 2 →
          Tears { t with host := { t.host with med := some { cmd := 2, inst := nn } } } nn 4 → ∃ x, exec (.medRemove a x0) s = .next x ∧ ok x a ∧
          x.host.med = some { cmd := 2, inst := nn } ∧ TornDown x nn 4) ∧
        ((t.inst nn).st = 3 ∨ (t.inst nn).st = 4 → ∃ x, exec (.medRemove a x0) s = .next x ∧ ok x a ∧
          x.host.med = some { cmd := 2, inst := nn } ∧ x.inst nn = { t.inst nn with st := 4 } ∧
          (∀ m, m ≠ nn → x.inst m = t.inst m) ∧ x = { t with host := x.host, ports := x.ports })) ∧
      (MedPosts s t a 3 [x0] →
        ((t.inst nn).st ≠ 2 → (t.inst nn).st ≠ 3 → ∃ x, exec (.medReset a x0) s = .next x ∧ ok x a ∧
          MedEnds x 3 3 [] ∧ MsixSent t x 0 ∧ x.host.insts = t.host.insts) ∧
        ((t.inst nn).st = 2 → Tears { t with host := { t.host with med := some { cmd := 3, inst := nn } } } nn 3 →
          ∃ x, exec (.medReset a x0) s = .next x ∧ ok x a ∧
          x.host.med = some { cmd := 3, inst := nn } ∧ TornDown x nn 3) ∧
        ((t.inst nn).st = 3 → ∃ x, exec (.medReset a x0) s = .next x ∧ ok x a ∧
          x = { t with host := { t.host with med := some { cmd := 3, inst := nn } }, ports := x.ports })) ∧
      (MedPosts s t a 4 [x0] → ∃ x, exec (.medQuery a x0) s = .next x ∧ ok x a ∧
        MedEnds x 4 0 (wd (t.inst nn).st :: (t.inst nn).args.drop 1) ∧ MsixSent t x 0 ∧
        x = { t with host := x.host, regs := x.regs, ports := x.ports })) ∧
    (∀ nn v, nn = fld v 8 6 → Writes s t a pHOST 0x10C → classOf a.toNat = .sys ∨ classOf a.toNat = .keyd →
      t.twinRepl = false →
      ((t.inst nn).st ≠ 1 → ∃ x, exec (.hostFwAnswer a v) s = .next x ∧ ok x a ∧ bitAt (x.rg pHOST 0x1C) 17 = true ∧
        regsBut t x [rkey pHOST 0x1C] ∧ x = { t with regs := x.regs, ports := x.ports }) ∧
      ((t.inst nn).st = 1 → fld v 0 2 = 0 → t.createOk nn = true → ∃ x, exec (.hostFwAnswer a v) s = .next x ∧
        ok x a ∧ x.inst nn = { t.inst nn with st := 2 } ∧ (∀ m, m ≠ nn → x.inst m = t.inst m) ∧
        MedEnds x 1 0 [wd nn] ∧ MsixSent t x 0 ∧ x = { t with host := x.host, regs := x.regs, ports := x.ports }) ∧
      (∀ m, (t.inst nn).st = 1 → (fld v 0 2 ≠ 0 ∨ t.createOk nn = false) → t.host.med = some m →
        Tears { t with host := { t.host with med := some { m with code := if fld v 0 2 = 1 then 1 else 2 } } } nn 4 →
        ∃ x, exec (.hostFwAnswer a v) s = .next x ∧ ok x a ∧ TornDown x nn 4 ∧
          x.host.med = some { m with code := if fld v 0 2 = 1 then 1 else 2 })) ∧
    (∀ (n : Fin 64), Writes s t a (pINST n) 0x10 → t.twinRepl = false →
      (classOf a.toNat = .sys ∨ classOf a.toNat = .keyd → (t.inst n).st = 2 → Tears t n 3 →
        ∃ x, exec (.instSrst a n) s = .next x ∧ ok x a ∧ TornDown x n 3) ∧
      (instOf a.toNat = none → ((classOf a.toNat ≠ .sys ∧ classOf a.toNat ≠ .keyd) ∨ (t.inst n).st ≠ 2) →
        ∃ x, exec (.instSrst a n) s = .next x ∧ ok x a ∧ x = { t with ports := x.ports }))) ∧
  (∀ (s : State) (m : MedRun), s.twinRepl = false → s.changes = [] → s.host.med = some m → m.cmd = 1 →
    (s.inst m.inst).st = 1 → Tears { s with host := { s.host with med := some { m with code := 4 } } } m.inst 4 →
    ∃ x, exec .createTimeout s = .next x ∧ TornDown x m.inst 4 ∧
      x.host.med = some { m with code := 4 }) ∧
  (∀ (s : State) (n : Fin 64) (got : List (List Byte)), s.changes = [] → ((s.inst n).st = 3 ∨ (s.inst n).st = 4) →
    (s.inst n).limit = false → (∀ d ∈ s.host.queue, d.inst ≠ n.val) → (s.drainLimit n got).held = s.held →
    ∃ x, exec (.teardownDrainLimit n got) s = .next x ∧ (x.inst n).limit = true ∧ (x.inst n).st = (s.inst n).st ∧
      (∀ d ∈ x.host.running, d.inst = n.val → d.squashed = true)) ∧
  (∀ (s : State) (n : Fin 64) (st : Nat), s.twinRepl = false → s.changes = [] → (s.inst n).st = st →
    (st = 3 ∨ st = 4) → (s.inst n).drained = true → ((s.instBins n).inst n).binsDone = true →
    ((s.instBins n).instResetDone n).held = s.held →
    (s.inflight n = 0 → ((s.instBins n).keyScrub).slotsGone (s.inst n).slots = true → ∃ x, exec (.instanceResetDone n) s = .next x ∧
      (x.inst n).st = (if st = 4 then 0 else 2) ∧ bitAt (x.rg (pINST n) 0x20) 1 = true ∧
      (∀ q, q < 8 → x.rg (pINST n) (0x200 + 8 * q) = 0 ∧ x.rg (pINST n) (0x204 + 8 * q) = 0 ∧
        x.rg (pINST n) (0x314 + 0x20 * q) = 0 ∧ x.rg (pINST n) (0x318 + 0x20 * q) = 0 ∧
        x.rg (pINST n) (0x31C + 0x20 * q) = 0) ∧
      (st = 4 → x.rg (pINST n) 0x100 = 0 ∧ x.rg (pINST n) 0x104 = 0 ∧ ∀ i, i < 8 → x.rg pHOST (0x82C + 4 * i) = 0) ∧
      (st = 3 → x.rg (pINST n) 0x100 = s.rg (pINST n) 0x100 ∧ x.rg (pINST n) 0x104 = s.rg (pINST n) 0x104) ∧
      (∀ m, s.host.med = some m → m.inst = n.val → s.host.flr = false →
        MedEnds x m.cmd (if m.cmd = 3 then (if st = 4 then 3 else 0) else if m.cmd = 1 then m.code else 0) [])) ∧
    (s.inflight n ≠ 0 → ∃ x, exec (.instanceResetDone n) s = .next x ∧ (x.inst n).st = st ∧
      (x.inst n).binsDone = true)) ∧
  (∀ (s : State), s.twinRepl = false → s.changes = [] → s.flr.held = s.held →
    ∃ x, exec .pcieFlr s = .next x ∧ (∀ n, n < 64 → (x.inst n).st = if (s.inst n).st = 0 then 0 else 4) ∧
      ((∃ n, n < 64 ∧ (s.inst n).st ≠ 0) → x.host.flr = true))

/-- Queues, DMA, BARs and the link (R365–R368, R374–R379, R383). -/
def Obligations.HostQueues : Prop :=
  (∀ (s t : State) (a : AgentId) (n : Fin 64) (q : Fin 8) (v w : Word) (tail : Bool) (off : Nat), w = v &&& 0xFFF →
    off = 0x200 + 8 * q.val + (if tail then 0 else 4) → Writes s t a (pINST n) off →
    ((t.inst n).st = 3 ∨ (t.inst n).st = 4 →
      ∃ x, exec (if tail then .sqDoorbell a n q v else .cqDoorbell a n q v) s = .next x ∧ ok x a ∧
        x.rg (pINST n) 0x114 = (if t.rg (pINST n) 0x114 = 0xFFFFFFFF then 0xFFFFFFFF else t.rg (pINST n) 0x114 + 1) ∧
        regsBut t x [rkey (pINST n) 0x114] ∧ x = { t with regs := x.regs, ports := x.ports }) ∧
    ((t.inst n).st ≠ 3 → (t.inst n).st ≠ 4 →
      ∃ x, exec (if tail then .sqDoorbell a n q v else .cqDoorbell a n q v) s = .next x ∧ ok x a ∧
        (2 ^ fld (t.rg (pINST n) (0x310 + 0x20 * q.val)) (if tail then 0 else 8) 4 ≤ w.toNat →
          bitAt (x.rg (pINST n) 0x1C) 16 = true ∧ regsBut t x [rkey (pINST n) 0x1C]) ∧
        (w.toNat < 2 ^ fld (t.rg (pINST n) (0x310 + 0x20 * q.val)) (if tail then 0 else 8) 4 →
          x.rg (pINST n) off = w ∧ regsBut t x [rkey (pINST n) off]) ∧
        x = { t with regs := x.regs, ports := x.ports })) ∧
  (∀ (s : State) (data : Option (List Byte)), s.changes = [] →
    (s.twin.handover = true ∨ s.tamp.halted = true ∨ s.host.link = none ∨ s.sqNext = none → exec (.hostSqFetch data) s = .next s) ∧
    (∀ k l, s.twin.handover = false → s.tamp.halted = false → s.host.link = some l → s.sqNext = some k →
      (∃ x, exec (.hostSqFetch none) s = .next x ∧ k % 8 ∈ (x.inst (k / 8)).stopped ∧
        bitAt (x.rg (pINST (k / 8)) 0x1C) 17 = true ∧ regsBut s x [rkey (pINST (k / 8)) 0x1C] ∧
        x = { s with host := x.host, regs := x.regs }) ∧
      (∀ bs u c o, o = 0x314 + 0x20 * (k % 8) → u = (s.modHost fun h => { h with next := (k + 1) % 512 }).sqStore
          (k / 8) (k % 8) ((List.range (s.sqWork (k / 8) (k % 8))).map fun i => (bs.drop (64 * i)).take 64) 0 →
        c = s.sqWork (k / 8) (k % 8) → u.2 = c → Went s u.1 → ∃ x, exec (.hostSqFetch (some bs)) s = .next x ∧
          x.rg (pINST (k / 8)) o = wd (((u.1.rg (pINST (k / 8)) o).toNat + c) %
            2 ^ fld (s.rg (pINST (k / 8)) (0x310 + 0x20 * (k % 8))) 0 4) ∧
          bitAt (x.rg (pINST (k / 8)) 0x20) 0 = true ∧ x = { u.1 with regs := x.regs } ∧
          regsBut u.1 x [rkey (pINST (k / 8)) o, rkey (pINST (k / 8)) 0x20]))) ∧
  (∀ (s t : State) (a : AgentId) (n : Fin 64) (v : Word) (q pg size tail code : Nat), pg = pINST n → q = fld v 0 3 →
    Writes s t a pg 0x410 → (classOf a.toNat = .sys ∨ classOf a.toNat = .keyd) →
    size = 2 ^ fld (t.rg pg (0x310 + 0x20 * q)) 8 4 → tail = fld (t.rg pg (0x318 + 0x20 * q)) 0 12 →
    code = (if (t.inst n).st ≠ 2 then 2 else if t.host.link = none then 3 else if fld (t.rg pg 0x100) 0 4 ≤ q then 4
      else if (tail + 1) % size = (t.rg pg (0x204 + 8 * q)).toNat % size then 1 else 0) →
    ∃ x, exec (.cplPost a n v) s = .next x ∧ ok x a ∧ x.arg a.toNat pg 0x414 = wd (code + 2 ^ 31) ∧
      (code ≠ 0 → x = { t with aregs := x.aregs, ports := x.ports }) ∧
      (code = 0 → ∃ y e, e.length = 16 ∧ e.take 8 = leBytes 4 (t.arg a.toNat pg 0x400).toNat ++
          leBytes 4 (t.arg a.toNat pg 0x404).toNat ∧ leAt e 8 2 = (t.rg pg (0x314 + 0x20 * q)).toNat % 65536 ∧
        leAt e 10 2 = q ∧ leAt e 12 2 = fld (t.arg a.toNat pg 0x408) 0 16 ∧
        leAt e 14 2 / 2 = fld (t.arg a.toNat pg 0x40C) 1 15 ∧
        leAt e 14 2 % 2 = (if bitAt (t.rg pg (0x318 + 0x20 * q)) 16 then 0 else 1) ∧
        y = t.hostPost (some (t.instPasid n)) ((t.rg pg (0x308 + 0x20 * q)).toNat +
          (t.rg pg (0x30C + 0x20 * q)).toNat * 2 ^ 32 + 16 * tail) e ∧
        fld (x.rg pg (0x318 + 0x20 * q)) 0 12 = (tail + 1) % size % 4096 ∧
        bitAt (x.rg pg (0x318 + 0x20 * q)) 16 =
          xor (bitAt (t.rg pg (0x318 + 0x20 * q)) 16) (tail + 1 == size) ∧
        (bitAt (t.rg pg (0x310 + 0x20 * q)) 18 = true →
          MsixSent y x (16 + 4 * n.val + fld (t.rg pg (0x310 + 0x20 * q)) 16 2)) ∧
        (bitAt (t.rg pg (0x310 + 0x20 * q)) 18 = false → x.host = y.host) ∧
        regsBut t x [rkey pg (0x318 + 0x20 * q)] ∧
        x = { t with host := x.host, regs := x.regs, aregs := x.aregs, ports := x.ports })) ∧
  (∀ (s t : State) (a : AgentId) (v : Word) (code : Nat) (y : State) (m : MemAns) (d : DmaRun), Writes s t a pHOST 0x114 →
    code = (if fld v 0 5 ≠ 0 then 2 else if t.en pHOST = false then 3 else if 256 ≤ t.host.queue.length then 1 else 0) →
    y = t.setArg a.toNat pHOST 0x118 (wd (code + 2 ^ 31)) →
    d.addr = v.toNat + fld (t.arg a.toNat pHOST 0x110) 0 8 * 2 ^ 32 → d.agent = a.toNat → d.squashed = false →
    m = y.engRead a.toNat d.addr 32 → d.desc = m.data →
    (code ≠ 0 → exec (.hostDmaSubmit a v) s = .next (answered y a)) ∧
    (code = 0 → t.tamp.halted = false → m.fault ≠ .none → Went t m.st → exec (.hostDmaSubmit a v) s = .next (answered m.st a)) ∧
    (code = 0 → t.tamp.halted = false → m.fault = .none → m.st.tamp.halted = false → ∀ c, c = (if d.bad then 1
        else if d.inst < 64 ∧ classOf a.toNat ≠ .sys ∧ classOf a.toNat ≠ .keyd then 9
        else if d.inst < 64 ∧ (m.st.inst d.inst).st ≠ 2 then 2 else 0) →
      (c ≠ 0 → Went t (m.st.dmaResult d c 0) →
        exec (.hostDmaSubmit a v) s = .next (answered (m.st.dmaResult d c 0) a)) ∧
      (c = 0 → Went t m.st → m.st.host.queue = [] → m.st.host.link ≠ none → m.st.host.running.length < 16 →
        (d.order = true → ∀ r ∈ m.st.host.running, r.inst ≠ d.inst) → exec (.hostDmaSubmit a v) s =
          .next (answered (m.st.modHost fun h => { h with running := h.running ++ [d] }) a)) ∧
      (c = 0 → Went t m.st →
        16 ≤ (m.st.host.running.filter fun r => !r.squashed).length → exec (.hostDmaSubmit a v) s =
          .next (answered (m.st.modHost fun h => { h with queue := h.queue ++ [d] }) a)))) ∧
  (∀ (s y : State) (k : Fin 16) (d : DmaRun) (data bs : List Byte) (okay : Bool) (m : MemAns) (code : Nat),
    s.tamp.halted = false → s.host.running[k.val]? = some d → s.host.queue = [] →
    y = s.modHost (fun h => { h with running := h.running.eraseIdx k.val }) →
    (d.squashed = true → s.changes = [] → exec (.hostDmaComplete k data okay) s = .next y ∧
      (d.reads = true → exec (.hostCplTimeout k data) s = .next y)) ∧
    (d.squashed = false → d.reads = true → bs = (if okay then fitTo d.len data else data.take d.len) →
      m = y.engWrite d.side (leAt d.desc 16 5) bs →
      code = (if m.fault = .none then (if okay then 0 else 5) else if m.fault = .data ∨ m.fault = .parity then 4 else 3) →
      Went s (m.st.dmaResult d code (bs.length - m.data.length)) →
      exec (.hostDmaComplete k data okay) s = .next (m.st.dmaResult d code (bs.length - m.data.length))) ∧
    (d.squashed = false → d.reads = false → m = y.engRead d.side (leAt d.desc 16 5) d.len → m.fault = .none →
      bs = m.data → ∀ z, z = m.st.hostPost (if d.inst < 64 then some (m.st.instPasid d.inst) else none)
        (leAt d.desc 8 8) bs → Went s (z.dmaResult d 0 d.len) →
      exec (.hostDmaComplete k data okay) s = .next (z.dmaResult d 0 d.len)) ∧
    (d.squashed = false → d.reads = true → Went s (y.dmaResult d 6 0) →
      exec (.hostCplTimeout k []) s = .next (y.dmaResult d 6 0))) ∧
  (∀ (s : State) (d : DmaRun) (code moved : Nat) (m r : MemAns),
    m = s.engWrite d.agent (d.addr + 28) (leBytes 4 moved) →
    r = m.st.engWrite d.agent (d.addr + 24) (leBytes 4 (code + 2 ^ 31)) →
    s.dmaResult d code moved = if d.irq then r.st.irq pHOST 1 else r.st) ∧
  (∀ (s : State) (bar : Fin 6) (off : BitVec 18) (write : Bool) (v : Word),
    (s.host.link = none ∨ s.tamp.halted = true → exec (.hostBarAccess bar off write v) s = .next s) ∧
    (∀ l, s.tamp.halted = false → s.host.link = some l → off.toNat % 4 = 0 →
      (bar = 0 → 0x400 ≤ off.toNat → off.toNat < 0x1000 → ∃ x, exec (.hostBarAccess bar off write v) s = .next x ∧
        (x.port 0x80).data = 0 ∧ (x.port 0x80).fault = .none ∧ x = { s with ports := x.ports }) ∧
      (∀ a pg o r, ((bar = 0 ∧ off.toNat < 0x400 ∧ a = 0x80 ∧ pg = pHOST ∧ o = 0x800 + off.toNat) ∨
          (bar = 2 ∧ off.toNat < 0x40000 ∧ a = 0x40 + off.toNat / 0x1000 ∧ pg = 0x100 + off.toNat / 0x1000 ∧
            o = off.toNat % 0x1000)) →
        r = s.access a (pageBase pg + o) 4 (if write then .write else .read) (leBytes 4 v.toNat) 0 .none →
        r.ans.st.held = s.held →
        (∀ id, r.flight = some id → exec (.hostBarAccess bar off write v) s = .next r.ans.st) ∧
        (r.flight = none → ∃ x, exec (.hostBarAccess bar off write v) s = .next x ∧ (x.port a).fault = r.ans.fault ∧
          (write = false → (x.port a).data = leNat r.ans.data) ∧
          (r.ans.fault = .gate → x.rg pHOST 0x124 =
            if r.ans.st.rg pHOST 0x124 = 0xFFFFFFFF then 0xFFFFFFFF else r.ans.st.rg pHOST 0x124 + 1) ∧
          x = { r.ans.st with regs := x.regs, ports := x.ports } ∧ regsBut r.ans.st x [rkey pHOST 0x124] ∧
          (r.ans.fault ≠ .gate → x.regs = r.ans.st.regs))) ∧
      (bar = 4 → write = false → off.toNat < 0x1100 → ∃ x, exec (.hostBarAccess bar off write v) s = .next x ∧
        (x.port 0x80).data = (tget (if off.toNat / 4 % 4 = 3 then 1 else 0) s.host.msix (off.toNat / 4)).toNat ∧
        x = { s with ports := x.ports }) ∧
      (bar = 4 → write = true → off.toNat < 0x1100 → off.toNat / 4 % 4 ≠ 3 →
        ∃ x, exec (.hostBarAccess bar off write v) s = .next x ∧
          (∀ k, tget 0 x.host.msix k = if k = off.toNat / 4 then (if k % 4 = 0 then v &&& 0xFFFFFFFC else v)
            else tget 0 s.host.msix k) ∧ x = { s with host := x.host, ports := x.ports }))) ∧
  (∀ (s : State) (got : List (List Byte)),
    (s.host.link = none → s.changes = [] → exec (.pcieLinkDown got) s = .next s) ∧
    (∀ l, s.host.link = some l → s.host.running = [] → s.changes = [] → ∃ x, exec (.pcieLinkDown got) s = .next x ∧
      x.host = { s.host with link := none } ∧ bitAt (x.rg pHOST 0x20) 2 = true ∧ regsBut s x [rkey pHOST 0x20] ∧
      x = { s with host := x.host, regs := x.regs }) ∧
    (∀ l d t, s.host.link = some l → s.host.running = [d] → d.squashed = false →
      t = (s.modHost fun h => { h with link := none, running := [] }).dmaResult d 7 0 → Went s t →
      exec (.pcieLinkDown []) s = .next (t.irq pHOST 2))) ∧
  (∀ (s : State) (speed width : Fin 5), s.pdOn 36 = true → ∃ x, exec (.pcieLinkUp speed width) s = .next x ∧
    x.host = { s.host with link := some (speed.val, width.val) } ∧ bitAt (x.rg pHOST 0x20) 2 = true ∧
    regsBut s x [rkey pHOST 0x20] ∧ x = { s with host := x.host, regs := x.regs })

/-! ### Stream port -/

/-- The stream port (R386–R396). -/
def Obligations.StreamPort : Prop :=
  (∀ (s : State), s.changes = [] →
    (s.en pSTRM = true → s.strm.up = false → s.pdOn 37 = true → ∃ x, exec .strmLinkUp s = .next x ∧ x.strm.up = true ∧
      x.strm.credits = 0 ∧ x.strm.owed = 0 ∧ x.strm.granted = 256 ∧
      x.strm.out = s.strm.out ++ [mkFrame 2 0 0 0 0 256 []] ∧ bitAt (x.rg pSTRM 0x20) 0 = true ∧
      regsBut s x [rkey pSTRM 0x20] ∧ x = { s with strm := x.strm, regs := x.regs }) ∧
    (s.strm.up = true → s.strm.removing = [] → ∃ x, exec .strmAlignmentLoss s = .next x ∧
      x.strm = { s.strm with up := false, credits := 0, owed := 0, granted := 0, frames := [], errs := [], stall := false } ∧
      bitAt (x.rg pSTRM 0x1C) 18 = true ∧ bitAt (x.rg pSTRM 0x20) 0 = true ∧
      ((∀ u, (s.unit u).wants = [] ∧ ∀ g ∈ (s.unit u).segs, g.own = none) → x.units = s.units) ∧
      regsBut s x [rkey pSTRM 0x1C, rkey pSTRM 0x20] ∧ x = { s with strm := x.strm, regs := x.regs, units := x.units })) ∧
  (∀ (s t : State) (a : AgentId) (n : Nat) (c0 c1 : Word) (f : StrmFlow), Writes s t a pSTRM 0x114 →
    n = fld (t.arg a.toNat pSTRM 0x108) 0 12 → c0 = t.arg a.toNat pSTRM 0x10C → c1 = t.arg a.toNat pSTRM 0x110 →
    f = StrmFlow.mk (fld c0 0 2) (fld c0 4 1) (fld c0 8 7) (fld c0 16 10) (fld c1 0 16) (fld c1 16 12) a.toNat 0 →
    (t.strm.adds.any (fun x => x.agent == a.toNat) = true ∨ t.strm.removing.any (fun e => e.1 == a.toNat) = true →
      ∀ row ∈ [Instr.strmFlowAdd a, .strmFlowRemove a, .strmFlowRead a], ∃ x, exec row s = .next x ∧ ok x a ∧
        bitAt (x.rg pSTRM 0x1C) 16 = true ∧ regsBut t x [rkey pSTRM 0x1C] ∧
        x = { t with regs := x.regs, ports := x.ports }) ∧
    (t.strm.adds.any (fun x => x.agent == a.toNat) = false → t.strm.removing.any (fun e => e.1 == a.toNat) = false →
      (classOf a.toNat ≠ .sys → classOf a.toNat ≠ .keyd →
        ∀ row ∈ [Instr.strmFlowAdd a, .strmFlowRemove a, .strmFlowRead a],
          exec row s = .next (answered (t.flowDone a.toNat 5) a)) ∧
      (classOf a.toNat = .sys ∨ classOf a.toNat = .keyd →
        (∀ code, code = (if tfind t.strm.flows n ≠ none then 1 else if f.mode = 0 ∨ f.mode = 3 ∨ fld c0 2 2 ≠ 0 ∨
              fld c0 5 3 ≠ 0 ∨ fld c0 15 1 ≠ 0 ∨ fld c0 26 6 ≠ 0 ∨ fld c1 28 4 ≠ 0 then 6
            else if (t.binRec f.bin).st = .free ∨ (t.binRec f.bin).st = .lost ∨ (t.binRec f.bin).inst ≠ f.inst then 3
            else if f.inst < 64 ∧ fld (t.rg pSTRM (0x200 + 4 * f.inst)) 0 13 ≤ t.strm.used f.inst then 4 else 0) →
          (code ≠ 0 → exec (.strmFlowAdd a) s = .next (answered (t.flowDone a.toNat code) a)) ∧
          (code = 0 → (t.binRec f.bin).st = .hot → (t.binRec f.bin).pins < 255 → t.pinWaits f.bin f.inst = false →
            t.twinRepl = false → ∃ x, exec (.strmFlowAdd a) s = .next x ∧ ok x a ∧
              x.arg a.toNat pSTRM 0x118 = wd (2 ^ 31) ∧ tfind x.strm.flows n = some f ∧
              (∀ m, m ≠ n → tfind x.strm.flows m = tfind t.strm.flows m) ∧
              (x.binRec f.bin).pins = (t.binRec f.bin).pins + 1 ∧ (x.binRec f.bin).flags.testBit 4 = true ∧
              bitAt (x.rg pSTRM 0x20) 3 = true)) ∧
        (tfind t.strm.flows n = none → ∀ row ∈ [Instr.strmFlowRemove a, .strmFlowRead a],
          exec row s = .next (answered (t.flowDone a.toNat 2) a)) ∧
        (∀ g, tfind t.strm.flows n = some g →
          (t.twinRepl = false → t.strm.frames = [] → t.strm.removing = [] → (t.binRec g.bin).st ≠ .free →
            ∃ x, exec (.strmFlowRemove a) s = .next x ∧ ok x a ∧ x.strm = { t.strm with flows := tdel t.strm.flows n } ∧
              (x.binRec g.bin).pins = (t.binRec g.bin).pins - 1 ∧ x.arg a.toNat pSTRM 0x118 = wd (2 ^ 31)) ∧
          (∃ x, exec (.strmFlowRead a) s = .next x ∧ ok x a ∧
            x.arg a.toNat pSTRM 0x10C = wd (g.mode + at' g.unit 4 + at' g.inst 8 + at' g.key 16) ∧
            x.arg a.toNat pSTRM 0x110 = wd (g.bin + at' g.rflow 16) ∧ x.arg a.toNat pSTRM 0x118 = wd (2 ^ 31) ∧
            x = { t with aregs := x.aregs, regs := x.regs, ports := x.ports }))))) ∧
  (∀ (s : State) (p : FlowAdd), s.changes = [] → s.twinRepl = false →
    (s.strm.adds.find? (fun x => s.flowPinReady (flowOf x.agent x.cfg0 x.cfg1)) = none →
      exec .strmFlowPinGranted s = .next s) ∧
    (s.strm.adds = [p] → s.flowPinReady (flowOf p.agent p.cfg0 p.cfg1) = true →
      s.flowRefuses p.flow p.cfg0 p.cfg1 = none → s.bin.waits = [] → ∃ x, exec .strmFlowPinGranted s = .next x ∧
        tfind x.strm.flows p.flow = some (flowOf p.agent p.cfg0 p.cfg1) ∧ x.strm.adds = [] ∧
        x.arg p.agent pSTRM 0x118 = wd (2 ^ 31))) ∧
  (∀ (s : State) (b : List Byte) (len : Nat), s.changes = [] → s.strm.up = true → len = (b.length + 255) / 256 →
    (s.strm.granted < len → ∃ x, exec (.strmDataFrame b) s = .next x ∧ bitAt (x.rg pSTRM 0x1C) 17 = true ∧
      x.rg pSTRM 0x140 ≠ 0 ∧ regsBut s x [rkey pSTRM 0x1C, rkey pSTRM 0x140] ∧ x = { s with regs := x.regs }) ∧
    (len ≤ s.strm.granted → s.strm.frames = [] →
      (leAt b 28 4 ≠ crc32 (b.take 28) → ∃ x, exec (.strmDataFrame b) s = .next x ∧ x.rg pSTRM 0x12C ≠ 0 ∧
        x.strm = { s.strm with granted := s.strm.granted - len, owed := s.strm.owed + len } ∧
        regsBut s x [rkey pSTRM 0x12C] ∧ x = { s with strm := x.strm, regs := x.regs }) ∧
      (leAt b 28 4 = crc32 (b.take 28) → tfind s.strm.flows (leAt b 2 2) = none →
        ∃ x, exec (.strmDataFrame b) s = .next x ∧ x.rg pSTRM 0x128 ≠ 0 ∧
          x.strm = { s.strm with granted := s.strm.granted - len, owed := s.strm.owed + len } ∧
          regsBut s x [rkey pSTRM 0x128] ∧ x = { s with strm := x.strm, regs := x.regs }) ∧
      (∀ f plen need, leAt b 28 4 = crc32 (b.take 28) → tfind s.strm.flows (leAt b 2 2) = some f → plen = leAt b 16 2 →
        need = (max 64 ((if f.mode = 1 then plen + 16 else plen - 16) + 36) + 255) / 256 →
        (∀ code, frameRefuses f b = some code → s.strm.errs = [] → 0 < s.strm.credits + leAt b 18 2 →
          ∃ x o, exec (.strmDataFrame b) s = .next x ∧
            x.strm.out = s.strm.out ++ [mkFrame 3 code (leAt b 2 2 % 4096) (leAt b 6 2) (leAt b 8 8) o []] ∧
            x.strm.frames = [] ∧ x.rg pSTRM 0x13C ≠ 0 ∧ bitAt (x.rg pSTRM 0x20) 2 = true) ∧
        (frameRefuses f b = none → s.strm.credits + leAt b 18 2 < need → ∃ x, exec (.strmDataFrame b) s = .next x ∧
          x.strm = { s.strm with granted := s.strm.granted - len, credits := s.strm.credits + leAt b 18 2,
                                 frames := [{ bytes := b, stage := 1, flow := some f }] }) ∧
        (frameRefuses f b = none → f.mode = 1 → need ≤ s.strm.credits + leAt b 18 2 → s.twinRepl = false →
          s.binCounter f.bin 0 ≠ 2 ^ 64 - 1 → 40 ≤ (s.binRec f.bin).vis.length → ∃ x,
            exec (.strmDataFrame b) s = .next x ∧ x.binCounter f.bin 0 = s.binCounter f.bin 0 + 1 ∧
            x.strm.credits = s.strm.credits + leAt b 18 2 - need ∧ x.strm.out = s.strm.out ∧
            x.strm.frames = [{ bytes := b, stage := 2, flow := some f, need := need,
                               seq := s.binCounter f.bin 0 + 1 }])))) ∧
  (∀ (s : State) (x : StrmFrame) (f : StrmFlow) (n : Fin 4096) (fault : Bool), s.tamp.halted = false → s.changes = [] →
    s.twinRepl = false → s.strm.frames = [x] → x.stage = 2 → x.flow = some f → leAt x.bytes 2 2 = n.val → s.strm.removing = [] →
    s.strm.errs = [] → x.seq < 2 ^ 64 →
    (∀ code, code = (if x.bytes.length ≠ leAt x.bytes 4 2 then 1
        else if leAt x.bytes (leAt x.bytes 4 2 - 4) 4 ≠ crc32 (x.bytes.take (leAt x.bytes 4 2 - 4)) then 8
        else if s.strmKey f ≠ .ok then 6 else if (s.binRec f.bin).st = .lost then 10 else 0) →
      (code ≠ 0 → 0 < s.strm.credits → ∃ y o, exec (.strmFrameEnd n fault) s = .next y ∧
        y.strm.out = s.strm.out ++ [mkFrame 3 code (leAt x.bytes 2 2 % 4096) (leAt x.bytes 6 2) x.seq o []] ∧
        y.strm.frames = [] ∧ y.rg pSTRM 0x13C ≠ 0) ∧
      (code = 0 → fault = true → f.unit < 2 → OwnRuns s (.flow n) (2 + f.unit) 13 0 → 0 < s.strm.credits →
        s.tamp.vin = true → s.respOf 23 < 4 → (s.clearDraw (2 + f.unit)).2 = true →
        ∃ y o, exec (.strmFrameEnd n fault) s = .next y ∧
          y.strm.out = s.strm.out ++ [mkFrame 3 9 (leAt x.bytes 2 2 % 4096) (leAt x.bytes 6 2) x.seq o []] ∧
          y.strm.frames = [] ∧ y.rg pSTRM 0x13C ≠ 0 ∧ bitAt (y.rg (pPRESS (2 + f.unit)) 0x1C) 16 = true ∧
          bitAt (y.rg pBKP 0x100) 23 = true) ∧
      (code = 0 → fault = false → f.unit < 2 → OwnRuns s (.flow n) (2 + f.unit) 13 0 → f.mode = 1 →
        ∃ y o c, exec (.strmFrameEnd n fault) s = .next y ∧
        c = gcmSeal (s.slotMat f.key) (((s.binRec f.bin).vis.drop 64).take 4 ++ leBytes 8 x.seq)
          (leBytes 8 x.seq ++ leBytes 4 (leAt x.bytes 16 2)) ((x.bytes.drop 32).take (leAt x.bytes 16 2)) ∧
        y.strm.out = s.strm.out ++ [mkFrame 1 0x81 f.rflow f.bin x.seq o (c.1 ++ c.2)] ∧ y.strm.frames = [] ∧
        y.rg pSTRM 0x148 ≠ 0))) ∧
  (∀ (s : State) (b : List Byte), s.changes = [] → s.strm.up = true →
    (leAt b 28 4 ≠ crc32 (b.take 28) → ∃ x, exec (.strmCreditFrame b) s = .next x ∧ x.rg pSTRM 0x12C ≠ 0 ∧
      regsBut s x [rkey pSTRM 0x12C] ∧ x = { s with regs := x.regs }) ∧
    (leAt b 28 4 = crc32 (b.take 28) → s.strm.errs = [] → exec (.strmCreditFrame b) s =
      .next { s with strm := { s.strm with credits := s.strm.credits + leAt b 18 2 } })) ∧
  (∀ (s : State) (x : StrmFrame) (f : StrmFlow) (plen need : Nat), s.changes = [] → s.twinRepl = false →
    s.strm.frames = [x] → x.stage = 1 → x.flow = some f → plen = leAt x.bytes 16 2 →
    need = (max 64 ((if f.mode = 1 then plen + 16 else plen - 16) + 36) + 255) / 256 → f.mode = 2 →
    (need ≤ s.strm.credits → ∃ y, exec .strmFrameStart s = .next y ∧ y.strm.credits = s.strm.credits - need ∧
      y.strm.stall = false ∧ y.strm.frames = [{ x with stage := 2, need := need, seq := leAt x.bytes 8 8 }]) ∧
    (s.strm.credits < need → exec .strmFrameStart s = .next s)) ∧
  (∀ (s : State) (due : Bool),
    (s.strm.up = true → 0 < s.strm.owed → s.strm.owed < 65536 → (due = true ∨ 16 ≤ s.strm.owed) →
      ∃ x, exec (.strmCreditReturn due) s = .next x ∧ x.strm = { s.strm with
        owed := 0, granted := s.strm.granted + s.strm.owed, out := s.strm.out ++ [mkFrame 2 0 0 0 0 s.strm.owed []] } ∧
        x = { s with strm := x.strm }) ∧
    (s.strm.owed = 0 ∨ (due = false ∧ s.strm.owed < 16) → exec (.strmCreditReturn due) s = .next s)) ∧
  (∀ (s : State), s.changes = [] →
    (s.strm.frames.any (fun y => y.stage == 1) = true → ∃ x, exec .strmCreditStall s = .next x ∧
      x.strm = { s.strm with stall := true } ∧ bitAt (x.rg pSTRM 0x20) 1 = true ∧ regsBut s x [rkey pSTRM 0x20] ∧
      x = { s with strm := x.strm, regs := x.regs }) ∧
    (s.strm.frames.any (fun y => y.stage == 1) = false → exec .strmCreditStall s = .next s))

/-! ### Vine -/

/-- Ports, packets and the tree (R401–R411). -/
def Obligations.VineTree : Prop :=
  (∀ (s t : State) (a : AgentId) (n : Fin 6) (v : Word) (m : Nat), m = fld v 0 2 → Writes s t a (pVPORT n) 0x100 →
    t.twinPoll = t →
    (m = 3 ∨ (m = t.vMode n ∧ m ≠ 2) → exec (.vineModeWrite n a v) s = .next (answered t a)) ∧
    (m = 2 → (t.role ≠ 2 ∨ ∃ k, k < 6 ∧ k ≠ n.val ∧ t.vMode k = 2) → ∃ x, exec (.vineModeWrite n a v) s = .next x ∧
      ok x a ∧ bitAt (x.rg pVINE 0x1C) 16 = true ∧ x.rg (pVPORT n) 0x100 = t.rg (pVPORT n) 0x100) ∧
    (m < 2 → t.vUp n = false → t.twin.key = [] → m ≠ t.vMode n → ∃ x, exec (.vineModeWrite n a v) s = .next x ∧
      ok x a ∧ x.rg (pVPORT n) 0x100 = wd m ∧ regsBut t x [rkey (pVPORT n) 0x100] ∧
      x = { t with regs := x.regs, ports := x.ports })) ∧
  (∀ (s : State) (n : Fin 6) (pol : Fin 4) (swap : Bool),
    (s.vineRun = true → s.vMode n ≠ 0 → s.vUp n = false → ∃ x, exec (.vineLinkUp n pol swap) s = .next x ∧
      x.rg (pVPORT n) 0x104 = wd (15 + 16 * pol.val + (if swap then 64 else 0)) ∧
      (x.vport n).state = (if s.vMode n = 2 then 10 else 1) ∧ bitAt (x.rg (pVPORT n) 0x20) 0 = true ∧
      (∀ k, k ≠ n.val → x.vport k = s.vport k) ∧ x = { s with vine := x.vine, regs := x.regs }) ∧
    (s.vineRun = false ∨ s.vMode n = 0 ∨ s.vUp n = true → exec (.vineLinkUp n pol swap) s = .next s)) ∧
  (∀ (s : State) (n : Fin 6), s.changes = [] →
    (s.vUp n = false → exec (.vineLinkDown n) s = .next s) ∧
    (s.vUp n = true → ∃ x, exec (.vineLinkDown n) s = .next x ∧ x.rg (pVPORT n) 0x104 = 0 ∧
      (x.vport n).state = 0 ∧ (x.vport n).nmember = false ∧ bitAt (x.rg (pVPORT n) 0x20) 0 = true ∧
      (s.vUpPort = some n.val → x.vMember = false ∧ x.vine.routes = [] ∧ x.time.holdover = true ∧
        x.time.locked = false ∧ x.rg pVINE 0x108 = s.rg pVINE 0x108) ∧
      (s.vUpPort ≠ some n.val → (∀ e ∈ x.vine.routes, e.2 ≠ n.val) ∧
        (s.vRoot = true → ∀ id sn, id ≠ 0 → (id, n.val) ∈ s.vine.routes → tfind s.vine.members id = some sn →
          tfind x.vine.members id = none ∧ tfind x.vine.held id = some sn)))) ∧
  (∀ (s : State) (n : Fin 6) (k : VPkt) (intact : Bool),
    (s.twin.handover = true ∨ s.vUp n = false → exec (.vinePacketForward n k intact) s = .next s) ∧
    (∀ c, c = k.body.cls → s.twin.handover = false → s.vUp n = true → s.changes = [] →
      (intact = false → ∃ x, exec (.vinePacketForward n k intact) s = .next x ∧ x.rg (pVPORT n) 0x11C ≠ 0 ∧
        (c ≠ 0 → VSent x n (.credit 0 0 0 none (some (c, tget 0 (s.vport n).rxSeq c)))) ∧
        (x.vport n).rxSeq = (s.vport n).rxSeq ∧ x = { s with vine := x.vine, regs := x.regs }) ∧
      (intact = true → c ≠ 0 → k.lseq % 256 ≠ tget 0 (s.vport n).rxSeq c →
        ∃ x, exec (.vinePacketForward n k intact) s = .next x ∧ x.rg (pVPORT n) 0x120 ≠ 0 ∧
          x = { s with regs := x.regs }) ∧
      (intact = true → c ≠ 0 → k.lseq % 256 = tget 0 (s.vport n).rxSeq c → ∃ t, s.vTake n k intact = (t, true) ∧
        tget 0 (t.vport n).rxSeq c = (tget 0 (s.vport n).rxSeq c + 1) % 256 ∧ t.rg (pVPORT n) 0x118 ≠ 0 ∧
        VSent t n (.credit 0 0 0 (some (c, tget 0 (s.vport n).rxSeq c)) none) ∧
        t = { s with vine := t.vine, regs := t.regs } ∧
        (s.vMode n = 1 → ((t.vTree n k).settle).held = s.held →
          exec (.vinePacketForward n k intact) s = .next (t.vTree n k).settle))) ∧
    (∀ t p, VArrives s t n k → s.twin.handover = false → k.body.cls = 1 ∨ k.body.cls = 3 →
      (∀ id, k.body ≠ .leave id) → (∀ w x y z, k.body ≠ .join w x y z) → k.body ≠ .snapreq →
      (∀ ty q b, k.body ≠ .twin ty q b) → (t.vMember = false ∨ k.dst ≠ t.vId) → t.vNext k.dst = some p → VOpen t p →
      p ≠ n.val → ∃ x, exec (.vinePacketForward n k true) s = .next x ∧ VSent x p k.body)) ∧
  (∀ (s t : State) (n : Fin 6) (req rsp msg : Byte) (ack nak : Option (Fin 4 × Byte)) (b : VBody),
    b = .credit req.toNat rsp.toNat msg.toNat (ack.map fun e => (e.1.val, e.2.toNat))
      (nak.map fun e => (e.1.val, e.2.toNat)) → VArrives s t n { body := b } → (t.vport n).wait = [] →
    ∃ x, exec (.vineCreditPacket n req rsp msg ack nak true) s = .next x ∧
      (∀ c, 1 ≤ c → c ≤ 3 → tget 0 (x.vport n).spent c = tget 0 (t.vport n).spent c - [0, req.toNat, rsp.toNat,
        msg.toNat].getD c 0) ∧
      (∀ k, k ∈ (x.vport n).kept ↔ k ∈ (t.vport n).kept ∧
        ∀ e, ack = some e → ¬ (k.body.cls = e.1.val ∧ (e.2.toNat + 256 - k.lseq % 256) % 256 < 128)) ∧
      (∀ e k, nak = some e → k ∈ (x.vport n).kept → k.body.cls = e.1.val → (k.lseq + 256 - e.2.toNat) % 256 < 128 →
        k ∈ (x.vport n).sent) ∧
      (nak = none → (x.vport n).sent = (t.vport n).sent) ∧ x = { t with vine := x.vine, regs := x.regs }) ∧
  (∀ (s : State), (s.vineRun = false → exec .vineHelloSend s = .next s) ∧
    (s.vineRun = true → ∃ x, exec .vineHelloSend s = .next x ∧
      (∀ n, n < 6 → s.vUp n = true → s.vMode n = 1 → x.vport n = { s.vport n with sent := (s.vport n).sent ++
        [{ src := s.vId, body := .hello (leNat serialBytes) s.vId s.vDepth s.vMember (s.vUpPort == some n) }] }) ∧
      (∀ n, (s.vUp n = false ∨ s.vMode n ≠ 1) → x.vport n = s.vport n) ∧
      x = { s with vine := x.vine, regs := x.regs })) ∧
  (∀ (s t : State) (n : Fin 6) (serial : BitVec 64) (id : BitVec 10) (d : Fin 8) (mem up : Bool),
    VArrives s t n { body := .hello serial.toNat id.toNat d mem up } → ∃ x,
      exec (.vineHelloReceive n serial id d mem up true) s = .next x ∧
      (x.vport n).nid = id.toNat ∧ (x.vport n).nmember = mem ∧ (x.vport n).ndepth = d.val ∧
      (x.vport n).nserial = serial.toNat ∧
      (t.vUpPort = some n.val → mem = true → x.vMember = true ∧ x.regs = t.regs) ∧
      (t.vUpPort = some n.val → mem = false → x.vMember = false) ∧
      (t.vUpPort ≠ some n.val → t.vMember = true → mem = true → (x.vport n).state = if up then 3 else 4) ∧
      (∀ m, t.vMember = false → t.role ≠ 2 →
        (t.modVport n fun p => { p with
          nid := id.toNat, nmember := mem, ndepth := d.val, nserial := serial.toNat, nup := up }).vBest = some m → (∀ k, k < 6 → (t.vport k).state ≠ 5) → (t.vport m).state = 1 → t.vUp m = true →
        (x.vport m).state = 5 ∧
          VSent x m (.join (leNat serialBytes) (t.rg pVINE 0x108).toNat 0 0))) ∧
  (∀ (s t u : State) (n : Fin 6) (lseq : Byte) (serial : BitVec 64) (pref : BitVec 16) (tag : Word) (hops : Fin 8)
      (k : VPkt), k = { lseq := lseq.toNat, body := .join serial.toNat pref.toNat tag.toNat hops } →
    VArrives s t n k → u = t.vReturn (some n.val) { body := .join serial.toNat pref.toNat tag.toNat hops } →
    (t.vMember = false → ∃ x, exec (.vineJoin n lseq serial pref tag hops true) s = .next x ∧ x = u.settle) ∧
    (t.vMember = true → t.vDepth = 6 → VOpen t n → ∃ x, exec (.vineJoin n lseq serial pref tag hops true) s = .next x ∧
      VSent x n (.assign 0 7 tag.toNat hops) ∧ x.vine.routes = t.vine.routes) ∧
    (∀ p, t.vMember = true → t.vDepth ≠ 6 → t.vRoot = false → t.vUpPort = some p → VOpen t p → p ≠ n.val →
      ∃ x, exec (.vineJoin n lseq serial pref tag hops true) s = .next x ∧
        VSent x p (.join serial.toNat pref.toNat (tag.toNat + at' n (3 * hops)) (hops + 1))) ∧
    (∀ j, j = VJoin.mk serial.toNat pref.toNat tag.toNat hops n → t.vMember = true → t.vRoot = true → t.vDepth = 0 →
      VOpen t n →
      (1024 ≤ t.vine.members.length + t.vine.held.length →
        ∃ x, exec (.vineJoin n lseq serial pref tag hops true) s = .next x ∧ VSent x n (.assign 0 6 tag.toNat hops)) ∧
      (t.vine.members.length + t.vine.held.length < 1024 → t.rbit pVINE 0x104 0 = true →
        (t.vine.joins.length < 16 → ∃ x, exec (.vineJoin n lseq serial pref tag hops true) s = .next x ∧
          x.vine.joins = t.vine.joins ++ [j] ∧ bitAt (x.rg pVINE 0x20) 0 = true) ∧
        (16 ≤ t.vine.joins.length → ∃ x, exec (.vineJoin n lseq serial pref tag hops true) s = .next x ∧
          VSent x n (.assign 0 9 tag.toNat hops) ∧ x.vine.joins = t.vine.joins)) ∧
      (∀ i, t.vine.members.length + t.vine.held.length < 1024 → t.rbit pVINE 0x104 0 = false →
        i = (match t.vine.held.find? (fun e => e.2 == serial.toNat) with
          | some e => some e.1
          | none => if pref.getLsbD 15 = true ∧ t.vTaken (pref.toNat % 1024) = false then some (pref.toNat % 1024)
            else (firstBelow 1023 fun i => !t.vTaken (i + 1)).map (· + 1)) →
        ∀ id, i = some id → ∃ x, exec (.vineJoin n lseq serial pref tag hops true) s = .next x ∧
          tfind x.vine.members id = some serial.toNat ∧ tfind x.vine.routes id = some n.val ∧
          (∀ e ∈ x.vine.held, e.2 ≠ serial.toNat) ∧ VSent x n (.assign id 0 tag.toNat hops) ∧
          (hops = 0 → (x.vport n).state = 3)))) ∧
  (∀ (s t : State) (n : Fin 6) (lseq : Byte) (id : BitVec 10) (code : Fin 11) (tag : Word) (hops : Fin 8),
    VArrives s t n { lseq := lseq.toNat, body := .assign id.toNat code tag.toNat hops } →
    (∀ p, hops ≠ 0 → p = nfld tag.toNat (3 * (hops.val - 1)) 3 → p ≠ n.val → VOpen t p →
      ∃ x, exec (.vineAssign n lseq id code tag hops true) s = .next x ∧
        VSent x p (.assign id.toNat code tag.toNat (hops.val - 1)) ∧
        (code = 0 → tfind x.vine.routes id.toNat = some p) ∧ (code ≠ 0 → x.vine.routes = t.vine.routes)) ∧
    (hops = 0 → (t.vport n).state = 5 → ∃ x, exec (.vineAssign n lseq id code tag hops true) s = .next x ∧
      (code ≠ 0 → code ≠ 5 → (x.vport n).state = code ∧ x.rg pVINE 0x100 = t.rg pVINE 0x100) ∧
      (code = 0 → (x.vport n).state = 2 ∧ x.rg pVINE 0x108 = wd (id.toNat + 0x8000) ∧
        x.rg pVINE 0x100 = wd (id.toNat + 0x10000 + at' (((t.vport n).ndepth + 1) % 8) 24 + at' n 28)))) ∧
  (∀ (s t : State) (n : Fin 6) (lseq : Byte) (id : BitVec 10), VArrives s t n { lseq := lseq.toNat, body := .leave id.toNat } →
    (∀ sn, t.vRoot = true → id ≠ 0 → tfind t.vine.members id.toNat = some sn →
      ∃ x, exec (.vineLeave n lseq id true) s = .next x ∧ tfind x.vine.members id.toNat = none ∧
        tfind x.vine.held id.toNat = some sn ∧ tfind x.vine.routes id.toNat = none) ∧
    (∀ p, t.vRoot = false → t.vUpPort = some p → p ≠ n.val → VOpen t p → ∃ x,
      exec (.vineLeave n lseq id true) s = .next x ∧ tfind x.vine.routes id.toNat = none ∧ VSent x p (.leave id.toNat))) ∧
  (∀ (s t : State) (a : AgentId) (v : Word), Writes s t a pVINE 0x128 →
    (classOf a.toNat ≠ .sys → classOf a.toNat ≠ .keyd → ∃ x, exec (.vineJanswer a v) s = .next x ∧ ok x a ∧
      bitAt (x.rg pVINE 0x1C) 3 = true ∧ regsBut t x [rkey pVINE 0x1C] ∧ x = { t with regs := x.regs, ports := x.ports }) ∧
    (∀ j r id, (classOf a.toNat = .sys ∨ classOf a.toNat = .keyd) → t.vine.joins = j :: r → id = fld v 0 10 →
      VOpen t j.port →
      (bitAt v 16 = false → ∃ x, exec (.vineJanswer a v) s = .next x ∧ ok x a ∧ x.vine.joins = r ∧
        VSent x j.port (.assign 0 8 j.tag j.hops) ∧ x.vine.members = t.vine.members) ∧
      (bitAt v 16 = true → (tfind t.vine.members id ≠ none ∨ ∃ sn, tfind t.vine.held id = some sn ∧ sn ≠ j.serial) →
        ∃ x, exec (.vineJanswer a v) s = .next x ∧ ok x a ∧ bitAt (x.rg pVINE 0x1C) 17 = true ∧ x.vine = t.vine) ∧
      (bitAt v 16 = true → tfind t.vine.members id = none → (∀ sn, tfind t.vine.held id = some sn → sn = j.serial) →
        ∃ x, exec (.vineJanswer a v) s = .next x ∧ ok x a ∧ x.vine.joins = r ∧
          tfind x.vine.members id = some j.serial ∧ tfind x.vine.routes id = some j.port ∧
          VSent x j.port (.assign id 0 j.tag j.hops)))) ∧
  (∀ (s : State) (j : VJoin) (r : List VJoin), s.vine.joins = j :: r → VOpen s j.port →
    ∃ x, exec .vineJoinTimeout s = .next x ∧ x.vine.joins = r ∧ VSent x j.port (.assign 0 8 j.tag j.hops) ∧
      x.vine.members = s.vine.members) ∧
  (∀ (s : State) (n : Fin 6), (6 ≤ (s.vport n).state → (s.vport n).state ≤ 9 → s.vUp n = true → s.vMember = false →
      ∃ x, exec (.vineJoinRetry n) s = .next x ∧ (x.vport n).state = 5 ∧
        VSent x n (.join (leNat serialBytes) (s.rg pVINE 0x108).toNat 0 0)) ∧
    ((s.vport n).state < 6 → exec (.vineJoinRetry n) s = .next s)) ∧
  (∀ (s : State) (id : BitVec 10), ∃ x, exec (.vineRejoinHoldExpiry id) s = .next x ∧
    tfind x.vine.held id.toNat = none ∧ (∀ i, i ≠ id.toNat → tfind x.vine.held i = tfind s.vine.held i) ∧
    x = { s with vine := { s.vine with held := x.vine.held } })

/-- Remote register access and messages (R412–R415). -/
def Obligations.VineRequests : Prop :=
  (∀ (s t u v : State) (n : Fin 6) (lseq : Byte) (dst src : BitVec 10) (tag : Word) (off : BitVec 28) (size : Fin 65)
      (data : Word) (p : Nat) (write : Bool) (k : VPkt) (r : BusAns),
    k = VPkt.mk lseq.toNat dst.toNat src.toNat
      (if write then .rwrite tag.toNat off.toNat size data.toNat else .rread tag.toNat off.toNat size) →
    VArrives s t n k → t.vMember = true → dst.toNat = t.vId → src.toNat ≠ t.vId → u = t.vReturn (some n.val) k →
    r = (u.setRg pVINE 0x170 (wd src.toNat)).access 0x90 (0x30000000 + off.toNat) size
      (if write then .write else .read) (leBytes 4 (if write then data else 0).toNat) 0 .none →
    (src = 0 ∨ t.rbit pVINE 0x104 1 = true → r.flight = none) →
    v = (if src ≠ 0 ∧ t.rbit pVINE 0x104 1 = false then u.cnt pVINE 0x174 else r.ans.st) →
    v.vNext src.toNat = some p → v.vId = t.vId → VOpen v p → Went s v →
    ∃ x, exec (if write then .vineRwrite n lseq dst src tag off size data true
        else .vineRread n lseq dst src tag off size true) s = .next x ∧
      VSent x p (.rresp tag.toNat (if src ≠ 0 ∧ t.rbit pVINE 0x104 1 = false then 1 else if r.ans.fault = .none then 0 else 1)
        (if (src ≠ 0 ∧ t.rbit pVINE 0x104 1 = false) ∨ write = true then 0 else leNat r.ans.data)) ∧
      x = { v with vine := x.vine, regs := x.regs }) ∧
  (∀ (s t : State) (n : Fin 6) (lseq : Byte) (dst src : BitVec 10) (tag : Word) (status : Fin 4) (data : Word) (f : Flight),
    VArrives s t n (VPkt.mk lseq.toNat dst.toNat src.toNat (.rresp tag.toNat status data.toNat)) → dst.toNat = t.vId →
    (t.flights.find? fun g => g.id == tag.toNat && !g.timedOut) = some f →
    ∃ x, exec (.vineRresp n lseq dst src tag status data true) s = .next x ∧
      (∀ g ∈ x.flights, g.id ≠ f.id) ∧ (∀ q ∈ x.vine.remotes, q.flight ≠ tag.toNat) ∧
      (x.port f.agent).fault = (if status = 0 then .none else if status = 2 then .range else .gate) ∧
      (x.port f.agent).data = (if status = 0 ∧ f.write = false then data.toNat else 0) ∧
      (status ≠ 0 → bitAt (x.rg pVINE 0x20) 5 = true ∧
        (t.rbit pVINE 0x16C 31 = false → x.rg pVINE 0x16C = wd (status + at' ((f.addr - 0x40000000) / 0x100000) 16 + 2 ^ 31)) ∧
        (t.rbit pVINE 0x16C 31 = true → x.rg pVINE 0x16C = t.rg pVINE 0x16C)) ∧
      (status = 0 → x.rg pVINE 0x16C = t.rg pVINE 0x16C)) ∧
  (∀ (s t : State) (a : AgentId) (v : Word) (len dst addr : Nat) (r : MemAns), Writes s t a pVINE 0x13C → bitAt v 0 = true →
    len = fld (t.arg a.toNat pVINE 0x130) 0 11 → dst = fld (t.arg a.toNat pVINE 0x12C) 0 10 →
    addr = (t.arg a.toNat pVINE 0x134).toNat + fld (t.arg a.toNat pVINE 0x138) 0 8 * 2 ^ 32 →
    r = t.engRead a.toNat addr len →
    ((∃ m ∈ t.vine.sends, m.agent = a.toNat) → ∃ x, exec (.vineMsgSend a v) s = .next x ∧ ok x a ∧
      bitAt (x.rg pVINE 0x1C) 18 = true ∧ regsBut t x [rkey pVINE 0x1C] ∧ x = { t with regs := x.regs, ports := x.ports }) ∧
    ((∀ m ∈ t.vine.sends, m.agent ≠ a.toNat) →
      (∀ code, code = (if len = 0 ∨ 1024 < len then 1 else if t.vMember = false ∨ dst = t.vId then 2 else 0) → code ≠ 0 →
        ∃ x, exec (.vineMsgSend a v) s = .next x ∧ ok x a ∧ x.arg a.toNat pVINE 0x140 = wd (code + 2 ^ 31) ∧
          bitAt (x.rg pVINE 0x20) 2 = true ∧ regsBut t x [rkey pVINE 0x20] ∧ x.vine = t.vine ∧ x.mem = t.mem) ∧
      (1 ≤ len → len ≤ 1024 → t.vMember = true → dst ≠ t.vId →
        (r.fault ≠ .none → r.st.vine = t.vine → Went t r.st → ∃ x, exec (.vineMsgSend a v) s = .next x ∧ ok x a ∧
          x.arg a.toNat pVINE 0x140 = wd (3 + 2 ^ 31) ∧ x.vine = t.vine) ∧
        (∀ p, r.fault = .none → r.st.vine = t.vine → Went t r.st → r.st.vNext dst = some p → VOpen r.st p →
          r.st.aregs = t.aregs → r.st.rg pVINE 0x100 = t.rg pVINE 0x100 →
          ∃ x, exec (.vineMsgSend a v) s = .next x ∧ ok x a ∧ x.arg a.toNat pVINE 0x140 = 0x40000000 ∧
            x.vine.sends = t.vine.sends ++ [{ agent := a.toNat, dst := dst, tag := t.vine.tagNo + 1 }] ∧
            x.vine.msgNo = (t.vine.msgNo + 1) % 2 ^ 32 ∧
            VSent x p (.msg (t.vine.tagNo + 1) (fld (t.arg a.toNat pVINE 0x12C) 16 4) x.vine.msgNo r.data))))) ∧
  (∀ (s t u : State) (n : Fin 6) (lseq : Byte) (dst src : BitVec 10) (tag : Word) (chan : Byte) (count : Word)
      (payload : List Byte) (k : VPkt) (rn w p code : Nat) (r : MemAns),
    k = VPkt.mk lseq.toNat dst.toNat src.toNat (.msg tag.toNat chan.toNat count.toNat payload) →
    VArrives s t n k → t.vMember = true → dst.toNat = t.vId → src.toNat ≠ t.vId → u = t.vReturn (some n.val) k →
    rn = fld (u.rg pVINE 0x14C) 0 12 → w = fld (u.rg pVINE 0x150) 0 12 →
    r = u.engWrite 0x38 ((u.rg pVINE 0x144).toNat + fld (u.rg pVINE 0x148) 0 8 * 2 ^ 32 + 1056 * w)
      (leBytes 2 src.toNat ++ [chan, 0] ++ leBytes 2 payload.length ++ [0, 0] ++ leBytes 4 count.toNat ++
        List.replicate 4 0 ++ leBytes 8 u.now ++ List.replicate 8 0 ++ payload) →
    code = (if rn = 0 ∨ (w + 1) % rn = fld (u.rg pVINE 0x154) 0 12 % rn then 5 else if r.fault = .none then 0 else 6) →
    r.st.vine = u.vine → r.st.regs = u.regs → Went s r.st → u.vNext src.toNat = some p → VOpen u p →
    ∃ x, exec (.vineMsg n lseq dst src tag chan count payload true) s = .next x ∧
      VSent x p (.msgack tag.toNat code) ∧
      (code = 0 → x.rg pVINE 0x150 = wd ((w + 1) % rn) ∧ bitAt (x.rg pVINE 0x20) 1 = true ∧ x.mem = r.st.mem) ∧
      (code ≠ 0 → x.rg pVINE 0x150 = t.rg pVINE 0x150) ∧ (code = 5 → x.mem = t.mem)) ∧
  (∀ (s t : State) (n : Fin 6) (lseq : Byte) (dst src : BitVec 10) (tag : Word) (code : Byte) (m : VSend),
    VArrives s t n (VPkt.mk lseq.toNat dst.toNat src.toNat (.msgack tag.toNat code.toNat)) →
    dst.toNat = t.vId → (t.vine.sends.find? fun y => y.tag == tag.toNat) = some m →
    ∃ x, exec (.vineMsgack n lseq dst src tag code true) s = .next x ∧ (∀ y ∈ x.vine.sends, y.agent ≠ m.agent) ∧
      x.arg m.agent pVINE 0x140 = wd (code.toNat + 2 ^ 31) ∧ bitAt (x.rg pVINE 0x20) 2 = true) ∧
  (∀ (s : State) (a : AgentId),
    ((∃ m ∈ s.vine.sends, m.agent = a.toNat) → ∃ x, exec (.vineMsgTimeout a) s = .next x ∧
      (∀ y ∈ x.vine.sends, y.agent ≠ a.toNat) ∧ x.arg a.toNat pVINE 0x140 = wd (8 + 2 ^ 31) ∧
      bitAt (x.rg pVINE 0x20) 2 = true ∧ x = { s with vine := x.vine, regs := x.regs, aregs := x.aregs }) ∧
    ((∀ m ∈ s.vine.sends, m.agent ≠ a.toNat) → exec (.vineMsgTimeout a) s = .next s))

/-- System time and the site snapshot (R416–R421). -/
def Obligations.TimeAndSnapshot : Prop :=
  (∀ (s : State) (n : Fin 6),
    (s.vUp n = true → ((s.vport n).state = 2 ∨ (s.vport n).state = 10) → ∃ x, exec (.vineSync n) s = .next x ∧
      x.vport n = { s.vport n with sent := (s.vport n).sent ++ [{ body := .sync }] } ∧
      x = { s with vine := x.vine, regs := x.regs }) ∧
    (∀ rt, s.vUp n = true → ∃ x, exec (.vineSyncack n rt true) s = .next x ∧
      x.rg (pVPORT n) 0x10C = wd (rt.toNat / 2 % 2 ^ 24) ∧
      regsBut s x [rkey (pVPORT n) 0x10C, rkey (pVPORT n) 0x118] ∧ x = { s with regs := x.regs })) ∧
  (∀ (s : State), (s.time.run = false → exec .vineTimeSend s = .next s) ∧
    (s.time.run = true → ∃ x, exec .vineTimeSend s = .next x ∧
      (∀ n, n < 6 → (s.vport n).state = 3 → s.vUp n = true →
        x.vport n = { s.vport n with sent := (s.vport n).sent ++ [{ src := s.vId, body := .time s.now }] }) ∧
      (∀ n, ((s.vport n).state ≠ 3 ∨ s.vUp n = false) → x.vport n = s.vport n) ∧
      x = { s with vine := x.vine, regs := x.regs })) ∧
  (∀ (s t : State) (n : Fin 6) (now : BitVec 64) (off : Int), VArrives s t n { body := .time now.toNat } →
    t.vUpPort = some n.val → off = (now.toNat : Int) + ((fld (t.rg (pVPORT n) 0x10C) 0 24 / 1000 : Nat) : Int) - (t.now : Int) →
    ∃ x, exec (.vineTimePacket n now true) s = .next x ∧ x.time.run = true ∧ x.time.holdover = false ∧
      (-2147483648 ≤ off → off ≤ 2147483647 → x.rg pTIME 0x114 = BitVec.ofInt 32 off) ∧
      ((off < -1000 ∨ 1000 < off) → 0 ≤ off + (t.now : Int) → x.now = (off + (t.now : Int)).toNat % 2 ^ 64 ∧
        x.rg pTIME 0x118 ≠ 0 ∧ x.time.rate = t.time.rate ∧
        ∀ c, c < 16 → t.time.armed.testBit c = true → t.cmpOf c ≤ x.now → bitAt (x.rg pTIME 0x20) c = true) ∧
      (-1000 ≤ off → off ≤ 1000 → x.now = t.now ∧ -200000 ≤ x.time.rate ∧ x.time.rate ≤ 200000 ∧
        x.rg pTIME 0x118 = t.rg pTIME 0x118) ∧
      (-10 ≤ off → off ≤ 10 → x.time.good = t.time.good + 1 ∧ (15 ≤ t.time.good → x.time.locked = true) ∧
        (t.time.good < 15 → x.time.locked = t.time.locked)) ∧
      ((off < -50 ∨ 50 < off) → x.time.good = 0 ∧ x.time.locked = false) ∧
      ((10 < off ∧ off ≤ 50) ∨ (-50 ≤ off ∧ off < -10) → x.time.good = 0 ∧ x.time.locked = t.time.locked) ∧
      (x.time.locked ≠ t.time.locked → bitAt (x.rg pTIME 0x20) 16 = true)) ∧
  (∀ (s t : State) (a : AgentId) (v : Word), Writes s t a pTIME 0x110 → bitAt v 0 = true →
    ((classOf a.toNat ≠ .sys ∧ classOf a.toNat ≠ .keyd) ∨ (t.vMember = true ∧ t.vRoot = false) →
      ∃ x, exec (.timeSetcmd a v) s = .next x ∧ ok x a ∧ bitAt (x.rg pTIME 0x1C) 16 = true ∧
        regsBut t x [rkey pTIME 0x1C] ∧ x = { t with regs := x.regs, ports := x.ports }) ∧
    ((classOf a.toNat = .sys ∨ classOf a.toNat = .keyd) → (t.vMember = false ∨ t.vRoot = true) →
      ∃ x, exec (.timeSetcmd a v) s = .next x ∧ ok x a ∧ x.time.run = true ∧
        x.now = (t.rg pTIME 0x108).toNat + (t.rg pTIME 0x10C).toNat * 2 ^ 32 ∧
        regsBut t x [rkey pTIME 0x20] ∧ x = { t with now := x.now, time := x.time, regs := x.regs, ports := x.ports })) ∧
  (∀ (s t : State) (a : AgentId), Reads s t a pTIME 0x100 → ∃ x, exec (.timeNowRead a) s = .next x ∧ ok x a ∧
    (x.port a.toNat).data = t.now % 2 ^ 32 ∧ x.arg a.toNat pTIME 0x104 = wd (t.now / 2 ^ 32) ∧
    x = { t with aregs := x.aregs, ports := x.ports }) ∧
  (∀ (s t : State) (a : AgentId) (n : Fin 16) (v : Word), Writes s t a pTIME (0x204 + 8 * n.val) →
    ∃ x, exec (.timeCompareArm a n v) s = .next x ∧ ok x a ∧ x.rg pTIME (0x204 + 8 * n.val) = v ∧
      (∀ k, x.time.armed.testBit k = (t.time.armed.testBit k || decide (k = n.val))) ∧
      regsBut t x [rkey pTIME (0x204 + 8 * n.val)] ∧
      x = { t with regs := x.regs, time := { t.time with armed := x.time.armed }, ports := x.ports }) ∧
  (∀ (s : State) (n : Fin 16),
    (s.time.armed.testBit n = true → s.cmpOf n ≤ s.now → ∃ x, exec (.timeCompareFire n) s = .next x ∧
      bitAt (x.rg pTIME 0x20) n = true ∧
      (∀ k, x.time.armed.testBit k = (s.time.armed.testBit k && decide (k ≠ n.val))) ∧ regsBut s x [rkey pTIME 0x20] ∧
      x = { s with regs := x.regs, time := { s.time with armed := x.time.armed } }) ∧
    (s.time.armed.testBit n = false ∨ s.now < s.cmpOf n → exec (.timeCompareFire n) s = .next s)) ∧
  (∀ (s t : State) (a : AgentId) (v : Word) (no tt : Nat), Writes s t a pVINE 0x158 → bitAt v 0 = true →
    no = ((t.rg pVINE 0x160).toNat + 1) % 2 ^ 32 → tt = (t.now + fld (t.rg pVINE 0x15C) 0 24) % 2 ^ 64 →
    (t.vRoot = true → classOf a.toNat ≠ .sys → classOf a.toNat ≠ .keyd → ∃ x, exec (.vineSnapFire a v) s = .next x ∧
      ok x a ∧ bitAt (x.rg pVINE 0x1C) 3 = true ∧ x = { t with regs := x.regs, ports := x.ports }) ∧
    (t.vRoot = true → (classOf a.toNat = .sys ∨ classOf a.toNat = .keyd) → t.vine.targets.length < 4 →
      ∃ x, exec (.vineSnapFire a v) s = .next x ∧ ok x a ∧ x.vine.targets = t.vine.targets ++ [tt] ∧
        x.rg pVINE 0x160 = wd no ∧ x.rg pVINE 0x164 = wd tt ∧ x.rg pVINE 0x168 = wd (tt / 2 ^ 32) ∧
        bitAt (x.rg pVINE 0x20) 4 = true ∧
        (∀ n, n < 6 → (t.vport n).state = 3 → t.vUp n = true → VSent x n (.snap no tt))) ∧
    (∀ p, t.vRoot = false → t.vUpPort = some p → VOpen t p → ∃ x, exec (.vineSnapFire a v) s = .next x ∧ ok x a ∧
      VSent x p .snapreq)) ∧
  (∀ (s t : State) (n : Fin 6) (lseq : Byte), VArrives s t n { lseq := lseq.toNat, body := .snapreq } →
    (t.vRoot = true → t.rbit pVINE 0x104 2 = true → t.vine.targets.length < 4 →
      ∃ x, exec (.vineSnapreq n lseq true) s = .next x ∧
        x.vine.targets = t.vine.targets ++ [(t.now + fld (t.rg pVINE 0x15C) 0 24) % 2 ^ 64] ∧
        x.rg pVINE 0x160 = wd ((t.rg pVINE 0x160).toNat + 1) ∧ bitAt (x.rg pVINE 0x20) 4 = true) ∧
    (t.vRoot = true → t.rbit pVINE 0x104 2 = false → ∃ x, exec (.vineSnapreq n lseq true) s = .next x ∧
      x.vine.targets = t.vine.targets ∧ x.rg pVINE 0x160 = t.rg pVINE 0x160) ∧
    (∀ p, t.vRoot = false → t.vUpPort = some p → p ≠ n.val → VOpen t p →
      ∃ x, exec (.vineSnapreq n lseq true) s = .next x ∧ VSent x p .snapreq)) ∧
  (∀ (s t : State) (n : Fin 6) (no : Word) (tt : BitVec 64), VArrives s t n { body := .snap no.toNat tt.toNat } →
    t.vUpPort = some n.val → ∃ x, exec (.vineSnap n no tt true) s = .next x ∧
      (∀ m, m < 6 → (t.vport m).state = 3 → t.vUp m = true → VSent x m (.snap no.toNat tt.toNat)) ∧
      ((tt.toNat < t.now ∨ t.time.locked = false) → bitAt (x.rg pVINE 0x1C) 20 = true ∧ x.rg pVINE 0x160 = no ∧
        x.vine.targets = t.vine.targets ∧
        (t.rbit pSNAP 0x104 4 = true → t.snapArmed = true → x.snapPend = t.snapPend ||| 16)) ∧
      (t.now ≤ tt.toNat → t.time.locked = true →
        (t.vine.targets.length < 4 → x.vine.targets = t.vine.targets ++ [tt.toNat] ∧ x.rg pVINE 0x160 = no ∧
          x.rg pVINE 0x164 = wd tt.toNat ∧ x.rg pVINE 0x168 = wd (tt.toNat / 2 ^ 32) ∧
          bitAt (x.rg pVINE 0x20) 4 = true) ∧
        (4 ≤ t.vine.targets.length → x.vine.targets = t.vine.targets ∧ x.rg pSNAP 0x118 ≠ 0))) ∧
  (∀ (s : State),
    ((∃ q ∈ s.vine.targets, q ≤ s.now) → ∃ x, exec .vineSnapTarget s = .next x ∧
      (∀ q, q ∈ x.vine.targets ↔ q ∈ s.vine.targets ∧ s.now < q) ∧
      (s.rbit pSNAP 0x104 4 = true → s.snapArmed = true → x.snapPend = s.snapPend ||| 16)) ∧
    ((∀ q ∈ s.vine.targets, s.now < q) → exec .vineSnapTarget s = .next s))

/-! ### Twin -/

/-- The twin (R422–R435). -/
def Obligations.Twin : Prop :=
  (∀ (s u : State) (a : AgentId) (r : MemAns) (w : Word), a.toNat = aMCORE → CtrlBits s u a pTWIN 0x100 →
    w = s.ctrlPlus pTWIN 0x100 &&& 1 →
    r = ((u.setRg pTWIN 0x10 w).ownDrop .pair).engRead 0x38 ((u.rg pTWIN 0x108).toNat + fld (u.rg pTWIN 0x10C) 0 8 * 2 ^ 32) 92 →
    bitAt (s.ctrlPlus pTWIN 0x100) 9 = false →
    (u.twin.state ≠ 0 → ∃ x, exec (.twinPair a) s = .next x ∧ ok x a ∧ x.rg pTWIN 0x110 = wd (4 + 2 ^ 31) ∧
      x.twin.key = u.twin.key) ∧
    (u.twin.state = 0 → r.fault ≠ .none → r.st.twin = u.twin → Went u r.st → ∃ x, exec (.twinPair a) s = .next x ∧ ok x a ∧
      x.rg pTWIN 0x110 = wd (3 + 2 ^ 31) ∧ x.twin.key = u.twin.key) ∧
    (u.twin.state = 0 → r.fault = .none → r.st.twin = u.twin → Went u r.st → pairBlobBad (r.data.take 24) = true →
      ∃ x, exec (.twinPair a) s = .next x ∧ ok x a ∧ x.rg pTWIN 0x110 = wd (1 + 2 ^ 31) ∧ x.twin.key = u.twin.key) ∧
    (∀ t, u.twin.state = 0 → r.fault = .none → Went u r.st → pairBlobBad (r.data.take 24) = false →
      t = r.st.keyDomain 13 (pPRESS 0) →
      ((t.unit 0).freePlace = none → t.ownAt .pair = none → ∃ x, exec (.twinPair a) s = .next x ∧ ok x a ∧
        x.rg pTWIN 0x110 = 0 ∧ x.twin.pairing = some r.data) ∧
      (∀ m, OwnRuns t .pair 0 13 40 → (t.slot 1020).isSome = true →
        gcmOpen (t.slotMat 1020) ((r.data.drop 24).take 12) (r.data.take 24) ((r.data.drop 36).take 40)
          (r.data.drop 76) = some m → ∃ x, exec (.twinPair a) s = .next x ∧ ok x a ∧
          x.rg pTWIN 0x110 = wd (2 ^ 31) ∧ x.twin.key = m.take 32 ∧ x.twin.pserial = m.drop 32))) ∧
  (∀ (s : State), s.changes = [] →
    (s.twin.state = 1 → s.rbit pTWIN 0x100 0 = true → s.twin.hbIn = 0 → ∃ x, exec .twinPairTimeout s = .next x ∧
      ServesAlone x) ∧
    (s.twin.state ≠ 1 ∨ s.rbit pTWIN 0x100 0 = false ∨ s.twin.hbIn ≠ 0 → exec .twinPairTimeout s = .next s)) ∧
  (∀ (s : State) (p : Nat) (b : List Byte), s.changes = [] → s.twinPort = some p → VOpen s p →
    s.twin.state ≠ 0 → s.twin.state ≠ 6 →
    (∀ fl, b = heartbeatBytes s.twin.key serialBytes s.twin.state (fl + flagAt s.twin.well 1)
        ((s.twin.hbOut + 1) % 2 ^ 32) (if s.twin.state = 4 ∨ s.twin.state = 5 then s.twin.ack else s.seqWritten) s.now →
      (fl = 0 → s.tamp.twinWait = 0 → ∃ x, exec .twinHeartbeatSend s = .next x ∧ VSent x p (.twin 2 0 b) ∧
        x.twin = { s.twin with hbOut := s.twin.hbOut + 1 } ∧ x = { s with twin := x.twin, vine := x.vine, regs := x.regs }) ∧
      (fl = 1 → s.tamp.twinWait ≠ 0 → ∃ y x, VSent y p (.twin 2 0 b) ∧
        y = { s with twin := { s.twin with hbOut := s.twin.hbOut + 1 }, vine := y.vine, regs := y.regs } ∧
        x = ({ y with tamp := { y.tamp with twinWait := 0 } } : State).respond s.tamp.twinWait ∧
        exec .twinHeartbeatSend s = .next x.settle))) ∧
  (∀ (s : State), s.changes = [] → s.twin.state = 0 ∨ s.twin.state = 6 → exec .twinHeartbeatSend s = .next s ∧
    exec .twinMissWindow s = .next s) ∧
  (∀ (s t : State) (n : Fin 6) (b : List Byte) (prim : Bool) (peer fl : Nat), TwinArrives s t n { body := .twin 2 0 b } →
    t.twin.state ≠ 0 → t.twin.state ≠ 6 → peer = (byteAt b 0).toNat → fl = (byteAt b 1).toNat →
    (t.heartbeatValid b = false → exec (.twinHeartbeatReceive n b true prim) s = .next t) ∧
    (t.heartbeatValid b = true → ∃ x, exec (.twinHeartbeatReceive n b true prim) s = .next x ∧
      x.twin.hbIn = leAt b 4 4 ∧ x.twin.heard = true ∧ x.twin.miss = 0 ∧ x.twin.peer = peer ∧
      (t.twin.state = 1 → peer = 2 ∨ peer = 3 → x.twin.state = 4 ∧ x.twinRepl = false) ∧
      (t.twin.state = 1 → peer = 1 → (t.firstActive prim = true → ServesAlone x) ∧
        (t.firstActive prim = false → x.twin.state = 4)) ∧
      (t.twin.state = 1 → peer ≠ 1 → peer ≠ 2 → peer ≠ 3 → x.twin.state = 1) ∧
      (t.twin.state = 2 → (peer = 5 → x.twin.state = 2) ∧ (peer ≠ 5 → ServesAlone x)) ∧
      (t.twin.state = 3 → (peer = 5 → t.twinRepl = true → t.twin.bulk = none → x.twin.state = 2) ∧
        (peer ≠ 5 → x.twin.state = 3)) ∧
      (t.twin.state = 5 → x.twin.state = 5 ∧ (fl % 2 = 1 → x.twin.due = some 2) ∧
        (fl % 2 = 0 → fl / 4 % 2 = 1 → x.twin.due = some 3)))) ∧
  (∀ (s : State), s.changes = [] → s.twin.state ≠ 0 → s.twin.state ≠ 6 →
    (s.twin.heard = true → exec .twinMissWindow s =
      .next { s with twin := { s.twin with heard := false, miss := 0 } }) ∧
    (s.twin.heard = false → ∃ x, exec .twinMissWindow s = .next x ∧ x.twin.miss = s.twin.miss + 1 ∧
      (s.twin.miss < 2 → x = { s with twin := { s.twin with miss := s.twin.miss + 1 } }) ∧
      (2 ≤ s.twin.miss → (s.twin.state = 2 → ServesAlone x ∧ ∀ e ∈ x.twin.waits, s.twinSeq < e.2) ∧
        (s.twin.state = 4 ∨ s.twin.state = 5 → x.twin.due = some 1)))) ∧
  (∀ (s : State), s.changes = [] → (s.twin.due = none → exec .twinTakeover s = .next s) ∧
    (∀ r, s.twin.due = some r →
      (s.twin.state ≠ 5 ∨ s.twin.well = false → ∃ x, exec .twinTakeover s = .next x ∧ bitAt (x.rg pTWIN 0x1C) 17 = true ∧
        x = { s with twin := { s.twin with due := none }, regs := x.regs }) ∧
      (s.twin.state = 5 → s.twin.well = true → exec .twinTakeover s =
        .next { s with twin := { s.twin with due := none, first := some r } }))) ∧
  (∀ (s : State) (r : Nat), s.changes = [] → s.twin.first = some r → r < 4 →
    (∃ x, exec (.twinSecondDecision true) s = .next x ∧ fld (x.rg pTWIN 0x138) 0 2 = r ∧
      fld (x.rg pTWIN 0x138) 16 16 = (fld (s.rg pTWIN 0x138) 16 16 + 1) % 65536 ∧
      x.twin = { s.twin with first := none, taking := some r, twfo := true } ∧ regsBut s x [rkey pTWIN 0x138] ∧
      x = { s with twin := x.twin, regs := x.regs }) ∧
    (∃ x, exec (.twinSecondDecision false) s = .next x ∧ x.twin.first = none ∧ x.twin.state = s.twin.state ∧
      bitAt (x.rg pBKP 0x100) 26 = true)) ∧
  (∀ (s : State) (r : Nat), s.changes = [] → s.twin.taking = some r → ∃ x, exec .twfoPulseEnd s = .next x ∧
    ServesAlone x ∧ x.twin.twfo = false ∧ x.twin.taking = none ∧ bitAt (x.rg pTWIN 0x20) 1 = true ∧ MsixSent s x 0 ∧
    (∀ n, n < 64 → (s.inst n).st = 2 ∨ (s.inst n).st = 3 ∨ (s.inst n).st = 4 → (x.inst n).st = 2 ∧
      x.rg (pINST n) 0x104 = s.rg (pINST n) 0x104 ∧ ∀ q, q < 8 → x.rg (pINST n) (0x200 + 8 * q) = 0)) ∧
  (∀ (s : State), s.changes = [] →
    (s.rbit pTWIN 0x100 1 = false ∨ (s.twin.state ≠ 2 ∧ s.twin.state ≠ 3) → exec .twinFence s = .next s) ∧
    (s.rbit pTWIN 0x100 1 = true → s.twin.state = 2 ∨ s.twin.state = 3 → s.twinFence.held = s.held →
      ∃ x, exec .twinFence s = .next x ∧
      x.twin.state = 6 ∧ x.host.link = none ∧ (∀ n, n < 6 → x.vUp n = false) ∧ x.vMember = false ∧
      x.rst.asked.testBit 8 = true ∧ bitAt (x.rg pTWIN 0x20) 3 = true)) ∧
  (∀ (s u : State) (a : AgentId), a.toNat = aMCORE → CtrlBits s u a pTWIN 0x200 → bitAt (s.ctrlPlus pTWIN 0x200) 8 = false →
    u.twin.state = 2 → (u.setRg pTWIN 0x10 (s.ctrlPlus pTWIN 0x200 &&& 1)).twinPoll =
      u.setRg pTWIN 0x10 (s.ctrlPlus pTWIN 0x200 &&& 1) → ∃ x, exec (.twinHandover a) s = .next x ∧ ok x a ∧
      x.twin = { u.twin with handover := true }) ∧
  (∀ (s : State), (s.twin.handover = true → s.changes = [] → s.twin.ack = s.twinSeq → ∃ x,
      exec .twinHandoverComplete s = .next x ∧ x.twin.state = 5 ∧ x.twin.handover = false ∧ x.twinRepl = false ∧
      x.vMember = false ∧ (∀ p, s.twinPort = some p → VOpen s p → ∃ b, b.length = 32 ∧ (byteAt b 1).getLsbD 2 = true ∧
        VSent x p (.twin 2 0 b))) ∧
    (s.changes = [] → (s.twin.handover = false ∨ s.twin.ack ≠ s.twinSeq) → exec .twinHandoverComplete s = .next s)) ∧
  (∀ (s t : State) (n : Fin 6) (lseq : Byte) (bs h body : List Byte) (seq len p : Nat),
    TwinArrives s t n { lseq := lseq.toNat, body := .twin 3 (leAt bs 8 4) bs } → (t.twin.state = 4 ∨ t.twin.state = 5) →
    h = bs.take 32 → seq = leAt h 8 8 → len = leAt h 4 2 → (byteAt h 3).getLsbD 3 = false →
    t.twinPort = some p → VOpen t p →
    (gcmOpen t.twin.key (leBytes 8 seq ++ List.replicate 4 0) h ((bs.drop 32).take len) (bs.drop (32 + len)) = none ∨
        h.take 2 ≠ [0x54, 0x52] ∨ seq ≠ t.twin.ack + 1 → ∃ x, exec (.twinRecord n lseq bs true) s = .next x ∧
      x.twin.state = 4 ∧ bitAt (x.rg pTWIN 0x1C) 18 = true ∧ x.twin.ack = t.twin.ack ∧
      x.twin.counters = t.twin.counters) ∧
    (gcmOpen t.twin.key (leBytes 8 seq ++ List.replicate 4 0) h ((bs.drop 32).take len) (bs.drop (32 + len)) = some body →
      h.take 2 = [0x54, 0x52] → seq = t.twin.ack + 1 → byteAt h 2 = 4 → byteAt h 3 = 0 → t.twin.frag = none →
      ∃ x, exec (.twinRecord n lseq bs true) s = .next x ∧ x.twin.ack = seq ∧ VSent x p (.twin 4 seq (leBytes 8 seq)) ∧
        (tget 0 t.twin.applied (4 * 65536 + leAt h 6 2) < seq →
          tget 0 x.twin.counters (leAt h 6 2 % 16) = leAt body 0 8 ∧
          tget 0 x.twin.applied (4 * 65536 + leAt h 6 2) = seq) ∧
        (seq ≤ tget 0 t.twin.applied (4 * 65536 + leAt h 6 2) → x.twin.counters = t.twin.counters))) ∧
  (∀ (s t : State) (n : Fin 6) (lseq : Byte) (seq : BitVec 64),
    TwinArrives s t n { lseq := lseq.toNat, body := .twin 4 (seq.toNat % 2 ^ 32) (leBytes 8 seq.toNat) } →
    (t.twinRepl = true → seq.toNat ≤ t.seqWritten → t.twin.ack < seq.toNat → ∃ x,
      exec (.twinRack n lseq seq true) s = .next x ∧ x.twin.ack = seq.toNat ∧
      (∀ e ∈ t.twin.waits, e.2 ≤ seq.toNat → tfind x.twin.waits e.1 = none ∧
        x.arg e.1 pTWIN 0x160 = wd (2 ^ 31))) ∧
    (t.twinRepl = false ∨ t.seqWritten < seq.toNat ∨ seq.toNat ≤ t.twin.ack →
      exec (.twinRack n lseq seq true) s = .next t)) ∧
  (∀ (s : State), (s.changes = [] → exec .twinJournalLag s = .next s) ∧
    (s.changes ≠ [] → s.ringFull = true → ∃ x, exec .twinJournalLag s = .next x ∧ bitAt (x.rg pTWIN 0x1C) 16 = true ∧
      ServesAlone x)) ∧
  (∀ (s : State), s.changes = [] →
    (s.twin.peer ≠ 4 ∨ (s.twin.state ≠ 2 ∧ s.twin.state ≠ 3) → exec .twinResync s = .next s) ∧
    (s.twin.peer = 4 → s.twin.state = 2 ∨ s.twin.state = 3 →
      (s.twin.bulk = none → s.twinRepl = false → ∃ x, exec .twinResync s = .next x ∧ x.twinRepl = true ∧
        x.twin.bulk = some (s.twinSeq, s.bulkTargets) ∧ x.twin.ack = s.twinSeq ∧
        x = { s with twinRepl := true, twin := x.twin }) ∧
      (∀ m r p c, s.ringFull = false → s.twinPort = some p → VOpen s p →
        ((r = [] ∧ s.twin.bulk = some (m, []) ∧ c = TwinChange.mk (s.twinSeq + 1) 5 0 (leBytes 8 m) 1) ∨
          ∃ k n, (k = 3 ∨ k = 4) ∧ s.twin.bulk = some (m, (k, n) :: r) ∧
            c = TwinChange.mk (s.twinSeq + 1) k n (s.targetBody k n).2 (if s.twinSeq = m then 9 else 1)) →
        (({ s with twinSeq := s.twinSeq + 1, twin := { s.twin with bulk := if c.kind = 5 then none else some (m, r) } } :
          State).writeRecord c).held = s.held →
        ∃ x, exec .twinResync s = .next x ∧ x.twinSeq = s.twinSeq + 1 ∧ x.changes = [] ∧
          x.twin.bulk = (if c.kind = 5 then none else some (m, r)) ∧
          VSent x p (.twin 3 c.seq (recordBytes s.twin.key c))))) ∧
  (∀ (s : State) (bit : Fin 16) (passed : Bool), (s.twin.state ≠ 4 → s.twin.state ≠ 5 → exec (.twinSelfTest bit passed) s = .next s) ∧
    (s.twin.state = 4 ∨ s.twin.state = 5 → ∃ x, exec (.twinSelfTest bit passed) s = .next x ∧
      x.twin.passMap.testBit bit = passed ∧ x.twin.failed = (s.twin.failed || !passed) ∧
      x.twin.fails = s.twin.fails + (if passed then 0 else 1) ∧ x = { s with twin := x.twin })) ∧
  (∀ (s : State) (temp : BitVec 16) (p : Nat), s.changes = [] →
    (s.twin.state ≠ 4 → s.twin.state ≠ 5 → exec (.twinHealthSend temp) s = .next s) ∧
    (s.twin.state = 4 ∨ s.twin.state = 5 → s.twinPort = some p → VOpen s p → ∃ x,
      exec (.twinHealthSend temp) s = .next x ∧ x.twin = { s.twin with well := !s.twin.failed, failed := false } ∧
      VSent x p (.twin 5 0 (leBytes 4 s.twin.passMap ++ leBytes 4 s.twin.fails ++ leBytes 4 temp.toNat ++
        leBytes 4 s.twin.ack ++ List.replicate 16 0)))) ∧
  (∀ (s t : State) (n : Fin 6) (lseq : Byte) (b : List Byte),
    TwinArrives s t n { lseq := lseq.toNat, body := .twin 5 0 b } → (t.twin.state = 2 ∨ t.twin.state = 3) →
    ∃ x, exec (.twinHealthReceive n lseq b true) s = .next x ∧
      (∀ i, i < 4 → x.rg pTWIN (0x140 + 4 * i) = wd (leAt b (4 * i) 4)) ∧
      (t.twin.peerWell = false → bitAt (x.rg pTWIN 0x20) 2 = true) ∧
      (t.twin.peerWell = true → x.rg pTWIN 0x20 = t.rg pTWIN 0x20) ∧ x = { t with regs := x.regs }) ∧
  (∀ (s : State), (s.twin.state = 2 ∨ s.twin.state = 3 → ∃ x, exec .twinHealthGap s = .next x ∧
      bitAt (x.rg pTWIN 0x20) 2 = true ∧ regsBut s x [rkey pTWIN 0x20] ∧ x = { s with regs := x.regs }) ∧
    (s.twin.state ≠ 2 → s.twin.state ≠ 3 → exec .twinHealthGap s = .next s)) ∧
  (∀ (s t : State) (a : AgentId) (n sum : Nat), Writes s t a pTWIN 0x15C → n = fld (t.arg a.toNat pTWIN 0x150) 0 4 →
    sum = tget 0 t.twin.counters n + (t.arg a.toNat pTWIN 0x154).toNat + (t.arg a.toNat pTWIN 0x158).toNat * 2 ^ 32 →
    (∀ code, code = (if classOf a.toNat ≠ .sys ∧ classOf a.toNat ≠ .keyd then 2 else if 2 ^ 64 ≤ sum then 1 else 0) →
      (code ≠ 0 → ∃ x, exec (.twinMcntIncr a) s = .next x ∧ ok x a ∧ x.arg a.toNat pTWIN 0x160 = wd (code + 2 ^ 31) ∧
        x.twin.counters = t.twin.counters) ∧
      (code = 0 → ∃ x, exec (.twinMcntIncr a) s = .next x ∧ ok x a ∧ tget 0 x.twin.counters n = sum ∧
        (∀ k, k ≠ n → tget 0 x.twin.counters k = tget 0 t.twin.counters k) ∧
        x.arg a.toNat pTWIN 0x154 = wd sum ∧ x.arg a.toNat pTWIN 0x158 = wd (sum / 2 ^ 32) ∧
        (t.twinRepl = true → t.twin.state = 2 → x.arg a.toNat pTWIN 0x160 = 0 ∧
          tfind x.twin.waits a.toNat = some (t.twinSeq + 1)) ∧
        (t.twinRepl = false → x.arg a.toNat pTWIN 0x160 = wd (2 ^ 31)))))

/-! ### Alarms, responses and the backup domain -/

/-- Tamper monitors and the backup domain (R436–R450, R477, R483). -/
def Obligations.TamperAndBackup : Prop :=
  (∀ (s : State) (sources : Word) (lit : BitVec 64) (m : Nat), s.tamp.vin = true → s.changes = [] →
    (∀ i, m.testBit i = (decide (i < 29) && !bitAt (s.rg pTAMP 0x184) i &&
      (if i = 8 then lit &&& ~~~(if s.lc.state = 0 then s.rg pTAMP 0x1A8 ++ s.rg pTAMP 0x1A4 else 0) != 0
       else bitAt sources i))) →
    ∃ x, exec (.tamperSourceRaise sources lit) s = .next x ∧ x.rg pTAMP 0x184 = s.rg pTAMP 0x184 ||| wd m ∧
      x.rg pTAMP 0x19C = s.rg pTAMP 0x19C ||| wd lit.toNat ∧
      x.rg pTAMP 0x1A0 = s.rg pTAMP 0x1A0 ||| wd (lit.toNat / 2 ^ 32) ∧
      x.tamp.vbatOk = !bitAt (x.rg pTAMP 0x184) 15 ∧
      (m ≠ 0 → ∃ r, (∀ i, m.testBit i = true → s.respOf i ≤ r) ∧ (∃ i, m.testBit i = true ∧ s.respOf i = r) ∧
        Alarmed s x m r) ∧
      (m = 0 → Unmoved s x ∧ x.rg pBKP 0x100 = s.rg pBKP 0x100 ∧ x.notices = s.notices ∧ x.snapPend = s.snapPend) ∧
      regsBut s x [rkey pTAMP 0x184, rkey pTAMP 0x19C, rkey pTAMP 0x1A0, rkey pTAMP 0x188, rkey pTAMP 0x18C,
        rkey pTAMP 0x20, rkey pBKP 0x100, rkey pBKP 0x118]) ∧
  (∀ (s : State) (i : Nat) (lit : BitVec 64), i ∈ [0, 1, 9] → s.tamp.vin = false → s.changes = [] →
    bitAt (s.rg pTAMP 0x184) i = false →
    ∃ x, exec (.tamperSourceRaise (wd (2 ^ i)) lit) s = .next x ∧ bitAt (x.rg pTAMP 0x184) i = true ∧
      VbatAlarm s x i (s.vbatResp i)) ∧
  (∀ (s : State) (src : Fin 32), ∃ x, exec (.tamperSourceFall src) s = .next x ∧
    (∀ i, bitAt (x.rg pTAMP 0x184) i = (bitAt (s.rg pTAMP 0x184) i && decide (i ≠ src))) ∧
    x.tamp = { s.tamp with vbatOk := !bitAt (x.rg pTAMP 0x184) 15 } ∧ regsBut s x [rkey pTAMP 0x184] ∧
    x = { s with regs := x.regs, tamp := x.tamp }) ∧
  (∀ (s : State), s.changes = [] → (s.tamp.vin = false → exec .vinDip s = .next s) ∧
    (s.tamp.vin = true → ∃ x, exec .vinDip s = .next x ∧ Alarmed s x 8 (s.respOf 3))) ∧
  (∀ (s : State) (n : Fin 4) (high differs bad : Bool) (mode : Nat), s.changes = [] → mode = fld (s.rg pTAMP 0x198) (2 * n) 2 →
    bad = (if mode = 1 then high else differs) →
    (s.tamp.vin = true → mode ≠ 1 → mode ≠ 2 → exec (.tampLoopCheck n high differs) s = .next s) ∧
    (s.tamp.vin = true → mode = 1 ∨ mode = 2 →
      (bad = true → bitAt (s.rg pTAMP 0x184) (10 + n) = true → exec (.tampLoopCheck n high differs) s = .next s) ∧
      ∃ x, exec (.tampLoopCheck n high differs) s = .next x ∧ bitAt (x.rg pTAMP 0x184) (10 + n) = bad ∧
        (bad = false → x = { s with regs := x.regs } ∧ regsBut s x [rkey pTAMP 0x184]) ∧
        (bad = true → bitAt (s.rg pTAMP 0x184) (10 + n) = false → Alarmed s x (2 ^ (10 + n.val)) (s.respOf (10 + n)))) ∧
    (s.tamp.vin = false → ¬ loopOnVbat s n → exec (.tampLoopCheck n high differs) s = .next s) ∧
    (s.tamp.vin = false → loopOnVbat s n → ∃ x, exec (.tampLoopCheck n high differs) s = .next x ∧
      bitAt (x.rg pTAMP 0x184) (10 + n) = high ∧
      (high = true → bitAt (s.rg pTAMP 0x184) (10 + n) = false →
        VbatAlarm s x (10 + n) (fld (s.rg pBKP 0x12C) (12 + 4 * n) 3)))) ∧
  (∀ (s : State) (n : Fin 8) (bad : Bool), s.changes = [] →
    (bad = false ∨ bitAt (s.rg pTAMP 0x194) n = false ∨ bitAt (s.rg pTAMP 0x184) 9 = true →
      exec (.tampMeshCheck n bad) s = .next s) ∧
    (bad = true → bitAt (s.rg pTAMP 0x194) n = true → bitAt (s.rg pTAMP 0x184) 9 = false →
      ∃ x, exec (.tampMeshCheck n bad) s = .next x ∧ bitAt (x.rg pTAMP 0x184) 9 = true ∧
        (s.tamp.vin = true → Alarmed s x 512 (s.respOf 9)) ∧
        (s.tamp.vin = false → VbatAlarm s x 9 (fld (s.rg pBKP 0x12C) 8 3)))) ∧
  (∀ (s : State) (v : Word) (beyond : Bool), s.changes = [] → ∃ x, exec (.tampTempSample v beyond) s = .next x ∧
    x.rg pTAMP 0x190 = (if s.tamp.vin then v else s.rg pTAMP 0x190) ∧ bitAt (x.rg pTAMP 0x184) 1 = beyond ∧
    (beyond = false → x = { s with regs := x.regs } ∧ regsBut s x [rkey pTAMP 0x190, rkey pTAMP 0x184]) ∧
    (beyond = true → bitAt (s.rg pTAMP 0x184) 1 = false →
      (s.tamp.vin = true → Alarmed s x 2 (s.respOf 1)) ∧
      (s.tamp.vin = false → VbatAlarm s x 1 (fld (s.rg pBKP 0x12C) 4 3)))) ∧
  (∀ (s : State) (which : Fin 7) (other : Fin 6), s.changes = [] →
    (which.val < 5 → exec (.dualDecisionSecond which true other) s = .next s) ∧
    (which.val < 5 → which ≠ 0 → s.tamp.vin = true → ∃ x, exec (.dualDecisionSecond which false other) s = .next x ∧
      x.rg pTAMP 0x1AC = (if bitAt (s.rg pTAMP 0x1AC) 31 then s.rg pTAMP 0x1AC ||| 0x40000000
        else wd (which.val + 2 ^ 31)) ∧ bitAt (x.rg pBKP 0x100) 26 = true ∧ x.tamp.first = some (2 ^ 26, s.respOf 26) ∧
      (which = 1 → x.lc.state = 4 ∧ x.lc.dualFail = true ∧ x.lc.groups = s.lc.groups) ∧
      (which = 2 → s.booting = true → 5 ≤ s.bootStep → fld (x.rg pRST 0x114) 0 8 = 4 ∧ bitAt (x.rg pRST 0x114) 30 = true) ∧
      (which.val = 3 ∨ which.val = 4 → Alarmed s x (2 ^ 26) (s.respOf 26))) ∧
    (s.tamp.first = none → exec (.dualDecisionSecond 5 false other) s = .next s) ∧
    (∀ m r, s.tamp.first = some (m, r) →
      exec (.dualDecisionSecond 5 true other) s = .next { s with tamp := { s.tamp with first := none } } ∧
      (s.tamp.vin = true → ∃ x, exec (.dualDecisionSecond 5 false other) s = .next x ∧ bitAt (x.rg pBKP 0x100) 26 = true ∧
        (bitAt (s.rg pTAMP 0x1AC) 31 = false → x.rg pTAMP 0x1AC = wd (2 ^ 31 + 5)) ∧
        (r < other.val → x.rg pTAMP 0x18C = wd other.val ∧
          (s.twin.state ≠ 2 → 2 ≤ other.val → other.val ≤ x.tamp.resp)))) ∧
    (∀ agrees, exec (.dualDecisionSecond 6 agrees other) s = exec (.twinSecondDecision agrees) s)) ∧
  (∀ (s u : State) (a : AgentId), CtrlBits s u a pTAMP 0x100 → u.host.queue = [] →
    ∃ x, exec (.tampResume a) s = .next x ∧ ok x a ∧
    x.cores = u.cores ∧ (a.toNat = aMCORE → x.tamp.halted = false ∧
      (u.tamp.halted = true → x.tamp.resp = if u.tamp.resp = 2 then 0 else u.tamp.resp)) ∧
    (a.toNat ≠ aMCORE → x.tamp = u.tamp)) ∧
  (∀ (s : State), s.tamp.halted = true → s.changes = [] →
    (∀ (n : Fin 4) (bad : Bool), exec (.pressDescriptorFetch n) s = .next s ∧ exec (.pressQuantum n bad) s = .next s ∧
      exec (.pressSegmentComplete { unit := n, fault := bad }) s = .next s ∧ exec (.pressContextRestore n) s = .next s) ∧
    (∀ (n : Fin 6) (bad : Bool), exec (.digestDescriptorFetch n) s = .next s ∧
      exec (.digestQuantum n bad) s = .next s ∧
      exec (.digestSegmentComplete { unit := n, fault := bad }) s = .next s) ∧
    exec .binSpill s = .next s ∧ exec .binFill s = .next s ∧ exec .msealInitDone s = .next s ∧
    (∀ data, exec (.hostSqFetch data) s = .next s) ∧ (∀ n bad, exec (.strmFrameEnd n bad) s = .next s)) ∧
  (∀ (s : State), (s.tamp.zeroizing = false → exec .zeroizationDone s = .next s) ∧
    (s.tamp.zeroizing = true → ∃ x, exec .zeroizationDone s = .next x ∧ x.tamp = { s.tamp with zeroizing := false } ∧
      bitAt (x.rg pKEY 0x20) 2 = true ∧ regsBut s x [rkey pKEY 0x20] ∧ x = { s with tamp := x.tamp, regs := x.regs })) ∧
  (∀ (s t : State) (a : AgentId) (src : Fin 32) (v : Word), Writes s t a pTAMP (0x100 + 4 * src) →
    (a.toNat = aMCORE → fld (t.rg pTAMP 0x30) 0 2 = 0 → ∃ x, exec (.tampRespWrite a src v) s = .next x ∧ ok x a ∧
      x.rg pTAMP (0x100 + 4 * src) = wd (if src.val = 28 then 0 else
        max (fld v 0 3) (if src.val = 21 ∨ src.val = 26 then 1 else 0)) ∧ Shadowed x ∧
      regsBut t x [rkey pTAMP (0x100 + 4 * src), rkey pBKP 0x12C, rkey pBKP 0x130] ∧
      x = { t with regs := x.regs, ports := x.ports }) ∧
    (a.toNat = aMCORE → fld (t.rg pTAMP 0x30) 0 2 ≠ 0 → ∃ x, exec (.tampRespWrite a src v) s = .next x ∧
      bitAt (x.rg pTAMP 0x1C) 1 = true ∧ regsBut t x [rkey pTAMP 0x1C]) ∧
    (a.toNat ≠ aMCORE → ∃ x, exec (.tampRespWrite a src v) s = .next x ∧ bitAt (x.rg pTAMP 0x1C) 3 = true ∧
      regsBut t x [rkey pTAMP 0x1C])) ∧
  (∀ (s t : State) (a : AgentId) (v : Word), Writes s t a pTAMP 0x198 → fld (t.rg pTAMP 0x30) 0 2 = 0 →
    ∃ x, exec (.tampLoopCfgWrite a v) s = .next x ∧ ok x a ∧ x.rg pTAMP 0x198 = v &&& 0xFFF ∧ Shadowed x ∧
      regsBut t x [rkey pTAMP 0x198, rkey pBKP 0x12C, rkey pBKP 0x130] ∧ x = { t with regs := x.regs, ports := x.ports }) ∧
  (∀ (s t : State) (a : AgentId) (v : Word), Writes s t a pTAMP 0x1B4 →
    (a.toNat = aMCORE → t.lc.state ≤ 1 → ∃ x, exec (.tampFuseprog a v) s = .next x ∧ ok x a ∧
      x.tamp = { t.tamp with fuseCfg := t.tamp.fuseCfg ||| fld v 0 3 } ∧ x = { t with tamp := x.tamp, ports := x.ports }) ∧
    (a.toNat ≠ aMCORE ∨ 1 < t.lc.state → ∃ x, exec (.tampFuseprog a v) s = .next x ∧ bitAt (x.rg pTAMP 0x1C) 3 = true ∧
      x = { t with regs := x.regs, ports := x.ports })) ∧
  (∀ (s : State) (valid : Bool), s.changes = [] → (s.tamp.vin = false → exec (.bkpPowerUp valid) s = .next s) ∧
    (s.tamp.vin = true → ∃ x, exec (.bkpPowerUp valid) s = .next x ∧ x.tamp.lost = !valid ∧
      (valid = true → (bitAt (s.rg pBKP 0x104) 31 = true → bitAt (x.rg pBKP 0x20) 0 = true) ∧
        x = { s with regs := x.regs, tamp := x.tamp } ∧ regsBut s x [rkey pBKP 0x20]) ∧
      (valid = false → x.rg pBKP 0x100 = 0x4000 ∧ x.rg pBKP 0x104 = 0 ∧ bitAt (x.rg pBKP 0x20) 1 = true ∧
        (s.tamp.epochFuses < 255 → x.tamp.epochFuses = s.tamp.epochFuses + 1 ∧ x.tamp.resetsLow = 0) ∧
        (∀ e ∈ x.key.slots, 32 ≤ e.1) ∧
        (s.twin.state ≠ 2 → Responds { s with key := { s.key with slots := s.key.slots.filter fun e => decide (32 ≤ e.1) }, tamp := { s.tamp with lockdown := false } } x (max s.tamp.fuseCfg (s.respOf 14)))))) ∧
  (∀ (s t : State) (a : AgentId) (v : Word), Writes s t a pBKP 0x100 →
    (a.toNat = aMCORE → ∃ x, exec (.bkpFlagClear a v) s = .next x ∧ ok x a ∧
      (∀ i, i < 32 → bitAt (x.rg pBKP 0x100) i = (bitAt (t.rg pBKP 0x100) i &&
        !(bitAt v i && t.tamp.flagSeen.testBit i && !bitAt (t.rg pTAMP 0x184) i))) ∧
      regsBut t x [rkey pBKP 0x100] ∧ x = { t with regs := x.regs, ports := x.ports }) ∧
    (a.toNat ≠ aMCORE → ∃ x, exec (.bkpFlagClear a v) s = .next x ∧ bitAt (x.rg pBKP 0x1C) 3 = true ∧
      regsBut t x [rkey pBKP 0x1C])) ∧
  (∀ (s : State), (s.tamp.vin = false → exec .vinPowerDown s = .next s) ∧
    (s.tamp.vin = true → s.tamp.twinWait = 0 → ∃ x, exec .vinPowerDown s = .next x ∧ x.tamp.vin = false ∧
      x.rst.asked = 2 ∧ x.pwr.rails = [0, 0, 0, 0, 0, 0] ∧ x.pwr.dramUp = false ∧ x.ddr.mode = 0 ∧
      (∀ n, n < 10 → (x.core n).run = .reset) ∧ (∀ c ∈ x.mem, c.1 < dramBase ∨ dramBase + 0x200000000 ≤ c.1) ∧
      (∀ off, off < 0x1000 → x.rg pBKP off = s.rg pBKP off) ∧ x.key = s.key ∧ x.legal = s.legal ∧ x.tag = s.tag ∧
      x.flash = s.flash ∧ x.lc = s.lc)) ∧
  (∀ (s : State) (toVbat : Bool), exec (.vbatChangeover toVbat) s = .next s)

/-! ### Life cycle, debug port, trace -/

/-- Life cycle and debug (R454–R468). -/
def Obligations.LifeCycleAndDebug : Prop :=
  (∀ (s u : State) (a : AgentId) (v : Word) (target code : Nat), a.toNat = aMCORE → Pairs s u a pLC 0x104 v →
    target = fld v 0 3 →
    code = (if target = 0 ∨ 4 < target ∨ target = u.lc.state then 1
      else if u.lc.partialGrp = true ∧ target ≠ u.lc.state + 1 ∧ target ≠ 4 then 1
      else if target = 4 then 0 else if target ≠ u.lc.state + 1 then 1
      else if target = 1 then (if u.key.root = none then 2 else 0)
      else if target = 3 then (if u.lc.grant.testBit 5 then 0 else 3) else 0) →
    (code ≠ 0 → ∀ stuck, ∃ x, exec (.lcTransition a v (~~~ v) stuck) s = .next x ∧ ok x a ∧
      x.rg pLC 0x10C = wd (code + 2 ^ 31) ∧ x.lc = u.lc ∧ x = { u with regs := x.regs, pairs := x.pairs, ports := x.ports }) ∧
    (code = 0 → ∃ x, exec (.lcTransition a v (~~~ v) none) s = .next x ∧ ok x a ∧ x.rg pLC 0x10C = wd (2 ^ 31) ∧
      x.lc = { u.lc with groups := u.lc.groups.set (target - 1) (u.lc.groups.getD (target - 1) 0 |||
                           [0xA5C3, 0x5A3C, 0x96E1, 0x69D2].getD (target - 1) 0),
                         grant := if u.lc.state = 0 then 0x1F else if u.lc.state = 1 then 0x13 else 0 } ∧
      x.rst.asked = u.rst.asked ||| 4 ∧ (3 ≤ target → Zeroized x ∧ x.tamp.zeroizing = true) ∧ (target < 3 → x.key = u.key)) ∧
    (code = 0 → ∀ stuck : Fin 16, target - 1 < s.lc.groups.length → s.lc.groups.getD (target - 1) 0 = 0 →
      ∃ x, exec (.lcTransition a v (~~~ v) (some stuck)) s = .next x ∧ x.rg pLC 0x10C = wd (2 ^ 31 + 4) ∧
        x.lc.partialGrp = true ∧ x.rst.asked = s.rst.asked ∧
        x.lc.groups = s.lc.groups.set (target - 1) (lowOnes (lcPattern target) stuck))) ∧
  (∀ (s t : State) (a : AgentId) (v : Word), a.toNat ≠ aMCORE → Writes s t a pLC 0x104 →
    ∃ x, exec (.pairedWritePrimary a 0x92 0x104 v) s = .next x ∧ bitAt (x.rg pLC 0x1C) 3 = true ∧
      x = { t with regs := x.regs, ports := x.ports }) ∧
  (∀ (s t : State) (a : AgentId) (v : Word), Writes s t a pLC 0x11C →
    (a.toNat ≠ aMCORE → ∃ x, exec (.lcPkrevokeSet a v) s = .next x ∧ bitAt (x.rg pLC 0x1C) 3 = true ∧ x.lc = t.lc) ∧
    (a.toNat = aMCORE → t.lc.pkRevoke ||| fld v 0 4 = 15 → ∃ x, exec (.lcPkrevokeSet a v) s = .next x ∧
      bitAt (x.rg pLC 0x1C) 1 = true ∧ x.lc = t.lc) ∧
    (a.toNat = aMCORE → t.lc.pkRevoke ||| fld v 0 4 ≠ 15 → ∃ x, exec (.lcPkrevokeSet a v) s = .next x ∧ ok x a ∧
      x.lc = { t.lc with pkRevoke := t.lc.pkRevoke ||| fld v 0 4 } ∧ x = { t with lc := x.lc, ports := x.ports })) ∧
  (∀ (s t : State) (a : AgentId), Writes s t a pDBG 0x104 →
    (a.toNat ≠ aDEBUG → a.toNat ≠ aMCORE → ∃ x, exec (.dbgChallenge a) s = .next x ∧ bitAt (x.rg pDBG 0x1C) 3 = true ∧
      x.lc = t.lc) ∧
    (a.toNat = aDEBUG ∨ a.toNat = aMCORE →
      (t.lc.state = 4 ∨ 16 ≤ t.lc.failed → ∃ x, exec (.dbgChallenge a) s = .next x ∧ ok x a ∧
        x.rg pDBG 0x204 = wd (2 ^ 31 + if t.lc.state = 4 then 6 else 7) ∧ bitAt (x.rg pDBG 0x20) 0 = true ∧
        x = { t with regs := x.regs, ports := x.ports } ∧ regsBut t x [rkey pDBG 0x204, rkey pDBG 0x20]) ∧
      (t.lc.state ≠ 4 → t.lc.failed < 16 → ∃ x b nonce rng, exec (.dbgChallenge a) s = .next x ∧ ok x a ∧
        b = [0x50, 0x43, 1, BitVec.ofNat 8 (t.lc.state + (if t.tamp.lockdown then 8 else 0) + if rng then 16 else 0)] ++
          serialBytes ++ leBytes 4 (t.rg pDBG 0x100).toNat ++ leBytes 4 t.resets ++
          leBytes 4 ((t.rg pDBG 0x148).toNat + 1) ++ nonce ++ leBytes 4 0x01000000 ++ List.replicate 4 0 ∧
        (t.pdOn 23 = false ∨ t.rng.ready = false ∨ t.tamp.lockdown = true → rng = false) ∧
        (rng = false → nonce = List.replicate 32 0) ∧ x.lc.challenge = some (b, (t.rg pDBG 0x100).toNat) ∧
        (∀ i, i < 16 → x.rg pDBG (0x108 + 4 * i) = wd (leAt b (4 * i) 4)) ∧ x.rg pDBG 0x148 = t.rg pDBG 0x148 + 1 ∧
        x.rg pDBG 0x204 = wd (2 ^ 31) ∧ bitAt (x.rg pDBG 0x20) 0 = true))) ∧
  (∀ (s t : State) (a : AgentId), Writes s t a pDBG 0x200 →
    (t.lc.verify ≠ none → ∃ x, exec (.dbgResponse a) s = .next x ∧ x.rg pDBG 0x204 = 0x40000008 ∧ x.lc = t.lc) ∧
    (t.lc.verify = none → ∃ x code scope, exec (.dbgResponse a) s = .next x ∧ ok x a ∧ x.rg pDBG 0x204 = 0x40000000 ∧
      x.lc = { t.lc with challenge := none, verify := some (code, scope) } ∧
      (t.lc.challenge = none → code = 1) ∧
      (∀ ch asked r, t.lc.challenge = some (ch, asked) → r = t.respBytes →
        code = (if r.take 3 ≠ [0x50, 0x52, 1] ∨ (r.drop 12).take 20 ≠ List.replicate 20 0 ∨
              leAt r 8 4 ≠ (t.rg pDBG 0x148).toNat then 2
          else if 3 < leAt r 3 1 ∨ t.lc.pkRevoke.testBit (leAt r 3 1) = true then 3
          else if leAt r 4 4 &&& asked ≠ leAt r 4 4 ∨ 128 ≤ leAt r 4 4 then 4
          else if p384.verify (sha384.hash (ch ++ r.take 32)) (priesk (leAt r 3 1)).1 (priesk (leAt r 3 1)).2
              (beNat ((r.drop 32).take 48)) (beNat (r.drop 80)) then 0 else 5) ∧
        (code = 0 → scope = leAt r 4 4)))) ∧
  (∀ (s : State), (s.lc.verify = none → exec .dbgResponseVerified s = .next s) ∧
    (∀ code scope, s.lc.verify = some (code, scope) → ∃ x, exec .dbgResponseVerified s = .next x ∧
      x.rg pDBG 0x204 = wd (code + 2 ^ 31) ∧ bitAt (x.rg pDBG 0x20) 0 = true ∧
      (code ≠ 0 → x.lc = { s.lc with verify := none, failed := s.lc.failed + 1 } ∧ x = { s with lc := x.lc, regs := x.regs } ∧
        (s.rg pDBG 0x210 ≠ 0xFFFFFFFF → x.rg pDBG 0x210 = s.rg pDBG 0x210 + 1)) ∧
      (code = 0 → x.lc = { s.lc with verify := none, grant := s.lc.grant ||| scope } ∧
        (scope.testBit 6 = true → s.tamp.lockdown = true → x.tamp.lockdown = false ∧ x.rst.asked = s.rst.asked ||| 8) ∧
        (scope.testBit 6 = false ∨ s.tamp.lockdown = false → x = { s with lc := x.lc, regs := x.regs })))) ∧
  (∀ (s t : State) (a : AgentId), Writes s t a pDBG 0x20C →
    (a.toNat = aDEBUG ∨ a.toNat = aMCORE → ∃ x, exec (.dbgRevoke a) s = .next x ∧ ok x a ∧
      x.lc = { t.lc with grant := if t.lc.state = 0 then 0x1F else if t.lc.state = 1 then 0x13 else 0 } ∧
      x = { t with lc := x.lc, ports := x.ports }) ∧
    (a.toNat ≠ aDEBUG → a.toNat ≠ aMCORE → ∃ x, exec (.dbgRevoke a) s = .next x ∧ bitAt (x.rg pDBG 0x1C) 3 = true ∧
      x.lc = t.lc)) ∧
  (∀ (s t : State) (a : AgentId) (v : Word) (covers : Nat → Bool), Writes s t a pDBG 0x300 →
    (∀ n, covers n = (t.lc.grant.testBit 0 && (t.lc.grant.testBit 3 ||
      (decide (n < 8) && !(bitAt (t.rg pSYS 0x100) 31 && bitAt (t.rg pSYS 0x100) n))))) →
    ∃ x, exec (.dbgHaltReq a v) s = .next x ∧ ok x a ∧
      (∀ n, n < 10 → bitAt (x.rg pDBG 0x300) n = (bitAt v n && covers n)) ∧
      ((∃ n, n < 10 ∧ bitAt v n = true ∧ covers n = false) → bitAt (x.rg pDBG 0x1C) 16 = true) ∧
      ((∀ n, n < 10 → bitAt v n = true → covers n = true) → regsBut t x [rkey pDBG 0x300]) ∧
      x = { t with regs := x.regs, ports := x.ports }) ∧
  (∀ (s : State) (n : Fin 10),
    (bitAt (s.rg pDBG 0x300) n = true → (s.core n).dbgHalt = false → awake s n = true → (s.core n).closed = false →
      ∃ x, exec (.dbgHaltTaken n) s = .next x ∧ x.core n = { s.core n with dbgHalt := true } ∧
        (∀ k, k ≠ n.val → x.core k = s.core k) ∧ bitAt (x.rg pDBG 0x20) 1 = true ∧
        x = { s with cores := x.cores, regs := x.regs }) ∧
    (bitAt (s.rg pDBG 0x300) n = false ∨ (s.core n).dbgHalt = true ∨ awake s n = false ∨ (s.core n).closed = true →
      exec (.dbgHaltTaken n) s = .next s)) ∧
  (∀ (s t : State) (a : AgentId) (v : Word), Writes s t a pDBG 0x308 →
    ∃ x, exec (.dbgStep a v) s = .next x ∧ ok x a ∧ x = { t with cores := x.cores, ports := x.ports } ∧
      ∀ n, x.core n = if n < 10 ∧ bitAt v n = true ∧ (t.core n).dbgHalt = true then { t.core n with dbgStep := true }
        else t.core n) ∧
  (∀ (s t : State) (a : AgentId) (v : Word), Writes s t a pDBG 0x30C →
    ∃ x, exec (.dbgResume a v) s = .next x ∧ ok x a ∧ regsBut t x [rkey pDBG 0x300] ∧
      (∀ n, x.core n = if n < 10 ∧ bitAt v n = true then { t.core n with dbgHalt := false, dbgStep := false } else t.core n) ∧
      (∀ n, n < 10 → bitAt (x.rg pDBG 0x300) n = (bitAt (t.rg pDBG 0x300) n && !bitAt v n)) ∧
      x = { t with cores := x.cores, regs := x.regs, ports := x.ports }) ∧
  (∀ (s t : State) (a : AgentId) (v : Word) (n r : Nat), n = fld (t.rg pDBG 0x310) 0 4 → r = fld (t.rg pDBG 0x310) 8 6 →
    Writes s t a pDBG 0x314 →
    ((t.core n).dbgHalt = false ∨ 40 ≤ r → ∃ x, exec (.dbgCdataAccess a true v) s = .next x ∧
      bitAt (x.rg pDBG 0x1C) 17 = true ∧ x = { t with regs := x.regs, ports := x.ports } ∧ regsBut t x [rkey pDBG 0x1C]) ∧
    ((t.core n).dbgHalt = true → r < 40 → ∃ x, exec (.dbgCdataAccess a true v) s = .next x ∧ ok x a ∧
      x = { t with cores := x.cores, ports := x.ports } ∧ (∀ k, k ≠ n → x.core k = t.core k) ∧
      (1 ≤ r → r < 32 → (x.core n).gr r = v) ∧ (r = 0 → x.core n = t.core n) ∧
      (r = 32 → x.core n = { t.core n with pc := v &&& 0xFFFFFFFC }) ∧
      (r = 33 → x.core n = { t.core n with c := bitAt v 0, v := bitAt v 1 }) ∧
      (r = 34 → x.core n = { t.core n with lstart0 := v }) ∧ (r = 35 → x.core n = { t.core n with lend0 := v }) ∧
      (r = 36 → x.core n = { t.core n with lcount0 := v }) ∧ (r = 37 → x.core n = { t.core n with lstart1 := v }) ∧
      (r = 38 → x.core n = { t.core n with lend1 := v }) ∧ (r = 39 → x.core n = { t.core n with lcount1 := v }))) ∧
  (∀ (s t : State) (a : AgentId) (v : Word) (n r : Nat), n = fld (t.rg pDBG 0x310) 0 4 → r = fld (t.rg pDBG 0x310) 8 6 →
    Reads s t a pDBG 0x314 →
    ((t.core n).dbgHalt = true → ∃ x, exec (.dbgCdataAccess a false v) s = .next x ∧ ok x a ∧
      x = { t with ports := x.ports } ∧ (r < 32 → (x.port a.toNat).data = ((t.core n).gr r).toNat) ∧
      (r = 32 → (x.port a.toNat).data = (t.core n).pc.toNat) ∧
      (40 ≤ r → r < 48 → (x.port a.toNat).data = (wd (tget {} (t.core n).segs (r - 40)).sel).toNat)) ∧
    ((t.core n).dbgHalt = false → ∃ x, exec (.dbgCdataAccess a false v) s = .next x ∧
      bitAt (x.rg pDBG 0x1C) 17 = true ∧ x = { t with regs := x.regs, ports := x.ports })) ∧
  (∀ (s : State), (∀ drop, s.traceQ = [] → exec (.traceRecord drop) s = .next s) ∧
    (∀ n k tgt cy r, s.traceQ = (n, k, tgt, cy) :: r →
      (∃ x, exec (.traceRecord true) s = .next x ∧ x.traceQ = r ∧ x.traceLost = true ∧
        (s.rg pTRACE 0x110 ≠ 0xFFFFFFFF → x.rg pTRACE 0x110 = s.rg pTRACE 0x110 + 1) ∧
        x = { s with traceQ := r, traceLost := true, regs := x.regs }) ∧
      (s.traceLost = false → bitAt (s.rg pTRACE 0x100) n = false →
        exec (.traceRecord false) s = .next { s with traceQ := r }) ∧
      (s.traceLost = false → bitAt (s.rg pTRACE 0x100) n = true → ∀ base size w y, base = fld (s.rg pTRACE 0x104) 12 20 * 0x1000 +
          fld (s.rg pTRACE 0x108) 0 8 * 2 ^ 32 → size = 2 ^ fld (s.rg pTRACE 0x100) 16 5 → w = (s.rg pTRACE 0x10C).toNat % size →
        y = ({ s with traceQ := r } : State).engWrite1 aDEBUG (base + w)
          (leBytes 4 (tgt.toNat / 4 * 4 + k) ++ leBytes 4 (n + cy % 2 ^ 24 * 256)) →
        (y.fault = .none → exec (.traceRecord false) s = .next (y.st.setRg pTRACE 0x10C (wd ((w + 8) % size)))) ∧
        (y.fault ≠ .none → y.st.held = s.held → ∃ x, exec (.traceRecord false) s = .next x ∧ fld (x.rg pTRACE 0x100) 0 10 = 0 ∧
          bitAt (x.rg pTRACE 0x1C) 16 = true))))

/-! ### Resets, watchdog, boot ROM -/

/-- Resets and start-up (R451, R469–R475, R512). -/
def Obligations.ResetsAndStart : Prop :=
  (∀ (s : State) (stuck : Bool), s.changes = [] → s.rst.asked % 16 = 0 ∨ s.tamp.vin = false →
    exec (.coldReset stuck) s = .next s) ∧
  (∀ (s : State) (stuck : Bool), s.tamp.vin = true → s.rst.asked % 16 ≠ 0 → s.rg pTAMP 0x184 = 0 →
    s.tamp.lockdown = false → s.tamp.resetsEnd = false → s.tamp.resetsLow + 1 < 2 ^ 24 → s.rst.nrstLow = false →
    ∃ x, exec (.coldReset stuck) s = .next x ∧ x.rg pRST 0x100 = wd (s.rst.asked % 1024) ∧ x.rst.asked = 0 ∧
      x.core 9 = coreReset 9 ∧ (∀ n, n < 9 → (x.core n).run = .reset) ∧ x.resets = s.resets + 1 ∧
      x.rg pSYS 0x100 = 0 ∧ x.rg pSYS 0x108 = 0 ∧ (∀ g, g < 24 → x.rg (pGATE g) 0x100 = 0) ∧
      (∀ e ∈ x.key.slots, e.1 < 32) ∧ (∀ b, (x.binRec b).st = .free) ∧ (∀ u, (x.unit u).ctxs = []) ∧
      x.snaps = [] ∧ x.now = 0 ∧ x.pwr.on = State.reset.pwr.on ∧ x.legal = s.legal ∧
      x.lc.grant = (if x.lc.state = 0 then 0x1F else if x.lc.state = 1 then 0x13 else 0) ∧
      (x.lc.state ≠ 0 → x.rg pBKP 0x100 = s.rg pBKP 0x100 ∧ x.rg pBKP 0x104 = s.rg pBKP 0x104 ∧ x.tamp.log = s.tamp.log) ∧
      (x.lc.state = 0 → x.rg pBKP 0x100 = 0 ∧ x.rg pBKP 0x104 = 0 ∧ x.tamp.log = []) ∧
      (∀ k, k ≤ 4 → s.lc.groups = (List.range 4).map (fun i =>
          if i < k then [0xA5C3, 0x5A3C, 0x96E1, 0x69D2].getD i 0 else 0) →
        x.lc.state = k ∧ x.lc.invalid = false ∧ x.lc.partialGrp = false ∧ x.lc.groups = s.lc.groups) ∧
      (s.lc.groups.getD 3 0 = 0 → (∃ i, i < 3 ∧ s.lc.groups.getD i 0 &&& [0xA5C3, 0x5A3C, 0x96E1].getD i 0 ≠
          s.lc.groups.getD i 0) → x.lc.state = 4 ∧ x.lc.invalid = true ∧ x.lc.groups = s.lc.groups) ∧
      (∀ g, g ≠ 0 → g ≠ 0x5A3C → g &&& 0x5A3C = g → s.lc.groups = [0xA5C3, g, 0, 0] →
        (stuck = false → x.lc.state = 2 ∧ x.lc.groups = [0xA5C3, 0x5A3C, 0, 0] ∧ x.lc.partialGrp = false) ∧
        (stuck = true → x.lc.state = 1 ∧ x.lc.groups = s.lc.groups ∧ x.lc.partialGrp = true ∧
          x.rg pLC 0x10C = 0x80000004))) ∧
  (∀ (s : State), s.changes = [] → s.rst.asked / 16 % 32 = 0 ∨ s.rst.asked % 16 ≠ 0 ∨ s.tamp.vin = false ∨
    s.tamp.zeroizing = true → exec .warmReset s = .next s) ∧
  (∀ (s : State), s.tamp.vin = true → s.rst.asked % 16 = 0 → s.rst.asked / 16 % 32 ≠ 0 → s.tamp.zeroizing = false →
    s.rg pTAMP 0x184 = 0 → s.tamp.lockdown = false → s.tamp.resetsEnd = false → s.tamp.resetsLow + 1 < 2 ^ 24 →
    s.rst.nrstLow = false →
    ∃ x, exec .warmReset s = .next x ∧ x.rg pRST 0x100 = wd (s.rst.asked % 1024) ∧ x.rst.asked = 0 ∧
      x.core 9 = coreReset 9 ∧ (∀ n, n < 9 → (x.core n).run = .reset) ∧ x.resets = s.resets + 1 ∧
      x.rg pSYS 0x100 = s.rg pSYS 0x100 ∧ x.rg pSYS 0x108 = s.rg pSYS 0x108 ∧
      (∀ g off, g < 24 → 0x200 ≤ off → off ≤ 0x5FC → off % 4 = 0 → x.rg (pGATE g) off = s.rg (pGATE g) off) ∧
      (∀ g, g < 24 → x.rg (pGATE g) 0x100 = s.rg (pGATE g) 0x100) ∧
      (∀ e ∈ x.key.slots, e.1 < 32) ∧ (∀ b, (x.binRec b).st = .free) ∧ (∀ u, (x.unit u).ctxs = []) ∧
      x.snaps = s.snaps ∧ x.now = s.now ∧ x.lc.groups = s.lc.groups ∧ x.lc.state = s.lc.state ∧
      x.lc.grant = (if s.lc.state = 0 then 0x1F else if s.lc.state = 1 then 0x13 else 0) ∧ x.tamp.halted = false) ∧
  (∀ (s : State), s.changes = [] → s.rst.asked.testBit 9 = false ∨ s.rst.asked % 512 ≠ 0 ∨ s.tamp.vin = false ∨
    s.tamp.zeroizing = true → exec .tamperReset s = .next s) ∧
  (∀ (s : State), s.tamp.vin = true → s.rst.asked % 512 = 0 → s.rst.asked.testBit 9 = true → s.tamp.zeroizing = false →
    s.rg pTAMP 0x184 = 0 → s.tamp.lockdown = false → s.rst.nrstLow = false →
    (∀ d on, s.pwr.switching = some (d, on) → d ≠ 0) →
    ∃ x, exec .tamperReset s = .next x ∧ x.rg pRST 0x100 = wd (s.rst.asked % 1024) ∧ x.rst.asked = 0 ∧
      x.core 9 = coreReset 9 ∧ (∀ n, n < 9 → (x.core n).run = .reset) ∧ x.resets = s.resets ∧
      x.rg pSYS 0x100 = s.rg pSYS 0x100 ∧ x.rg pSYS 0x108 = s.rg pSYS 0x108 ∧
      (∀ n k, tfind s.key.slots n = some k → (∀ e ∈ s.key.slots, e.1 = n → e.2.inst = 0x7F) → tfind x.key.slots n = some k) ∧
      (∀ e ∈ s.key.slots, e.1 ≤ 1015 → e.2.inst ≠ 0x7F → tfind x.key.slots e.1 = none) ∧
      (∀ b, (x.binRec b).st = .free) ∧ (∀ u, (x.unit u).ctxs = []) ∧
      (∀ off ∈ [0x10, 0x100, 0x10C], x.rg pWDOG off = s.rg pWDOG off) ∧ x.rst.wdogCount = s.rst.wdogCount ∧
      (s.pwr.switching = none → x.pwr.on = s.pwr.on) ∧ x.snaps = s.snaps ∧ x.lc.groups = s.lc.groups ∧
      x.lc.grant = (if s.lc.state = 0 then 0x1F else if s.lc.state = 1 then 0x13 else 0) ∧ x.tamp.halted = false) ∧
  (∀ (s : State), (s.rst.asked.testBit 16 = false ∨ s.tamp.vin = false → exec .escalationReset s = .next s) ∧
    (s.rst.asked.testBit 16 = true → s.tamp.vin = true → ∃ x, exec .escalationReset s = .next x ∧
      (∀ n, n < 9 → (x.core n).run = .reset ∧ x.rg (pCORE n) 0x10 = 0) ∧ x.core 9 = s.core 9 ∧
      x.rst = { s.rst with asked := s.rst.asked % 2 ^ 16 } ∧ x.snapPend = s.snapPend ∧
      (s.rg pRST 0x124 ≠ 0xFFFFFFFF → x.rg pRST 0x124 = s.rg pRST 0x124 + 1) ∧
      x.lc = { s.lc with grant := if s.lc.state = 0 then 0x1F else if s.lc.state = 1 then 0x13 else 0 } ∧
      x = { s with cores := x.cores, staves := x.staves, flights := x.flights, regs := x.regs, lc := x.lc, rst := x.rst })) ∧
  (∀ (s : State), exec .nrstAssert s = .next { s with rst := { s.rst with nrstLow := true, asked := s.rst.asked ||| 16 } }) ∧
  (∀ (s : State), ∃ x, exec .nrstRelease s = .next x ∧ x.rst = { s.rst with nrstLow := false } ∧
    x = { s with rst := x.rst, cores := x.cores } ∧
    (s.rst.nrstLow = true → s.tamp.vin = true → (s.core 9).run = .reset → s.tamp.lockdown = false →
      x.core 9 = coreReset 9 ∧ ∀ n, n ≠ 9 → x.core n = s.core n) ∧
    (s.rst.nrstLow = false ∨ s.tamp.vin = false ∨ (s.core 9).run ≠ .reset → x.cores = s.cores)) ∧
  (∀ (s u : State) (a : AgentId) (v : Word), Pairs s u a pRST 0x104 v →
    a.toNat = aMCORE ∨ (a.toNat = aDEBUG ∧ u.lc.grant.testBit 1 = true ∧ u.lc.grant.testBit 3 = true) →
    ∃ x, exec (.rstSwrst a v (~~~ v)) s = .next x ∧ ok x a ∧
      x.rst = { u.rst with asked := if bitAt v 0 then u.rst.asked ||| 64 else u.rst.asked } ∧
      x = { u with rst := x.rst, pairs := x.pairs, ports := x.ports }) ∧
  (∀ (s u : State) (a : AgentId) (v : Word), a.toNat = aMCORE → Pairs s u a pRST 0x10C v →
    ∃ x, exec (.rstEscrst a v (~~~ v)) s = .next x ∧ ok x a ∧
      x.rst = { u.rst with asked := if bitAt v 0 then u.rst.asked ||| 65536 else u.rst.asked } ∧
      x = { u with rst := x.rst, pairs := x.pairs, ports := x.ports }) ∧
  (∀ (s t : State) (a : AgentId) (v : Word) (off : Fin 4096), off = 0x104 ∨ off = 0x10C → Writes s t a pRST off →
    a.toNat ≠ aMCORE → (a.toNat ≠ aDEBUG ∨ off = 0x10C ∨ t.lc.grant.testBit 1 = false ∨ t.lc.grant.testBit 3 = false) →
    ∃ x, exec (.pairedWritePrimary a 0x03 off v) s = .next x ∧ bitAt (x.rg pRST 0x1C) 3 = true ∧
      x = { t with regs := x.regs, ports := x.ports }) ∧
  (∀ (s u : State) (a : AgentId), CtrlBits s u a pWDOG 1 → ∃ x, exec (.wdogEnable a) s = .next x ∧ ok x a ∧
    x.en pWDOG = true ∧ (u.en pWDOG = true → x.rst = u.rst) ∧
    (u.en pWDOG = false → x.rst = { u.rst with wdogCount := max 1 (fld (u.rg pWDOG 0x100) 0 16) }) ∧
    regsBut u x [rkey pWDOG 0x10]) ∧
  (∀ (s t : State) (a : AgentId) (v : Word), Writes s t a pWDOG 0x104 →
    (v = 0x4B49 → ∃ x, exec (.wdogKick a v) s = .next x ∧ ok x a ∧
      x.rst = { t.rst with wdogCount := if t.en pWDOG then max 1 (fld (t.rg pWDOG 0x100) 0 16) else t.rst.wdogCount } ∧
      x = { t with rst := x.rst, ports := x.ports }) ∧
    (v ≠ 0x4B49 → ∃ x, exec (.wdogKick a v) s = .next x ∧ bitAt (x.rg pWDOG 0x1C) 16 = true ∧
      regsBut t x [rkey pWDOG 0x1C] ∧ x = { t with regs := x.regs, ports := x.ports })) ∧
  (∀ (s : State) (w : Nat), w = fld (s.rg pWDOG 0x10C) 0 16 →
    (s.en pWDOG = true → w ≠ 0 → w < s.rst.wdogCount → ∃ x, exec .wdogWarn s = .next x ∧
      x.rst = { s.rst with wdogCount := w } ∧ bitAt (x.rg pWDOG 0x20) 0 = true ∧ x = { s with rst := x.rst, regs := x.regs }) ∧
    (s.en pWDOG = false ∨ w = 0 ∨ s.rst.wdogCount ≤ w → exec .wdogWarn s = .next s)) ∧
  (∀ (s : State), (s.en pWDOG = false → exec .wdogExpiry s = .next s) ∧
    (s.en pWDOG = true → exec .wdogExpiry s = .next { s with rst := { s.rst with wdogCount := 0, asked := s.rst.asked ||| 32 } })) ∧
  (∀ (s : State) (giveUp agree : Bool), s.changes = [] → (s.booting = false → exec (.bootSequence giveUp agree) s = .next s) ∧
    (s.booting = true → ∃ x, exec (.bootSequence giveUp agree) s = .next x ∧
      (∀ code, (s.bootStep ≤ 1 ∧ s.lc.state = 4 ∧ code = 9) ∨
          (s.bootStep = 2 ∧ s.tamperStart = false ∧ s.onBits.testBit 23 = true ∧ s.rng.ready = false ∧
            s.rng.fault = true ∧ code = 1) ∨
          (s.bootStep = 3 ∧ s.tamperStart = false ∧ s.key.classReady = false ∧ giveUp = true ∧ code = 2) ∨
          (s.bootStep = 4 ∧ s.tamperStart = false ∧ bitAt (s.rg pSRAM 0x1C) 17 = true ∧ code = 2) →
        fld (x.rg pRST 0x114) 0 8 = code ∧ bitAt (x.rg pRST 0x114) 30 = true ∧ bitAt (x.rg pRST 0x114) 31 = false ∧
        x.rg pRST 0x11C = wd (min 3 (fld (s.rg pRST 0x11C) 0 2 + 1)) ∧ (x.core 9).run = .wait ∧
        (∀ n, n ≠ 9 → x.core n = s.core n) ∧
        x.rst.bootWait = decide (min 3 (fld (s.rg pRST 0x11C) 0 2 + 1) < fld (s.rg pRST 0x120) 0 2)) ∧
      (s.bootStep = 3 → s.tamperStart = false → s.key.classReady = false → giveUp = false → x = s) ∧
      (s.bootStep = 4 → s.tamperStart = true →
        s.rng.fault = true ∨ s.key.classReady = false ∨ s.sramKeyed = false ∨ s.mseal.broken = true →
        x = { s with rst := { s.rst with asked := s.rst.asked ||| 128 } }) ∧
      (12 ≤ s.bootStep → bitAt (x.rg pRST 0x114) 31 = true ∧ x.rg pRST 0x11C = 0 ∧ (x.core 9).segs = stageSegs ∧
        x.rg (pCORE 9) 0x108 = 8))) ∧
  (∀ (s : State), (s.rst.bootWait = false → exec .bootRetry s = .next s) ∧
    (s.rst.bootWait = true →
      exec .bootRetry s = .next { s with rst := { s.rst with bootWait := false, asked := s.rst.asked ||| 64 } }))

/-! ### Supplies, domains, clocks -/

/-- Power and clocks (R436, R476–R493). -/
def Obligations.PowerAndClocks : Prop :=
  (∀ (s : State) (lost : Bool), (s.tamp.vin = true → exec (.powerUp lost) s = .next s) ∧
    (s.tamp.vin = false → exec (.powerUp lost) s = .next { s with
      tamp := { s.tamp with vin := true }, rst := { s.rst with asked := if lost then 1 else 2 }, pwr := { s.pwr with rails := [2, 2, 0, 0, 2, 0], pllLocked := 3, pllLost := 0, refOk := 7 } })) ∧
  (∀ (s : State), (s.tamp.vin = true → exec .powerUpRetry s = .next s) ∧
    (s.tamp.vin = false →
      exec .powerUpRetry s = .next { s with pwr := { s.pwr with rails := [0, 0, 0, 0, 0, 0], pllLocked := 0 } })) ∧
  (∀ (s : State) (k : Fin 6), s.changes = [] → (s.tamp.vin = false → exec (.railFault k) s = .next s) ∧
    (s.tamp.vin = true → ∃ x, exec (.railFault k) s = .next x ∧ x.pwr = { s.pwr with rails := s.pwr.rails.set k 3 } ∧
      bitAt (x.rg pTAMP 0x184) 4 = true ∧
      (bitAt (s.rg pTAMP 0x184) 4 = true → x = { s with pwr := x.pwr }) ∧
      (bitAt (s.rg pTAMP 0x184) 4 = false → Alarmed s x 16 (s.respOf 4)))) ∧
  (∀ (s : State) (k : Fin 5), (s.tamp.vin = false → exec (.powerFault k) s = .next s) ∧
    (s.tamp.vin = true → exec (.powerFault k) s = exec .vinPowerDown { s with pwr := { s.pwr with rails := s.pwr.rails.set k 3 } } ∧
      (s.tamp.twinWait = 0 → ∃ x, exec (.powerFault k) s = .next x ∧ x.tamp.vin = false ∧ x.rst.asked = 2 ∧
        x.pwr.rails = [0, 0, 0, 0, 0, 0]))) ∧
  (∀ (s t : State) (a : AgentId) (d : Fin 64) (on : Bool) (row : Instr), row = (if on then .pwrDomainOn a d else .pwrDomainOff a d) →
    Writes s t a pPWR 0x108 →
    (a.toNat ≠ aMCORE → ∃ x, exec row s = .next x ∧ bitAt (x.rg pPWR 0x1C) 3 = true ∧
      x = { t with regs := x.regs, ports := x.ports }) ∧
    (a.toNat = aMCORE → t.pwr.switching ≠ none → ∃ x, exec row s = .next x ∧ bitAt (x.rg pPWR 0x1C) 16 = true ∧
      x = { t with regs := x.regs, ports := x.ports }) ∧
    (a.toNat = aMCORE → t.pwr.switching = none → ∀ code, code = (if 55 < d.val then some 4
        else if t.onBits.testBit d = on then some 0
        else if d.val ∈ [0, 1, 2, 11, 12, 30, 48, 52] ∨ (d = 23 ∧ on = false) then some 1
        else if (if on then (pdNeeds d).any (fun e => !t.pdOn e)
            else (List.range 56).any (fun e => pdNeeds e == some d.val && t.onBits.testBit e)) then some 3
        else if on = false ∧ t.pdMayStop d = false then some 2 else none) →
      (∀ c, code = some c → c ≠ 0 → ∃ x, exec row s = .next x ∧ ok x a ∧
        x.rg pPWR 0x10C = wd (c + 256 * d.val + 2 ^ 31) ∧ bitAt (x.rg pPWR 0x20) 1 = true ∧
        (t.rg pPWR 0x11C ≠ 0xFFFFFFFF → x.rg pPWR 0x11C = t.rg pPWR 0x11C + 1) ∧
        x = { t with regs := x.regs, ports := x.ports }) ∧
      (code = some 0 → ∃ x, exec row s = .next x ∧ ok x a ∧ x.rg pPWR 0x10C = wd (256 * d.val + 2 ^ 31) ∧
        bitAt (x.rg pPWR 0x20) 0 = true ∧ x = { t with regs := x.regs, ports := x.ports }) ∧
      (code = none → ∃ x, exec row s = .next x ∧ ok x a ∧ x.rg pPWR 0x10C = wd (256 * d.val + 2 ^ 30) ∧
        x.pwr = { t.pwr with switching := some (d.val, on) } ∧ regsBut t x [rkey pPWR 0x10C] ∧
        x = { t with pwr := x.pwr, regs := x.regs, ports := x.ports }))) ∧
  (∀ (s : State), (s.pwr.switching = none → exec .pwrSwitchDone s = .next s) ∧
    (∀ d on, s.pwr.switching = some (d, on) → d < 56 →
      (on = false → (∃ f ∈ s.flights, addrDomain f.addr = some d) → exec .pwrSwitchDone s = .next s) ∧
      (on = true ∨ (∀ f ∈ s.flights, addrDomain f.addr ≠ some d) → s.pwrDone.held = s.held → ∃ x, exec .pwrSwitchDone s = .next x ∧
        x.pwr.switching = none ∧ x.pwr.on.testBit d = on ∧
        (∀ e, e < 56 → e ≠ d → x.pwr.on.testBit e = s.pwr.on.testBit e) ∧
        x.rg pPWR 0x10C = wd (256 * d + 2 ^ 31) ∧ bitAt (x.rg pPWR 0x20) 0 = true ∧
        (3 ≤ d → d ≤ 10 → (x.core (d - 3)).run = .reset) ∧ (d = 22 → x.unit 8 = {} ∧ x.unit 9 = {})))) ∧
  (∀ (s u : State) (a : AgentId) (on : Bool), a.toNat = aMCORE → Pairs s u a pPWR 0x120 (putBitW (s.rg pPWR 0x120) 0 on) →
    ∃ x, exec (.pwrRailctlBst a on) s = .next x ∧ ok x a ∧
      (bitAt (u.rg pPWR 0x120) 0 = on → x = { u with pairs := x.pairs, ports := x.ports }) ∧
      (bitAt (u.rg pPWR 0x120) 0 = true → on = false →
        (∃ e ∈ u.rdrs, e.2.level ≠ 0) ∨ (∃ e ∈ u.cards, e.2.cls = 1) →
        bitAt (x.rg pPWR 0x1C) 18 = true ∧ regsBut u x [rkey pPWR 0x1C] ∧ x.pwr = u.pwr) ∧
      (bitAt (u.rg pPWR 0x120) 0 = !on → on = true ∨ ((∀ e ∈ u.rdrs, e.2.level = 0) ∧ (∀ e ∈ u.cards, e.2.cls ≠ 1)) →
        bitAt (x.rg pPWR 0x120) 0 = on ∧ x.pwr = { u.pwr with rails := u.pwr.rails.set 5 (if on then 2 else 0) } ∧
        regsBut u x [rkey pPWR 0x120])) ∧
  (∀ (s u : State) (a : AgentId), a.toNat = aMCORE → Pairs s u a pPWR 0x120 (putBitW (s.rg pPWR 0x120) 1 true) →
    bitAt (u.rg pPWR 0x120) 1 = false → u.pwr.dramUp = false → u.pwr.dramBusy = false →
    ∃ x, exec (.pwrDramRailsUp a) s = .next x ∧ ok x a ∧
      (u.pdOn 32 = true → u.pdOn 33 = true → bitAt (x.rg pPWR 0x120) 1 = true ∧ regsBut u x [rkey pPWR 0x120] ∧
        x.pwr = { u.pwr with dramBusy := true, rails := u.pwr.rails.set 2 1 }) ∧
      (u.pdOn 32 = false ∨ u.pdOn 33 = false → bitAt (x.rg pPWR 0x1C) 17 = true ∧ regsBut u x [rkey pPWR 0x1C] ∧
        x.pwr = u.pwr)) ∧
  (∀ (s t : State) (a : AgentId) (v : Word), a.toNat ≠ aMCORE → Writes s t a pPWR 0x120 →
    ∃ x, exec (.pairedWritePrimary a 0x01 0x120 v) s = .next x ∧ bitAt (x.rg pPWR 0x1C) 3 = true ∧
      x = { t with regs := x.regs, ports := x.ports }) ∧
  (∀ (s : State), (s.pwr.dramBusy = false → exec .pwrDramRailsReady s = .next s) ∧
    (s.pwr.dramBusy = true → ∃ x, exec .pwrDramRailsReady s = .next x ∧ bitAt (x.rg pPWR 0x20) 2 = true ∧
      x.pwr = { s.pwr with dramUp := true, dramBusy := false, rails := (s.pwr.rails.set 2 2).set 3 2 } ∧
      x = { s with pwr := x.pwr, regs := x.regs })) ∧
  (∀ (s u : State) (a : AgentId), a.toNat = aMCORE → Pairs s u a pPWR 0x120 (putBitW (s.rg pPWR 0x120) 1 false) →
    bitAt (u.rg pPWR 0x120) 1 = true → u.pwr.dramUp = true ∨ u.pwr.dramBusy = true →
    ∃ x, exec (.pwrDramRailsDown a) s = .next x ∧ ok x a ∧
      (u.ddr.mode ≠ 0 → u.ddr.mode ≠ 3 → bitAt (x.rg pPWR 0x1C) 17 = true ∧ regsBut u x [rkey pPWR 0x1C] ∧
        x.pwr = u.pwr ∧ x.mem = u.mem ∧ x.ddr = u.ddr) ∧
      (u.ddr.mode = 0 ∨ u.ddr.mode = 3 → bitAt (x.rg pPWR 0x120) 1 = false ∧ bitAt (x.rg pPWR 0x20) 2 = true ∧
        x.pwr = { u.pwr with dramUp := false, dramBusy := false, rails := (u.pwr.rails.set 2 0).set 3 0 } ∧
        (∀ c, c ∈ x.mem ↔ c ∈ u.mem ∧ (c.1 < dramBase ∨ dramBase + 0x200000000 ≤ c.1)) ∧
        x.ddr.mode = 0 ∧ x.ddr.trained = false)) ∧
  (∀ (s : State) (mV : BitVec 12), ∃ x, exec (.pwrVinAverage mV) s = .next x ∧ x.rg pPWR 0x114 = wd mV.toNat ∧
    regsBut s x [rkey pPWR 0x114] ∧ x = { s with regs := x.regs }) ∧
  (∀ (s : State) (bank : Fin 2) (level : Fin 4), ∃ x, exec (.vioSense bank level) s = .next x ∧ x = { s with pwr := x.pwr } ∧
    x.pwr = { s.pwr with vio := x.pwr.vio } ∧
    (bank = 0 → x.pwr.vio % 4 = level ∧ x.pwr.vio / 4 = s.pwr.vio / 4) ∧
    (bank = 1 → x.pwr.vio / 256 = level ∧ x.pwr.vio % 256 = s.pwr.vio % 256)) ∧
  (∀ (s t : State) (a : AgentId) (v : Word), Writes s t a pCLK 0x100 → bitAt (t.rg pCLK 0x30) 0 = false →
    (a.toNat ≠ aMCORE → ∃ x, exec (.clkCoresel a v) s = .next x ∧ bitAt (x.rg pCLK 0x1C) 3 = true ∧
      x = { t with regs := x.regs, ports := x.ports } ∧ regsBut t x [rkey pCLK 0x1C]) ∧
    (a.toNat = aMCORE → ∃ x, exec (.clkCoresel a v) s = .next x ∧ ok x a ∧ x.rg pCLK 0x100 = v &&& 3 ∧
      x.pwr = { t.pwr with coreSwitching := t.pwr.coreSwitching || t.rg pCLK 0x100 != v &&& 3 } ∧
      regsBut t x [rkey pCLK 0x100] ∧ x = { t with regs := x.regs, pwr := x.pwr, ports := x.ports })) ∧
  (∀ (s : State), exec .clkCoreSwitchDone s = .next { s with pwr := { s.pwr with coreSwitching := false } }) ∧
  (∀ (s : State) (k : Fin 5), s.changes = [] → (s.pwr.pllLocked.testBit k = false → exec (.pllLockLoss k) s = .next s) ∧
    (s.pwr.pllLocked.testBit k = true → ((s.pllLoss k).settle).held = s.held → ∃ x, exec (.pllLockLoss k) s = .next x ∧
      x.pwr.pllLocked.testBit k = false ∧ x.pwr.pllLost.testBit k = true ∧ bitAt (x.rg pCLK 0x20) 0 = true ∧
      (k.val < 2 → s.tamp.vin = true → bitAt (s.rg pTAMP 0x184) 6 = false →
        bitAt (x.rg pTAMP 0x184) 6 = true ∧ Alarmed s x 64 (s.respOf 6)) ∧
      (2 ≤ k.val → s.rg pCLK 0x10C ≠ 0xFFFFFFFF → x.rg pCLK 0x10C = s.rg pCLK 0x10C + 1) ∧
      (k = 2 → x = { s with pwr := x.pwr, regs := x.regs }) ∧
      (k = 3 → (∀ n, n < 4 → (x.card n).run = none) ∧ (s.sdc.wait = none → x.sdc.run = none)) ∧
      (k = 4 → x.strm.up = false))) ∧
  (∀ (s : State) (k : Fin 5), (s.pwr.pllLost.testBit k = false → exec (.pllLockReturn k) s = .next s) ∧
    (s.pwr.pllLost.testBit k = true → ∃ x, exec (.pllLockReturn k) s = .next x ∧
      x.pwr.pllLocked.testBit k = true ∧ x.pwr.pllLost.testBit k = false ∧ x = { s with pwr := x.pwr })) ∧
  (∀ (s : State) (kHz : BitVec 24), ∃ x, exec (.clkMeasureDone kHz) s = .next x ∧ x.rg pCLK 0x108 = wd kHz.toNat ∧
    regsBut s x [rkey pCLK 0x108] ∧ x = { s with regs := x.regs })
end

