-- ==== Sys2Proof/Laws/State.lean ====
section
/-!
SUPPORT. What each named update of the state leaves alone, field by field, and what it changes.
-/
namespace Sys2Proof.Machine

variable (s : State)

/-! ### setRg -/

@[simp] theorem State.setRg_pending (pg off : Nat) (v : Word) : (s.setRg pg off v).pending = s.pending := rfl
@[simp] theorem State.setRg_cycle (pg off : Nat) (v : Word) : (s.setRg pg off v).cycle = s.cycle := rfl
@[simp] theorem State.setRg_free (pg off : Nat) (v : Word) : (s.setRg pg off v).free = s.free := rfl
@[simp] theorem State.setRg_aregs (pg off : Nat) (v : Word) : (s.setRg pg off v).aregs = s.aregs := rfl
@[simp] theorem State.setRg_snaps (pg off : Nat) (v : Word) : (s.setRg pg off v).snaps = s.snaps := rfl
@[simp] theorem State.setRg_pairs (pg off : Nat) (v : Word) : (s.setRg pg off v).pairs = s.pairs := rfl
@[simp] theorem State.setRg_ports (pg off : Nat) (v : Word) : (s.setRg pg off v).ports = s.ports := rfl
@[simp] theorem State.setRg_flights (pg off : Nat) (v : Word) : (s.setRg pg off v).flights = s.flights := rfl
@[simp] theorem State.setRg_flightNo (pg off : Nat) (v : Word) : (s.setRg pg off v).flightNo = s.flightNo := rfl
@[simp] theorem State.setRg_fates (pg off : Nat) (v : Word) : (s.setRg pg off v).fates = s.fates := rfl
@[simp] theorem State.setRg_held (pg off : Nat) (v : Word) : (s.setRg pg off v).held = s.held := rfl
@[simp] theorem State.setRg_mem (pg off : Nat) (v : Word) : (s.setRg pg off v).mem = s.mem := rfl
@[simp] theorem State.setRg_snapPend (pg off : Nat) (v : Word) : (s.setRg pg off v).snapPend = s.snapPend := rfl
@[simp] theorem State.setRg_snapArmed (pg off : Nat) (v : Word) : (s.setRg pg off v).snapArmed = s.snapArmed := rfl
@[simp] theorem State.setRg_gpio (pg off : Nat) (v : Word) : (s.setRg pg off v).gpio = s.gpio := rfl
@[simp] theorem State.setRg_sram (pg off : Nat) (v : Word) : (s.setRg pg off v).sram = s.sram := rfl
@[simp] theorem State.setRg_ddr (pg off : Nat) (v : Word) : (s.setRg pg off v).ddr = s.ddr := rfl
@[simp] theorem State.setRg_mseal (pg off : Nat) (v : Word) : (s.setRg pg off v).mseal = s.mseal := rfl
@[simp] theorem State.setRg_flash (pg off : Nat) (v : Word) : (s.setRg pg off v).flash = s.flash := rfl
@[simp] theorem State.setRg_now (pg off : Nat) (v : Word) : (s.setRg pg off v).now = s.now := rfl
@[simp] theorem State.setRg_notices (pg off : Nat) (v : Word) : (s.setRg pg off v).notices = s.notices := rfl
@[simp] theorem State.setRg_rng (pg off : Nat) (v : Word) : (s.setRg pg off v).rng = s.rng := rfl
@[simp] theorem State.setRg_key (pg off : Nat) (v : Word) : (s.setRg pg off v).key = s.key := rfl
@[simp] theorem State.setRg_units (pg off : Nat) (v : Word) : (s.setRg pg off v).units = s.units := rfl
@[simp] theorem State.setRg_ctxKey (pg off : Nat) (v : Word) : (s.setRg pg off v).ctxKey = s.ctxKey := rfl
@[simp] theorem State.setRg_staves (pg off : Nat) (v : Word) : (s.setRg pg off v).staves = s.staves := rfl
@[simp] theorem State.setRg_bin (pg off : Nat) (v : Word) : (s.setRg pg off v).bin = s.bin := rfl
@[simp] theorem State.setRg_twinSeq (pg off : Nat) (v : Word) : (s.setRg pg off v).twinSeq = s.twinSeq := rfl
@[simp] theorem State.setRg_twinRepl (pg off : Nat) (v : Word) : (s.setRg pg off v).twinRepl = s.twinRepl := rfl
@[simp] theorem State.setRg_changes (pg off : Nat) (v : Word) : (s.setRg pg off v).changes = s.changes := rfl
@[simp] theorem State.setRg_rdrs (pg off : Nat) (v : Word) : (s.setRg pg off v).rdrs = s.rdrs := rfl
@[simp] theorem State.setRg_rdrWaits (pg off : Nat) (v : Word) : (s.setRg pg off v).rdrWaits = s.rdrWaits := rfl
@[simp] theorem State.setRg_tag (pg off : Nat) (v : Word) : (s.setRg pg off v).tag = s.tag := rfl
@[simp] theorem State.setRg_cards (pg off : Nat) (v : Word) : (s.setRg pg off v).cards = s.cards := rfl
@[simp] theorem State.setRg_sdc (pg off : Nat) (v : Word) : (s.setRg pg off v).sdc = s.sdc := rfl
@[simp] theorem State.setRg_jrnl (pg off : Nat) (v : Word) : (s.setRg pg off v).jrnl = s.jrnl := rfl
@[simp] theorem State.setRg_legal (pg off : Nat) (v : Word) : (s.setRg pg off v).legal = s.legal := rfl
@[simp] theorem State.setRg_strm (pg off : Nat) (v : Word) : (s.setRg pg off v).strm = s.strm := rfl
@[simp] theorem State.setRg_host (pg off : Nat) (v : Word) : (s.setRg pg off v).host = s.host := rfl
@[simp] theorem State.setRg_vine (pg off : Nat) (v : Word) : (s.setRg pg off v).vine = s.vine := rfl
@[simp] theorem State.setRg_time (pg off : Nat) (v : Word) : (s.setRg pg off v).time = s.time := rfl
@[simp] theorem State.setRg_twin (pg off : Nat) (v : Word) : (s.setRg pg off v).twin = s.twin := rfl
@[simp] theorem State.setRg_traceQ (pg off : Nat) (v : Word) : (s.setRg pg off v).traceQ = s.traceQ := rfl
@[simp] theorem State.setRg_traceLost (pg off : Nat) (v : Word) : (s.setRg pg off v).traceLost = s.traceLost := rfl
@[simp] theorem State.setRg_cores (pg off : Nat) (v : Word) : (s.setRg pg off v).cores = s.cores := rfl
@[simp] theorem State.setRg_tamp (pg off : Nat) (v : Word) : (s.setRg pg off v).tamp = s.tamp := rfl
@[simp] theorem State.setRg_lc (pg off : Nat) (v : Word) : (s.setRg pg off v).lc = s.lc := rfl
@[simp] theorem State.setRg_rst (pg off : Nat) (v : Word) : (s.setRg pg off v).rst = s.rst := rfl
@[simp] theorem State.setRg_pwr (pg off : Nat) (v : Word) : (s.setRg pg off v).pwr = s.pwr := rfl

/-! ### modRg -/

@[simp] theorem State.modRg_pending (pg off : Nat) (f : Word → Word) : (s.modRg pg off f).pending = s.pending := rfl
@[simp] theorem State.modRg_cycle (pg off : Nat) (f : Word → Word) : (s.modRg pg off f).cycle = s.cycle := rfl
@[simp] theorem State.modRg_free (pg off : Nat) (f : Word → Word) : (s.modRg pg off f).free = s.free := rfl
@[simp] theorem State.modRg_aregs (pg off : Nat) (f : Word → Word) : (s.modRg pg off f).aregs = s.aregs := rfl
@[simp] theorem State.modRg_snaps (pg off : Nat) (f : Word → Word) : (s.modRg pg off f).snaps = s.snaps := rfl
@[simp] theorem State.modRg_pairs (pg off : Nat) (f : Word → Word) : (s.modRg pg off f).pairs = s.pairs := rfl
@[simp] theorem State.modRg_ports (pg off : Nat) (f : Word → Word) : (s.modRg pg off f).ports = s.ports := rfl
@[simp] theorem State.modRg_flights (pg off : Nat) (f : Word → Word) : (s.modRg pg off f).flights = s.flights := rfl
@[simp] theorem State.modRg_flightNo (pg off : Nat) (f : Word → Word) : (s.modRg pg off f).flightNo = s.flightNo := rfl
@[simp] theorem State.modRg_fates (pg off : Nat) (f : Word → Word) : (s.modRg pg off f).fates = s.fates := rfl
@[simp] theorem State.modRg_held (pg off : Nat) (f : Word → Word) : (s.modRg pg off f).held = s.held := rfl
@[simp] theorem State.modRg_mem (pg off : Nat) (f : Word → Word) : (s.modRg pg off f).mem = s.mem := rfl
@[simp] theorem State.modRg_snapPend (pg off : Nat) (f : Word → Word) : (s.modRg pg off f).snapPend = s.snapPend := rfl
@[simp] theorem State.modRg_snapArmed (pg off : Nat) (f : Word → Word) : (s.modRg pg off f).snapArmed = s.snapArmed := rfl
@[simp] theorem State.modRg_gpio (pg off : Nat) (f : Word → Word) : (s.modRg pg off f).gpio = s.gpio := rfl
@[simp] theorem State.modRg_sram (pg off : Nat) (f : Word → Word) : (s.modRg pg off f).sram = s.sram := rfl
@[simp] theorem State.modRg_ddr (pg off : Nat) (f : Word → Word) : (s.modRg pg off f).ddr = s.ddr := rfl
@[simp] theorem State.modRg_mseal (pg off : Nat) (f : Word → Word) : (s.modRg pg off f).mseal = s.mseal := rfl
@[simp] theorem State.modRg_flash (pg off : Nat) (f : Word → Word) : (s.modRg pg off f).flash = s.flash := rfl
@[simp] theorem State.modRg_now (pg off : Nat) (f : Word → Word) : (s.modRg pg off f).now = s.now := rfl
@[simp] theorem State.modRg_notices (pg off : Nat) (f : Word → Word) : (s.modRg pg off f).notices = s.notices := rfl
@[simp] theorem State.modRg_rng (pg off : Nat) (f : Word → Word) : (s.modRg pg off f).rng = s.rng := rfl
@[simp] theorem State.modRg_key (pg off : Nat) (f : Word → Word) : (s.modRg pg off f).key = s.key := rfl
@[simp] theorem State.modRg_units (pg off : Nat) (f : Word → Word) : (s.modRg pg off f).units = s.units := rfl
@[simp] theorem State.modRg_ctxKey (pg off : Nat) (f : Word → Word) : (s.modRg pg off f).ctxKey = s.ctxKey := rfl
@[simp] theorem State.modRg_staves (pg off : Nat) (f : Word → Word) : (s.modRg pg off f).staves = s.staves := rfl
@[simp] theorem State.modRg_bin (pg off : Nat) (f : Word → Word) : (s.modRg pg off f).bin = s.bin := rfl
@[simp] theorem State.modRg_twinSeq (pg off : Nat) (f : Word → Word) : (s.modRg pg off f).twinSeq = s.twinSeq := rfl
@[simp] theorem State.modRg_twinRepl (pg off : Nat) (f : Word → Word) : (s.modRg pg off f).twinRepl = s.twinRepl := rfl
@[simp] theorem State.modRg_changes (pg off : Nat) (f : Word → Word) : (s.modRg pg off f).changes = s.changes := rfl
@[simp] theorem State.modRg_rdrs (pg off : Nat) (f : Word → Word) : (s.modRg pg off f).rdrs = s.rdrs := rfl
@[simp] theorem State.modRg_rdrWaits (pg off : Nat) (f : Word → Word) : (s.modRg pg off f).rdrWaits = s.rdrWaits := rfl
@[simp] theorem State.modRg_tag (pg off : Nat) (f : Word → Word) : (s.modRg pg off f).tag = s.tag := rfl
@[simp] theorem State.modRg_cards (pg off : Nat) (f : Word → Word) : (s.modRg pg off f).cards = s.cards := rfl
@[simp] theorem State.modRg_sdc (pg off : Nat) (f : Word → Word) : (s.modRg pg off f).sdc = s.sdc := rfl
@[simp] theorem State.modRg_jrnl (pg off : Nat) (f : Word → Word) : (s.modRg pg off f).jrnl = s.jrnl := rfl
@[simp] theorem State.modRg_legal (pg off : Nat) (f : Word → Word) : (s.modRg pg off f).legal = s.legal := rfl
@[simp] theorem State.modRg_strm (pg off : Nat) (f : Word → Word) : (s.modRg pg off f).strm = s.strm := rfl
@[simp] theorem State.modRg_host (pg off : Nat) (f : Word → Word) : (s.modRg pg off f).host = s.host := rfl
@[simp] theorem State.modRg_vine (pg off : Nat) (f : Word → Word) : (s.modRg pg off f).vine = s.vine := rfl
@[simp] theorem State.modRg_time (pg off : Nat) (f : Word → Word) : (s.modRg pg off f).time = s.time := rfl
@[simp] theorem State.modRg_twin (pg off : Nat) (f : Word → Word) : (s.modRg pg off f).twin = s.twin := rfl
@[simp] theorem State.modRg_traceQ (pg off : Nat) (f : Word → Word) : (s.modRg pg off f).traceQ = s.traceQ := rfl
@[simp] theorem State.modRg_traceLost (pg off : Nat) (f : Word → Word) : (s.modRg pg off f).traceLost = s.traceLost := rfl
@[simp] theorem State.modRg_cores (pg off : Nat) (f : Word → Word) : (s.modRg pg off f).cores = s.cores := rfl
@[simp] theorem State.modRg_tamp (pg off : Nat) (f : Word → Word) : (s.modRg pg off f).tamp = s.tamp := rfl
@[simp] theorem State.modRg_lc (pg off : Nat) (f : Word → Word) : (s.modRg pg off f).lc = s.lc := rfl
@[simp] theorem State.modRg_rst (pg off : Nat) (f : Word → Word) : (s.modRg pg off f).rst = s.rst := rfl
@[simp] theorem State.modRg_pwr (pg off : Nat) (f : Word → Word) : (s.modRg pg off f).pwr = s.pwr := rfl

/-! ### err -/

@[simp] theorem State.err_pending (pg i : Nat) : (s.err pg i).pending = s.pending := rfl
@[simp] theorem State.err_cycle (pg i : Nat) : (s.err pg i).cycle = s.cycle := rfl
@[simp] theorem State.err_free (pg i : Nat) : (s.err pg i).free = s.free := rfl
@[simp] theorem State.err_aregs (pg i : Nat) : (s.err pg i).aregs = s.aregs := rfl
@[simp] theorem State.err_snaps (pg i : Nat) : (s.err pg i).snaps = s.snaps := rfl
@[simp] theorem State.err_pairs (pg i : Nat) : (s.err pg i).pairs = s.pairs := rfl
@[simp] theorem State.err_ports (pg i : Nat) : (s.err pg i).ports = s.ports := rfl
@[simp] theorem State.err_flights (pg i : Nat) : (s.err pg i).flights = s.flights := rfl
@[simp] theorem State.err_flightNo (pg i : Nat) : (s.err pg i).flightNo = s.flightNo := rfl
@[simp] theorem State.err_fates (pg i : Nat) : (s.err pg i).fates = s.fates := rfl
@[simp] theorem State.err_held (pg i : Nat) : (s.err pg i).held = s.held := rfl
@[simp] theorem State.err_mem (pg i : Nat) : (s.err pg i).mem = s.mem := rfl
@[simp] theorem State.err_snapPend (pg i : Nat) : (s.err pg i).snapPend = s.snapPend := rfl
@[simp] theorem State.err_snapArmed (pg i : Nat) : (s.err pg i).snapArmed = s.snapArmed := rfl
@[simp] theorem State.err_gpio (pg i : Nat) : (s.err pg i).gpio = s.gpio := rfl
@[simp] theorem State.err_sram (pg i : Nat) : (s.err pg i).sram = s.sram := rfl
@[simp] theorem State.err_ddr (pg i : Nat) : (s.err pg i).ddr = s.ddr := rfl
@[simp] theorem State.err_mseal (pg i : Nat) : (s.err pg i).mseal = s.mseal := rfl
@[simp] theorem State.err_flash (pg i : Nat) : (s.err pg i).flash = s.flash := rfl
@[simp] theorem State.err_now (pg i : Nat) : (s.err pg i).now = s.now := rfl
@[simp] theorem State.err_notices (pg i : Nat) : (s.err pg i).notices = s.notices := rfl
@[simp] theorem State.err_rng (pg i : Nat) : (s.err pg i).rng = s.rng := rfl
@[simp] theorem State.err_key (pg i : Nat) : (s.err pg i).key = s.key := rfl
@[simp] theorem State.err_units (pg i : Nat) : (s.err pg i).units = s.units := rfl
@[simp] theorem State.err_ctxKey (pg i : Nat) : (s.err pg i).ctxKey = s.ctxKey := rfl
@[simp] theorem State.err_staves (pg i : Nat) : (s.err pg i).staves = s.staves := rfl
@[simp] theorem State.err_bin (pg i : Nat) : (s.err pg i).bin = s.bin := rfl
@[simp] theorem State.err_twinSeq (pg i : Nat) : (s.err pg i).twinSeq = s.twinSeq := rfl
@[simp] theorem State.err_twinRepl (pg i : Nat) : (s.err pg i).twinRepl = s.twinRepl := rfl
@[simp] theorem State.err_changes (pg i : Nat) : (s.err pg i).changes = s.changes := rfl
@[simp] theorem State.err_rdrs (pg i : Nat) : (s.err pg i).rdrs = s.rdrs := rfl
@[simp] theorem State.err_rdrWaits (pg i : Nat) : (s.err pg i).rdrWaits = s.rdrWaits := rfl
@[simp] theorem State.err_tag (pg i : Nat) : (s.err pg i).tag = s.tag := rfl
@[simp] theorem State.err_cards (pg i : Nat) : (s.err pg i).cards = s.cards := rfl
@[simp] theorem State.err_sdc (pg i : Nat) : (s.err pg i).sdc = s.sdc := rfl
@[simp] theorem State.err_jrnl (pg i : Nat) : (s.err pg i).jrnl = s.jrnl := rfl
@[simp] theorem State.err_legal (pg i : Nat) : (s.err pg i).legal = s.legal := rfl
@[simp] theorem State.err_strm (pg i : Nat) : (s.err pg i).strm = s.strm := rfl
@[simp] theorem State.err_host (pg i : Nat) : (s.err pg i).host = s.host := rfl
@[simp] theorem State.err_vine (pg i : Nat) : (s.err pg i).vine = s.vine := rfl
@[simp] theorem State.err_time (pg i : Nat) : (s.err pg i).time = s.time := rfl
@[simp] theorem State.err_twin (pg i : Nat) : (s.err pg i).twin = s.twin := rfl
@[simp] theorem State.err_traceQ (pg i : Nat) : (s.err pg i).traceQ = s.traceQ := rfl
@[simp] theorem State.err_traceLost (pg i : Nat) : (s.err pg i).traceLost = s.traceLost := rfl
@[simp] theorem State.err_cores (pg i : Nat) : (s.err pg i).cores = s.cores := rfl
@[simp] theorem State.err_tamp (pg i : Nat) : (s.err pg i).tamp = s.tamp := rfl
@[simp] theorem State.err_lc (pg i : Nat) : (s.err pg i).lc = s.lc := rfl
@[simp] theorem State.err_rst (pg i : Nat) : (s.err pg i).rst = s.rst := rfl
@[simp] theorem State.err_pwr (pg i : Nat) : (s.err pg i).pwr = s.pwr := rfl

/-! ### irq -/

@[simp] theorem State.irq_pending (pg i : Nat) : (s.irq pg i).pending = s.pending := rfl
@[simp] theorem State.irq_cycle (pg i : Nat) : (s.irq pg i).cycle = s.cycle := rfl
@[simp] theorem State.irq_free (pg i : Nat) : (s.irq pg i).free = s.free := rfl
@[simp] theorem State.irq_aregs (pg i : Nat) : (s.irq pg i).aregs = s.aregs := rfl
@[simp] theorem State.irq_snaps (pg i : Nat) : (s.irq pg i).snaps = s.snaps := rfl
@[simp] theorem State.irq_pairs (pg i : Nat) : (s.irq pg i).pairs = s.pairs := rfl
@[simp] theorem State.irq_ports (pg i : Nat) : (s.irq pg i).ports = s.ports := rfl
@[simp] theorem State.irq_flights (pg i : Nat) : (s.irq pg i).flights = s.flights := rfl
@[simp] theorem State.irq_flightNo (pg i : Nat) : (s.irq pg i).flightNo = s.flightNo := rfl
@[simp] theorem State.irq_fates (pg i : Nat) : (s.irq pg i).fates = s.fates := rfl
@[simp] theorem State.irq_held (pg i : Nat) : (s.irq pg i).held = s.held := rfl
@[simp] theorem State.irq_mem (pg i : Nat) : (s.irq pg i).mem = s.mem := rfl
@[simp] theorem State.irq_snapPend (pg i : Nat) : (s.irq pg i).snapPend = s.snapPend := rfl
@[simp] theorem State.irq_snapArmed (pg i : Nat) : (s.irq pg i).snapArmed = s.snapArmed := rfl
@[simp] theorem State.irq_gpio (pg i : Nat) : (s.irq pg i).gpio = s.gpio := rfl
@[simp] theorem State.irq_sram (pg i : Nat) : (s.irq pg i).sram = s.sram := rfl
@[simp] theorem State.irq_ddr (pg i : Nat) : (s.irq pg i).ddr = s.ddr := rfl
@[simp] theorem State.irq_mseal (pg i : Nat) : (s.irq pg i).mseal = s.mseal := rfl
@[simp] theorem State.irq_flash (pg i : Nat) : (s.irq pg i).flash = s.flash := rfl
@[simp] theorem State.irq_now (pg i : Nat) : (s.irq pg i).now = s.now := rfl
@[simp] theorem State.irq_notices (pg i : Nat) : (s.irq pg i).notices = s.notices := rfl
@[simp] theorem State.irq_rng (pg i : Nat) : (s.irq pg i).rng = s.rng := rfl
@[simp] theorem State.irq_key (pg i : Nat) : (s.irq pg i).key = s.key := rfl
@[simp] theorem State.irq_units (pg i : Nat) : (s.irq pg i).units = s.units := rfl
@[simp] theorem State.irq_ctxKey (pg i : Nat) : (s.irq pg i).ctxKey = s.ctxKey := rfl
@[simp] theorem State.irq_staves (pg i : Nat) : (s.irq pg i).staves = s.staves := rfl
@[simp] theorem State.irq_bin (pg i : Nat) : (s.irq pg i).bin = s.bin := rfl
@[simp] theorem State.irq_twinSeq (pg i : Nat) : (s.irq pg i).twinSeq = s.twinSeq := rfl
@[simp] theorem State.irq_twinRepl (pg i : Nat) : (s.irq pg i).twinRepl = s.twinRepl := rfl
@[simp] theorem State.irq_changes (pg i : Nat) : (s.irq pg i).changes = s.changes := rfl
@[simp] theorem State.irq_rdrs (pg i : Nat) : (s.irq pg i).rdrs = s.rdrs := rfl
@[simp] theorem State.irq_rdrWaits (pg i : Nat) : (s.irq pg i).rdrWaits = s.rdrWaits := rfl
@[simp] theorem State.irq_tag (pg i : Nat) : (s.irq pg i).tag = s.tag := rfl
@[simp] theorem State.irq_cards (pg i : Nat) : (s.irq pg i).cards = s.cards := rfl
@[simp] theorem State.irq_sdc (pg i : Nat) : (s.irq pg i).sdc = s.sdc := rfl
@[simp] theorem State.irq_jrnl (pg i : Nat) : (s.irq pg i).jrnl = s.jrnl := rfl
@[simp] theorem State.irq_legal (pg i : Nat) : (s.irq pg i).legal = s.legal := rfl
@[simp] theorem State.irq_strm (pg i : Nat) : (s.irq pg i).strm = s.strm := rfl
@[simp] theorem State.irq_host (pg i : Nat) : (s.irq pg i).host = s.host := rfl
@[simp] theorem State.irq_vine (pg i : Nat) : (s.irq pg i).vine = s.vine := rfl
@[simp] theorem State.irq_time (pg i : Nat) : (s.irq pg i).time = s.time := rfl
@[simp] theorem State.irq_twin (pg i : Nat) : (s.irq pg i).twin = s.twin := rfl
@[simp] theorem State.irq_traceQ (pg i : Nat) : (s.irq pg i).traceQ = s.traceQ := rfl
@[simp] theorem State.irq_traceLost (pg i : Nat) : (s.irq pg i).traceLost = s.traceLost := rfl
@[simp] theorem State.irq_cores (pg i : Nat) : (s.irq pg i).cores = s.cores := rfl
@[simp] theorem State.irq_tamp (pg i : Nat) : (s.irq pg i).tamp = s.tamp := rfl
@[simp] theorem State.irq_lc (pg i : Nat) : (s.irq pg i).lc = s.lc := rfl
@[simp] theorem State.irq_rst (pg i : Nat) : (s.irq pg i).rst = s.rst := rfl
@[simp] theorem State.irq_pwr (pg i : Nat) : (s.irq pg i).pwr = s.pwr := rfl

/-! ### cnt -/

@[simp] theorem State.cnt_pending (pg off : Nat) : (s.cnt pg off).pending = s.pending := rfl
@[simp] theorem State.cnt_cycle (pg off : Nat) : (s.cnt pg off).cycle = s.cycle := rfl
@[simp] theorem State.cnt_free (pg off : Nat) : (s.cnt pg off).free = s.free := rfl
@[simp] theorem State.cnt_aregs (pg off : Nat) : (s.cnt pg off).aregs = s.aregs := rfl
@[simp] theorem State.cnt_snaps (pg off : Nat) : (s.cnt pg off).snaps = s.snaps := rfl
@[simp] theorem State.cnt_pairs (pg off : Nat) : (s.cnt pg off).pairs = s.pairs := rfl
@[simp] theorem State.cnt_ports (pg off : Nat) : (s.cnt pg off).ports = s.ports := rfl
@[simp] theorem State.cnt_flights (pg off : Nat) : (s.cnt pg off).flights = s.flights := rfl
@[simp] theorem State.cnt_flightNo (pg off : Nat) : (s.cnt pg off).flightNo = s.flightNo := rfl
@[simp] theorem State.cnt_fates (pg off : Nat) : (s.cnt pg off).fates = s.fates := rfl
@[simp] theorem State.cnt_held (pg off : Nat) : (s.cnt pg off).held = s.held := rfl
@[simp] theorem State.cnt_mem (pg off : Nat) : (s.cnt pg off).mem = s.mem := rfl
@[simp] theorem State.cnt_snapPend (pg off : Nat) : (s.cnt pg off).snapPend = s.snapPend := rfl
@[simp] theorem State.cnt_snapArmed (pg off : Nat) : (s.cnt pg off).snapArmed = s.snapArmed := rfl
@[simp] theorem State.cnt_gpio (pg off : Nat) : (s.cnt pg off).gpio = s.gpio := rfl
@[simp] theorem State.cnt_sram (pg off : Nat) : (s.cnt pg off).sram = s.sram := rfl
@[simp] theorem State.cnt_ddr (pg off : Nat) : (s.cnt pg off).ddr = s.ddr := rfl
@[simp] theorem State.cnt_mseal (pg off : Nat) : (s.cnt pg off).mseal = s.mseal := rfl
@[simp] theorem State.cnt_flash (pg off : Nat) : (s.cnt pg off).flash = s.flash := rfl
@[simp] theorem State.cnt_now (pg off : Nat) : (s.cnt pg off).now = s.now := rfl
@[simp] theorem State.cnt_notices (pg off : Nat) : (s.cnt pg off).notices = s.notices := rfl
@[simp] theorem State.cnt_rng (pg off : Nat) : (s.cnt pg off).rng = s.rng := rfl
@[simp] theorem State.cnt_key (pg off : Nat) : (s.cnt pg off).key = s.key := rfl
@[simp] theorem State.cnt_units (pg off : Nat) : (s.cnt pg off).units = s.units := rfl
@[simp] theorem State.cnt_ctxKey (pg off : Nat) : (s.cnt pg off).ctxKey = s.ctxKey := rfl
@[simp] theorem State.cnt_staves (pg off : Nat) : (s.cnt pg off).staves = s.staves := rfl
@[simp] theorem State.cnt_bin (pg off : Nat) : (s.cnt pg off).bin = s.bin := rfl
@[simp] theorem State.cnt_twinSeq (pg off : Nat) : (s.cnt pg off).twinSeq = s.twinSeq := rfl
@[simp] theorem State.cnt_twinRepl (pg off : Nat) : (s.cnt pg off).twinRepl = s.twinRepl := rfl
@[simp] theorem State.cnt_changes (pg off : Nat) : (s.cnt pg off).changes = s.changes := rfl
@[simp] theorem State.cnt_rdrs (pg off : Nat) : (s.cnt pg off).rdrs = s.rdrs := rfl
@[simp] theorem State.cnt_rdrWaits (pg off : Nat) : (s.cnt pg off).rdrWaits = s.rdrWaits := rfl
@[simp] theorem State.cnt_tag (pg off : Nat) : (s.cnt pg off).tag = s.tag := rfl
@[simp] theorem State.cnt_cards (pg off : Nat) : (s.cnt pg off).cards = s.cards := rfl
@[simp] theorem State.cnt_sdc (pg off : Nat) : (s.cnt pg off).sdc = s.sdc := rfl
@[simp] theorem State.cnt_jrnl (pg off : Nat) : (s.cnt pg off).jrnl = s.jrnl := rfl
@[simp] theorem State.cnt_legal (pg off : Nat) : (s.cnt pg off).legal = s.legal := rfl
@[simp] theorem State.cnt_strm (pg off : Nat) : (s.cnt pg off).strm = s.strm := rfl
@[simp] theorem State.cnt_host (pg off : Nat) : (s.cnt pg off).host = s.host := rfl
@[simp] theorem State.cnt_vine (pg off : Nat) : (s.cnt pg off).vine = s.vine := rfl
@[simp] theorem State.cnt_time (pg off : Nat) : (s.cnt pg off).time = s.time := rfl
@[simp] theorem State.cnt_twin (pg off : Nat) : (s.cnt pg off).twin = s.twin := rfl
@[simp] theorem State.cnt_traceQ (pg off : Nat) : (s.cnt pg off).traceQ = s.traceQ := rfl
@[simp] theorem State.cnt_traceLost (pg off : Nat) : (s.cnt pg off).traceLost = s.traceLost := rfl
@[simp] theorem State.cnt_cores (pg off : Nat) : (s.cnt pg off).cores = s.cores := rfl
@[simp] theorem State.cnt_tamp (pg off : Nat) : (s.cnt pg off).tamp = s.tamp := rfl
@[simp] theorem State.cnt_lc (pg off : Nat) : (s.cnt pg off).lc = s.lc := rfl
@[simp] theorem State.cnt_rst (pg off : Nat) : (s.cnt pg off).rst = s.rst := rfl
@[simp] theorem State.cnt_pwr (pg off : Nat) : (s.cnt pg off).pwr = s.pwr := rfl

/-! ### setArg -/

@[simp] theorem State.setArg_pending (a pg off : Nat) (v : Word) : (s.setArg a pg off v).pending = s.pending := rfl
@[simp] theorem State.setArg_cycle (a pg off : Nat) (v : Word) : (s.setArg a pg off v).cycle = s.cycle := rfl
@[simp] theorem State.setArg_free (a pg off : Nat) (v : Word) : (s.setArg a pg off v).free = s.free := rfl
@[simp] theorem State.setArg_regs (a pg off : Nat) (v : Word) : (s.setArg a pg off v).regs = s.regs := rfl
@[simp] theorem State.setArg_snaps (a pg off : Nat) (v : Word) : (s.setArg a pg off v).snaps = s.snaps := rfl
@[simp] theorem State.setArg_pairs (a pg off : Nat) (v : Word) : (s.setArg a pg off v).pairs = s.pairs := rfl
@[simp] theorem State.setArg_ports (a pg off : Nat) (v : Word) : (s.setArg a pg off v).ports = s.ports := rfl
@[simp] theorem State.setArg_flights (a pg off : Nat) (v : Word) : (s.setArg a pg off v).flights = s.flights := rfl
@[simp] theorem State.setArg_flightNo (a pg off : Nat) (v : Word) : (s.setArg a pg off v).flightNo = s.flightNo := rfl
@[simp] theorem State.setArg_fates (a pg off : Nat) (v : Word) : (s.setArg a pg off v).fates = s.fates := rfl
@[simp] theorem State.setArg_held (a pg off : Nat) (v : Word) : (s.setArg a pg off v).held = s.held := rfl
@[simp] theorem State.setArg_mem (a pg off : Nat) (v : Word) : (s.setArg a pg off v).mem = s.mem := rfl
@[simp] theorem State.setArg_snapPend (a pg off : Nat) (v : Word) : (s.setArg a pg off v).snapPend = s.snapPend := rfl
@[simp] theorem State.setArg_snapArmed (a pg off : Nat) (v : Word) : (s.setArg a pg off v).snapArmed = s.snapArmed := rfl
@[simp] theorem State.setArg_gpio (a pg off : Nat) (v : Word) : (s.setArg a pg off v).gpio = s.gpio := rfl
@[simp] theorem State.setArg_sram (a pg off : Nat) (v : Word) : (s.setArg a pg off v).sram = s.sram := rfl
@[simp] theorem State.setArg_ddr (a pg off : Nat) (v : Word) : (s.setArg a pg off v).ddr = s.ddr := rfl
@[simp] theorem State.setArg_mseal (a pg off : Nat) (v : Word) : (s.setArg a pg off v).mseal = s.mseal := rfl
@[simp] theorem State.setArg_flash (a pg off : Nat) (v : Word) : (s.setArg a pg off v).flash = s.flash := rfl
@[simp] theorem State.setArg_now (a pg off : Nat) (v : Word) : (s.setArg a pg off v).now = s.now := rfl
@[simp] theorem State.setArg_notices (a pg off : Nat) (v : Word) : (s.setArg a pg off v).notices = s.notices := rfl
@[simp] theorem State.setArg_rng (a pg off : Nat) (v : Word) : (s.setArg a pg off v).rng = s.rng := rfl
@[simp] theorem State.setArg_key (a pg off : Nat) (v : Word) : (s.setArg a pg off v).key = s.key := rfl
@[simp] theorem State.setArg_units (a pg off : Nat) (v : Word) : (s.setArg a pg off v).units = s.units := rfl
@[simp] theorem State.setArg_ctxKey (a pg off : Nat) (v : Word) : (s.setArg a pg off v).ctxKey = s.ctxKey := rfl
@[simp] theorem State.setArg_staves (a pg off : Nat) (v : Word) : (s.setArg a pg off v).staves = s.staves := rfl
@[simp] theorem State.setArg_bin (a pg off : Nat) (v : Word) : (s.setArg a pg off v).bin = s.bin := rfl
@[simp] theorem State.setArg_twinSeq (a pg off : Nat) (v : Word) : (s.setArg a pg off v).twinSeq = s.twinSeq := rfl
@[simp] theorem State.setArg_twinRepl (a pg off : Nat) (v : Word) : (s.setArg a pg off v).twinRepl = s.twinRepl := rfl
@[simp] theorem State.setArg_changes (a pg off : Nat) (v : Word) : (s.setArg a pg off v).changes = s.changes := rfl
@[simp] theorem State.setArg_rdrs (a pg off : Nat) (v : Word) : (s.setArg a pg off v).rdrs = s.rdrs := rfl
@[simp] theorem State.setArg_rdrWaits (a pg off : Nat) (v : Word) : (s.setArg a pg off v).rdrWaits = s.rdrWaits := rfl
@[simp] theorem State.setArg_tag (a pg off : Nat) (v : Word) : (s.setArg a pg off v).tag = s.tag := rfl
@[simp] theorem State.setArg_cards (a pg off : Nat) (v : Word) : (s.setArg a pg off v).cards = s.cards := rfl
@[simp] theorem State.setArg_sdc (a pg off : Nat) (v : Word) : (s.setArg a pg off v).sdc = s.sdc := rfl
@[simp] theorem State.setArg_jrnl (a pg off : Nat) (v : Word) : (s.setArg a pg off v).jrnl = s.jrnl := rfl
@[simp] theorem State.setArg_legal (a pg off : Nat) (v : Word) : (s.setArg a pg off v).legal = s.legal := rfl
@[simp] theorem State.setArg_strm (a pg off : Nat) (v : Word) : (s.setArg a pg off v).strm = s.strm := rfl
@[simp] theorem State.setArg_host (a pg off : Nat) (v : Word) : (s.setArg a pg off v).host = s.host := rfl
@[simp] theorem State.setArg_vine (a pg off : Nat) (v : Word) : (s.setArg a pg off v).vine = s.vine := rfl
@[simp] theorem State.setArg_time (a pg off : Nat) (v : Word) : (s.setArg a pg off v).time = s.time := rfl
@[simp] theorem State.setArg_twin (a pg off : Nat) (v : Word) : (s.setArg a pg off v).twin = s.twin := rfl
@[simp] theorem State.setArg_traceQ (a pg off : Nat) (v : Word) : (s.setArg a pg off v).traceQ = s.traceQ := rfl
@[simp] theorem State.setArg_traceLost (a pg off : Nat) (v : Word) : (s.setArg a pg off v).traceLost = s.traceLost := rfl
@[simp] theorem State.setArg_cores (a pg off : Nat) (v : Word) : (s.setArg a pg off v).cores = s.cores := rfl
@[simp] theorem State.setArg_tamp (a pg off : Nat) (v : Word) : (s.setArg a pg off v).tamp = s.tamp := rfl
@[simp] theorem State.setArg_lc (a pg off : Nat) (v : Word) : (s.setArg a pg off v).lc = s.lc := rfl
@[simp] theorem State.setArg_rst (a pg off : Nat) (v : Word) : (s.setArg a pg off v).rst = s.rst := rfl
@[simp] theorem State.setArg_pwr (a pg off : Nat) (v : Word) : (s.setArg a pg off v).pwr = s.pwr := rfl

/-! ### setCore -/

@[simp] theorem State.setCore_pending (n : Nat) (c : CoreSt) : (s.setCore n c).pending = s.pending := rfl
@[simp] theorem State.setCore_cycle (n : Nat) (c : CoreSt) : (s.setCore n c).cycle = s.cycle := rfl
@[simp] theorem State.setCore_free (n : Nat) (c : CoreSt) : (s.setCore n c).free = s.free := rfl
@[simp] theorem State.setCore_regs (n : Nat) (c : CoreSt) : (s.setCore n c).regs = s.regs := rfl
@[simp] theorem State.setCore_aregs (n : Nat) (c : CoreSt) : (s.setCore n c).aregs = s.aregs := rfl
@[simp] theorem State.setCore_snaps (n : Nat) (c : CoreSt) : (s.setCore n c).snaps = s.snaps := rfl
@[simp] theorem State.setCore_pairs (n : Nat) (c : CoreSt) : (s.setCore n c).pairs = s.pairs := rfl
@[simp] theorem State.setCore_ports (n : Nat) (c : CoreSt) : (s.setCore n c).ports = s.ports := rfl
@[simp] theorem State.setCore_flights (n : Nat) (c : CoreSt) : (s.setCore n c).flights = s.flights := rfl
@[simp] theorem State.setCore_flightNo (n : Nat) (c : CoreSt) : (s.setCore n c).flightNo = s.flightNo := rfl
@[simp] theorem State.setCore_fates (n : Nat) (c : CoreSt) : (s.setCore n c).fates = s.fates := rfl
@[simp] theorem State.setCore_held (n : Nat) (c : CoreSt) : (s.setCore n c).held = s.held := rfl
@[simp] theorem State.setCore_mem (n : Nat) (c : CoreSt) : (s.setCore n c).mem = s.mem := rfl
@[simp] theorem State.setCore_snapPend (n : Nat) (c : CoreSt) : (s.setCore n c).snapPend = s.snapPend := rfl
@[simp] theorem State.setCore_snapArmed (n : Nat) (c : CoreSt) : (s.setCore n c).snapArmed = s.snapArmed := rfl
@[simp] theorem State.setCore_gpio (n : Nat) (c : CoreSt) : (s.setCore n c).gpio = s.gpio := rfl
@[simp] theorem State.setCore_sram (n : Nat) (c : CoreSt) : (s.setCore n c).sram = s.sram := rfl
@[simp] theorem State.setCore_ddr (n : Nat) (c : CoreSt) : (s.setCore n c).ddr = s.ddr := rfl
@[simp] theorem State.setCore_mseal (n : Nat) (c : CoreSt) : (s.setCore n c).mseal = s.mseal := rfl
@[simp] theorem State.setCore_flash (n : Nat) (c : CoreSt) : (s.setCore n c).flash = s.flash := rfl
@[simp] theorem State.setCore_now (n : Nat) (c : CoreSt) : (s.setCore n c).now = s.now := rfl
@[simp] theorem State.setCore_notices (n : Nat) (c : CoreSt) : (s.setCore n c).notices = s.notices := rfl
@[simp] theorem State.setCore_rng (n : Nat) (c : CoreSt) : (s.setCore n c).rng = s.rng := rfl
@[simp] theorem State.setCore_key (n : Nat) (c : CoreSt) : (s.setCore n c).key = s.key := rfl
@[simp] theorem State.setCore_units (n : Nat) (c : CoreSt) : (s.setCore n c).units = s.units := rfl
@[simp] theorem State.setCore_ctxKey (n : Nat) (c : CoreSt) : (s.setCore n c).ctxKey = s.ctxKey := rfl
@[simp] theorem State.setCore_staves (n : Nat) (c : CoreSt) : (s.setCore n c).staves = s.staves := rfl
@[simp] theorem State.setCore_bin (n : Nat) (c : CoreSt) : (s.setCore n c).bin = s.bin := rfl
@[simp] theorem State.setCore_twinSeq (n : Nat) (c : CoreSt) : (s.setCore n c).twinSeq = s.twinSeq := rfl
@[simp] theorem State.setCore_twinRepl (n : Nat) (c : CoreSt) : (s.setCore n c).twinRepl = s.twinRepl := rfl
@[simp] theorem State.setCore_changes (n : Nat) (c : CoreSt) : (s.setCore n c).changes = s.changes := rfl
@[simp] theorem State.setCore_rdrs (n : Nat) (c : CoreSt) : (s.setCore n c).rdrs = s.rdrs := rfl
@[simp] theorem State.setCore_rdrWaits (n : Nat) (c : CoreSt) : (s.setCore n c).rdrWaits = s.rdrWaits := rfl
@[simp] theorem State.setCore_tag (n : Nat) (c : CoreSt) : (s.setCore n c).tag = s.tag := rfl
@[simp] theorem State.setCore_cards (n : Nat) (c : CoreSt) : (s.setCore n c).cards = s.cards := rfl
@[simp] theorem State.setCore_sdc (n : Nat) (c : CoreSt) : (s.setCore n c).sdc = s.sdc := rfl
@[simp] theorem State.setCore_jrnl (n : Nat) (c : CoreSt) : (s.setCore n c).jrnl = s.jrnl := rfl
@[simp] theorem State.setCore_legal (n : Nat) (c : CoreSt) : (s.setCore n c).legal = s.legal := rfl
@[simp] theorem State.setCore_strm (n : Nat) (c : CoreSt) : (s.setCore n c).strm = s.strm := rfl
@[simp] theorem State.setCore_host (n : Nat) (c : CoreSt) : (s.setCore n c).host = s.host := rfl
@[simp] theorem State.setCore_vine (n : Nat) (c : CoreSt) : (s.setCore n c).vine = s.vine := rfl
@[simp] theorem State.setCore_time (n : Nat) (c : CoreSt) : (s.setCore n c).time = s.time := rfl
@[simp] theorem State.setCore_twin (n : Nat) (c : CoreSt) : (s.setCore n c).twin = s.twin := rfl
@[simp] theorem State.setCore_traceQ (n : Nat) (c : CoreSt) : (s.setCore n c).traceQ = s.traceQ := rfl
@[simp] theorem State.setCore_traceLost (n : Nat) (c : CoreSt) : (s.setCore n c).traceLost = s.traceLost := rfl
@[simp] theorem State.setCore_tamp (n : Nat) (c : CoreSt) : (s.setCore n c).tamp = s.tamp := rfl
@[simp] theorem State.setCore_lc (n : Nat) (c : CoreSt) : (s.setCore n c).lc = s.lc := rfl
@[simp] theorem State.setCore_rst (n : Nat) (c : CoreSt) : (s.setCore n c).rst = s.rst := rfl
@[simp] theorem State.setCore_pwr (n : Nat) (c : CoreSt) : (s.setCore n c).pwr = s.pwr := rfl

/-! ### modCore -/

@[simp] theorem State.modCore_pending (n : Nat) (f : CoreSt → CoreSt) : (s.modCore n f).pending = s.pending := rfl
@[simp] theorem State.modCore_cycle (n : Nat) (f : CoreSt → CoreSt) : (s.modCore n f).cycle = s.cycle := rfl
@[simp] theorem State.modCore_free (n : Nat) (f : CoreSt → CoreSt) : (s.modCore n f).free = s.free := rfl
@[simp] theorem State.modCore_regs (n : Nat) (f : CoreSt → CoreSt) : (s.modCore n f).regs = s.regs := rfl
@[simp] theorem State.modCore_aregs (n : Nat) (f : CoreSt → CoreSt) : (s.modCore n f).aregs = s.aregs := rfl
@[simp] theorem State.modCore_snaps (n : Nat) (f : CoreSt → CoreSt) : (s.modCore n f).snaps = s.snaps := rfl
@[simp] theorem State.modCore_pairs (n : Nat) (f : CoreSt → CoreSt) : (s.modCore n f).pairs = s.pairs := rfl
@[simp] theorem State.modCore_ports (n : Nat) (f : CoreSt → CoreSt) : (s.modCore n f).ports = s.ports := rfl
@[simp] theorem State.modCore_flights (n : Nat) (f : CoreSt → CoreSt) : (s.modCore n f).flights = s.flights := rfl
@[simp] theorem State.modCore_flightNo (n : Nat) (f : CoreSt → CoreSt) : (s.modCore n f).flightNo = s.flightNo := rfl
@[simp] theorem State.modCore_fates (n : Nat) (f : CoreSt → CoreSt) : (s.modCore n f).fates = s.fates := rfl
@[simp] theorem State.modCore_held (n : Nat) (f : CoreSt → CoreSt) : (s.modCore n f).held = s.held := rfl
@[simp] theorem State.modCore_mem (n : Nat) (f : CoreSt → CoreSt) : (s.modCore n f).mem = s.mem := rfl
@[simp] theorem State.modCore_snapPend (n : Nat) (f : CoreSt → CoreSt) : (s.modCore n f).snapPend = s.snapPend := rfl
@[simp] theorem State.modCore_snapArmed (n : Nat) (f : CoreSt → CoreSt) : (s.modCore n f).snapArmed = s.snapArmed := rfl
@[simp] theorem State.modCore_gpio (n : Nat) (f : CoreSt → CoreSt) : (s.modCore n f).gpio = s.gpio := rfl
@[simp] theorem State.modCore_sram (n : Nat) (f : CoreSt → CoreSt) : (s.modCore n f).sram = s.sram := rfl
@[simp] theorem State.modCore_ddr (n : Nat) (f : CoreSt → CoreSt) : (s.modCore n f).ddr = s.ddr := rfl
@[simp] theorem State.modCore_mseal (n : Nat) (f : CoreSt → CoreSt) : (s.modCore n f).mseal = s.mseal := rfl
@[simp] theorem State.modCore_flash (n : Nat) (f : CoreSt → CoreSt) : (s.modCore n f).flash = s.flash := rfl
@[simp] theorem State.modCore_now (n : Nat) (f : CoreSt → CoreSt) : (s.modCore n f).now = s.now := rfl
@[simp] theorem State.modCore_notices (n : Nat) (f : CoreSt → CoreSt) : (s.modCore n f).notices = s.notices := rfl
@[simp] theorem State.modCore_rng (n : Nat) (f : CoreSt → CoreSt) : (s.modCore n f).rng = s.rng := rfl
@[simp] theorem State.modCore_key (n : Nat) (f : CoreSt → CoreSt) : (s.modCore n f).key = s.key := rfl
@[simp] theorem State.modCore_units (n : Nat) (f : CoreSt → CoreSt) : (s.modCore n f).units = s.units := rfl
@[simp] theorem State.modCore_ctxKey (n : Nat) (f : CoreSt → CoreSt) : (s.modCore n f).ctxKey = s.ctxKey := rfl
@[simp] theorem State.modCore_staves (n : Nat) (f : CoreSt → CoreSt) : (s.modCore n f).staves = s.staves := rfl
@[simp] theorem State.modCore_bin (n : Nat) (f : CoreSt → CoreSt) : (s.modCore n f).bin = s.bin := rfl
@[simp] theorem State.modCore_twinSeq (n : Nat) (f : CoreSt → CoreSt) : (s.modCore n f).twinSeq = s.twinSeq := rfl
@[simp] theorem State.modCore_twinRepl (n : Nat) (f : CoreSt → CoreSt) : (s.modCore n f).twinRepl = s.twinRepl := rfl
@[simp] theorem State.modCore_changes (n : Nat) (f : CoreSt → CoreSt) : (s.modCore n f).changes = s.changes := rfl
@[simp] theorem State.modCore_rdrs (n : Nat) (f : CoreSt → CoreSt) : (s.modCore n f).rdrs = s.rdrs := rfl
@[simp] theorem State.modCore_rdrWaits (n : Nat) (f : CoreSt → CoreSt) : (s.modCore n f).rdrWaits = s.rdrWaits := rfl
@[simp] theorem State.modCore_tag (n : Nat) (f : CoreSt → CoreSt) : (s.modCore n f).tag = s.tag := rfl
@[simp] theorem State.modCore_cards (n : Nat) (f : CoreSt → CoreSt) : (s.modCore n f).cards = s.cards := rfl
@[simp] theorem State.modCore_sdc (n : Nat) (f : CoreSt → CoreSt) : (s.modCore n f).sdc = s.sdc := rfl
@[simp] theorem State.modCore_jrnl (n : Nat) (f : CoreSt → CoreSt) : (s.modCore n f).jrnl = s.jrnl := rfl
@[simp] theorem State.modCore_legal (n : Nat) (f : CoreSt → CoreSt) : (s.modCore n f).legal = s.legal := rfl
@[simp] theorem State.modCore_strm (n : Nat) (f : CoreSt → CoreSt) : (s.modCore n f).strm = s.strm := rfl
@[simp] theorem State.modCore_host (n : Nat) (f : CoreSt → CoreSt) : (s.modCore n f).host = s.host := rfl
@[simp] theorem State.modCore_vine (n : Nat) (f : CoreSt → CoreSt) : (s.modCore n f).vine = s.vine := rfl
@[simp] theorem State.modCore_time (n : Nat) (f : CoreSt → CoreSt) : (s.modCore n f).time = s.time := rfl
@[simp] theorem State.modCore_twin (n : Nat) (f : CoreSt → CoreSt) : (s.modCore n f).twin = s.twin := rfl
@[simp] theorem State.modCore_traceQ (n : Nat) (f : CoreSt → CoreSt) : (s.modCore n f).traceQ = s.traceQ := rfl
@[simp] theorem State.modCore_traceLost (n : Nat) (f : CoreSt → CoreSt) : (s.modCore n f).traceLost = s.traceLost := rfl
@[simp] theorem State.modCore_tamp (n : Nat) (f : CoreSt → CoreSt) : (s.modCore n f).tamp = s.tamp := rfl
@[simp] theorem State.modCore_lc (n : Nat) (f : CoreSt → CoreSt) : (s.modCore n f).lc = s.lc := rfl
@[simp] theorem State.modCore_rst (n : Nat) (f : CoreSt → CoreSt) : (s.modCore n f).rst = s.rst := rfl
@[simp] theorem State.modCore_pwr (n : Nat) (f : CoreSt → CoreSt) : (s.modCore n f).pwr = s.pwr := rfl

/-! ### setPort -/

@[simp] theorem State.setPort_pending (a : Nat) (r : Resp) : (s.setPort a r).pending = s.pending := rfl
@[simp] theorem State.setPort_cycle (a : Nat) (r : Resp) : (s.setPort a r).cycle = s.cycle := rfl
@[simp] theorem State.setPort_free (a : Nat) (r : Resp) : (s.setPort a r).free = s.free := rfl
@[simp] theorem State.setPort_regs (a : Nat) (r : Resp) : (s.setPort a r).regs = s.regs := rfl
@[simp] theorem State.setPort_aregs (a : Nat) (r : Resp) : (s.setPort a r).aregs = s.aregs := rfl
@[simp] theorem State.setPort_snaps (a : Nat) (r : Resp) : (s.setPort a r).snaps = s.snaps := rfl
@[simp] theorem State.setPort_pairs (a : Nat) (r : Resp) : (s.setPort a r).pairs = s.pairs := rfl
@[simp] theorem State.setPort_flights (a : Nat) (r : Resp) : (s.setPort a r).flights = s.flights := rfl
@[simp] theorem State.setPort_flightNo (a : Nat) (r : Resp) : (s.setPort a r).flightNo = s.flightNo := rfl
@[simp] theorem State.setPort_fates (a : Nat) (r : Resp) : (s.setPort a r).fates = s.fates := rfl
@[simp] theorem State.setPort_held (a : Nat) (r : Resp) : (s.setPort a r).held = s.held := rfl
@[simp] theorem State.setPort_mem (a : Nat) (r : Resp) : (s.setPort a r).mem = s.mem := rfl
@[simp] theorem State.setPort_snapPend (a : Nat) (r : Resp) : (s.setPort a r).snapPend = s.snapPend := rfl
@[simp] theorem State.setPort_snapArmed (a : Nat) (r : Resp) : (s.setPort a r).snapArmed = s.snapArmed := rfl
@[simp] theorem State.setPort_gpio (a : Nat) (r : Resp) : (s.setPort a r).gpio = s.gpio := rfl
@[simp] theorem State.setPort_sram (a : Nat) (r : Resp) : (s.setPort a r).sram = s.sram := rfl
@[simp] theorem State.setPort_ddr (a : Nat) (r : Resp) : (s.setPort a r).ddr = s.ddr := rfl
@[simp] theorem State.setPort_mseal (a : Nat) (r : Resp) : (s.setPort a r).mseal = s.mseal := rfl
@[simp] theorem State.setPort_flash (a : Nat) (r : Resp) : (s.setPort a r).flash = s.flash := rfl
@[simp] theorem State.setPort_now (a : Nat) (r : Resp) : (s.setPort a r).now = s.now := rfl
@[simp] theorem State.setPort_notices (a : Nat) (r : Resp) : (s.setPort a r).notices = s.notices := rfl
@[simp] theorem State.setPort_rng (a : Nat) (r : Resp) : (s.setPort a r).rng = s.rng := rfl
@[simp] theorem State.setPort_key (a : Nat) (r : Resp) : (s.setPort a r).key = s.key := rfl
@[simp] theorem State.setPort_units (a : Nat) (r : Resp) : (s.setPort a r).units = s.units := rfl
@[simp] theorem State.setPort_ctxKey (a : Nat) (r : Resp) : (s.setPort a r).ctxKey = s.ctxKey := rfl
@[simp] theorem State.setPort_staves (a : Nat) (r : Resp) : (s.setPort a r).staves = s.staves := rfl
@[simp] theorem State.setPort_bin (a : Nat) (r : Resp) : (s.setPort a r).bin = s.bin := rfl
@[simp] theorem State.setPort_twinSeq (a : Nat) (r : Resp) : (s.setPort a r).twinSeq = s.twinSeq := rfl
@[simp] theorem State.setPort_twinRepl (a : Nat) (r : Resp) : (s.setPort a r).twinRepl = s.twinRepl := rfl
@[simp] theorem State.setPort_changes (a : Nat) (r : Resp) : (s.setPort a r).changes = s.changes := rfl
@[simp] theorem State.setPort_rdrs (a : Nat) (r : Resp) : (s.setPort a r).rdrs = s.rdrs := rfl
@[simp] theorem State.setPort_rdrWaits (a : Nat) (r : Resp) : (s.setPort a r).rdrWaits = s.rdrWaits := rfl
@[simp] theorem State.setPort_tag (a : Nat) (r : Resp) : (s.setPort a r).tag = s.tag := rfl
@[simp] theorem State.setPort_cards (a : Nat) (r : Resp) : (s.setPort a r).cards = s.cards := rfl
@[simp] theorem State.setPort_sdc (a : Nat) (r : Resp) : (s.setPort a r).sdc = s.sdc := rfl
@[simp] theorem State.setPort_jrnl (a : Nat) (r : Resp) : (s.setPort a r).jrnl = s.jrnl := rfl
@[simp] theorem State.setPort_legal (a : Nat) (r : Resp) : (s.setPort a r).legal = s.legal := rfl
@[simp] theorem State.setPort_strm (a : Nat) (r : Resp) : (s.setPort a r).strm = s.strm := rfl
@[simp] theorem State.setPort_host (a : Nat) (r : Resp) : (s.setPort a r).host = s.host := rfl
@[simp] theorem State.setPort_vine (a : Nat) (r : Resp) : (s.setPort a r).vine = s.vine := rfl
@[simp] theorem State.setPort_time (a : Nat) (r : Resp) : (s.setPort a r).time = s.time := rfl
@[simp] theorem State.setPort_twin (a : Nat) (r : Resp) : (s.setPort a r).twin = s.twin := rfl
@[simp] theorem State.setPort_traceQ (a : Nat) (r : Resp) : (s.setPort a r).traceQ = s.traceQ := rfl
@[simp] theorem State.setPort_traceLost (a : Nat) (r : Resp) : (s.setPort a r).traceLost = s.traceLost := rfl
@[simp] theorem State.setPort_cores (a : Nat) (r : Resp) : (s.setPort a r).cores = s.cores := rfl
@[simp] theorem State.setPort_tamp (a : Nat) (r : Resp) : (s.setPort a r).tamp = s.tamp := rfl
@[simp] theorem State.setPort_lc (a : Nat) (r : Resp) : (s.setPort a r).lc = s.lc := rfl
@[simp] theorem State.setPort_rst (a : Nat) (r : Resp) : (s.setPort a r).rst = s.rst := rfl
@[simp] theorem State.setPort_pwr (a : Nat) (r : Resp) : (s.setPort a r).pwr = s.pwr := rfl

/-! ### draw -/

@[simp] theorem State.draw_pending : (s.draw ).pending = s.pending := rfl
@[simp] theorem State.draw_cycle : (s.draw ).cycle = s.cycle := rfl
@[simp] theorem State.draw_regs : (s.draw ).regs = s.regs := rfl
@[simp] theorem State.draw_aregs : (s.draw ).aregs = s.aregs := rfl
@[simp] theorem State.draw_snaps : (s.draw ).snaps = s.snaps := rfl
@[simp] theorem State.draw_pairs : (s.draw ).pairs = s.pairs := rfl
@[simp] theorem State.draw_ports : (s.draw ).ports = s.ports := rfl
@[simp] theorem State.draw_flights : (s.draw ).flights = s.flights := rfl
@[simp] theorem State.draw_flightNo : (s.draw ).flightNo = s.flightNo := rfl
@[simp] theorem State.draw_fates : (s.draw ).fates = s.fates := rfl
@[simp] theorem State.draw_held : (s.draw ).held = s.held := rfl
@[simp] theorem State.draw_mem : (s.draw ).mem = s.mem := rfl
@[simp] theorem State.draw_snapPend : (s.draw ).snapPend = s.snapPend := rfl
@[simp] theorem State.draw_snapArmed : (s.draw ).snapArmed = s.snapArmed := rfl
@[simp] theorem State.draw_gpio : (s.draw ).gpio = s.gpio := rfl
@[simp] theorem State.draw_sram : (s.draw ).sram = s.sram := rfl
@[simp] theorem State.draw_ddr : (s.draw ).ddr = s.ddr := rfl
@[simp] theorem State.draw_mseal : (s.draw ).mseal = s.mseal := rfl
@[simp] theorem State.draw_flash : (s.draw ).flash = s.flash := rfl
@[simp] theorem State.draw_now : (s.draw ).now = s.now := rfl
@[simp] theorem State.draw_notices : (s.draw ).notices = s.notices := rfl
@[simp] theorem State.draw_rng : (s.draw ).rng = s.rng := rfl
@[simp] theorem State.draw_key : (s.draw ).key = s.key := rfl
@[simp] theorem State.draw_units : (s.draw ).units = s.units := rfl
@[simp] theorem State.draw_ctxKey : (s.draw ).ctxKey = s.ctxKey := rfl
@[simp] theorem State.draw_staves : (s.draw ).staves = s.staves := rfl
@[simp] theorem State.draw_bin : (s.draw ).bin = s.bin := rfl
@[simp] theorem State.draw_twinSeq : (s.draw ).twinSeq = s.twinSeq := rfl
@[simp] theorem State.draw_twinRepl : (s.draw ).twinRepl = s.twinRepl := rfl
@[simp] theorem State.draw_changes : (s.draw ).changes = s.changes := rfl
@[simp] theorem State.draw_rdrs : (s.draw ).rdrs = s.rdrs := rfl
@[simp] theorem State.draw_rdrWaits : (s.draw ).rdrWaits = s.rdrWaits := rfl
@[simp] theorem State.draw_tag : (s.draw ).tag = s.tag := rfl
@[simp] theorem State.draw_cards : (s.draw ).cards = s.cards := rfl
@[simp] theorem State.draw_sdc : (s.draw ).sdc = s.sdc := rfl
@[simp] theorem State.draw_jrnl : (s.draw ).jrnl = s.jrnl := rfl
@[simp] theorem State.draw_legal : (s.draw ).legal = s.legal := rfl
@[simp] theorem State.draw_strm : (s.draw ).strm = s.strm := rfl
@[simp] theorem State.draw_host : (s.draw ).host = s.host := rfl
@[simp] theorem State.draw_vine : (s.draw ).vine = s.vine := rfl
@[simp] theorem State.draw_time : (s.draw ).time = s.time := rfl
@[simp] theorem State.draw_twin : (s.draw ).twin = s.twin := rfl
@[simp] theorem State.draw_traceQ : (s.draw ).traceQ = s.traceQ := rfl
@[simp] theorem State.draw_traceLost : (s.draw ).traceLost = s.traceLost := rfl
@[simp] theorem State.draw_cores : (s.draw ).cores = s.cores := rfl
@[simp] theorem State.draw_tamp : (s.draw ).tamp = s.tamp := rfl
@[simp] theorem State.draw_lc : (s.draw ).lc = s.lc := rfl
@[simp] theorem State.draw_rst : (s.draw ).rst = s.rst := rfl
@[simp] theorem State.draw_pwr : (s.draw ).pwr = s.pwr := rfl

end Sys2Proof.Machine
end

