-- ==== Sys2Proof/Laws/Tbl.lean ====
section
/-!
SUPPORT. Tables: what a read gives after a write, a deletion or a filter; and the registers, cores and ports that
are held in them.
-/
namespace Sys2Proof.Machine

variable {α : Type}

theorem tfind_tins_self (t : Tbl α) (k : Nat) (v : α) (h : ∀ e ∈ t, e.1 ≠ k) : tfind (tins t k v) k = some v := by
  induction t with
  | nil => simp [tins, tfind]
  | cons e r ih =>
    obtain ⟨j, w⟩ := e
    have hj : j ≠ k := h (j, w) (by simp)
    have hr : ∀ e ∈ r, e.1 ≠ k := fun e he => h e (by simp [he])
    simp only [tins]
    split
    · simp [tfind]
    · simp [tfind, hj, ih hr]

theorem tfind_tins_ne (t : Tbl α) (k j : Nat) (v : α) (h : j ≠ k) : tfind (tins t k v) j = tfind t j := by
  induction t with
  | nil => simp [tins, tfind, Ne.symm h]
  | cons e r ih =>
    obtain ⟨i, w⟩ := e
    simp only [tins]
    split
    · simp [tfind, Ne.symm h]
    · simp only [tfind]; split <;> simp_all

theorem tfind_filter_ne (t : Tbl α) (j : Nat) (p : Nat × α → Bool) (h : ∀ e ∈ t, e.1 = j → p e = true) :
    tfind (t.filter p) j = tfind t j := by
  induction t with
  | nil => rfl
  | cons e r ih =>
    obtain ⟨i, w⟩ := e
    have hr : ∀ e ∈ r, e.1 = j → p e = true := fun e he => h e (by simp [he])
    have h0 := h (i, w) (by simp)
    by_cases hi : i = j
    · subst hi
      simp [List.filter, h0 rfl, tfind]
    · cases hp : p (i, w) <;> simp [List.filter, hp, tfind, hi, ih hr]

theorem tfind_filter_none (t : Tbl α) (j : Nat) (p : Nat × α → Bool) (h : ∀ e ∈ t, e.1 = j → p e = false) :
    tfind (t.filter p) j = none := by
  induction t with
  | nil => rfl
  | cons e r ih =>
    obtain ⟨i, w⟩ := e
    have hr : ∀ e ∈ r, e.1 = j → p e = false := fun e he => h e (by simp [he])
    have h0 := h (i, w) (by simp)
    by_cases hi : i = j
    · simp [List.filter, h0 hi, ih hr]
    · cases hp : p (i, w) <;> simp [List.filter, hp, tfind, hi, ih hr]

theorem tfind_tdel_ne (t : Tbl α) (k j : Nat) (h : j ≠ k) : tfind (tdel t k) j = tfind t j :=
  tfind_filter_ne t j _ (by intro e _ he; simp [he, h])

@[simp] theorem tfind_tdel_self (t : Tbl α) (k : Nat) : tfind (tdel t k) k = none :=
  tfind_filter_none t k _ (by intro e _ he; simp [he])

@[simp] theorem tfind_tset_self (t : Tbl α) (k : Nat) (v : α) : tfind (tset t k v) k = some v :=
  tfind_tins_self _ k v (by intro e he; simp [tdel, List.mem_filter] at he; exact he.2)

theorem tfind_tset_ne (t : Tbl α) (k j : Nat) (v : α) (h : j ≠ k) : tfind (tset t k v) j = tfind t j := by
  simp [tset, tfind_tins_ne _ _ _ _ h, tfind_tdel_ne _ _ _ h]

@[simp] theorem tget_tset_self (d : α) (t : Tbl α) (k : Nat) (v : α) : tget d (tset t k v) k = v := by simp [tget]

theorem tget_tset_ne (d : α) (t : Tbl α) (k j : Nat) (v : α) (h : j ≠ k) : tget d (tset t k v) j = tget d t j := by
  simp [tget, tfind_tset_ne _ _ _ _ h]

theorem tget_tset (d : α) (t : Tbl α) (k j : Nat) (v : α) :
    tget d (tset t k v) j = if j = k then v else tget d t j := by
  split
  · next h => subst h; simp
  · next h => exact tget_tset_ne d t k j v h

/-! ### Registers -/

variable (s : State)

@[simp] theorem State.rg_setRg_self (pg off : Nat) (v : Word) : (s.setRg pg off v).rg pg off = v := by
  simp [State.rg, State.setRg]

theorem State.rg_setRg_ne (pg off qg off' : Nat) (v : Word) (h : rkey qg off' ≠ rkey pg off) :
    (s.setRg pg off v).rg qg off' = s.rg qg off' := by
  simp [State.rg, State.setRg, tfind_tset_ne _ _ _ _ h]

theorem State.rg_setRg (pg off qg off' : Nat) (v : Word) :
    (s.setRg pg off v).rg qg off' = if rkey qg off' = rkey pg off then v else s.rg qg off' := by
  by_cases h : rkey qg off' = rkey pg off
  · simp only [h, if_true, State.rg, State.setRg, tfind_tset_self, Option.getD_some]
  · simp only [h, if_false]; exact s.rg_setRg_ne pg off qg off' v h

@[simp] theorem State.rg_modRg_self (pg off : Nat) (f : Word → Word) : (s.modRg pg off f).rg pg off = f (s.rg pg off) := by
  simp [State.modRg]

theorem State.rg_modRg (pg off qg off' : Nat) (f : Word → Word) :
    (s.modRg pg off f).rg qg off' = if rkey qg off' = rkey pg off then f (s.rg pg off) else s.rg qg off' := by
  simp [State.modRg, State.rg_setRg]

theorem State.rg_of_regs {s t : State} (h : t.regs = s.regs) (pg off : Nat) : t.rg pg off = s.rg pg off := by
  simp [State.rg, h]

@[simp] theorem State.rg_setPort (a : Nat) (r : Resp) (pg off : Nat) : (s.setPort a r).rg pg off = s.rg pg off := rfl

@[simp] theorem State.rg_setCore (n : Nat) (c : CoreSt) (pg off : Nat) : (s.setCore n c).rg pg off = s.rg pg off := rfl

@[simp] theorem State.rg_modCore (n : Nat) (f : CoreSt → CoreSt) (pg off : Nat) :
    (s.modCore n f).rg pg off = s.rg pg off := rfl

@[simp] theorem State.rg_setArg (a p o : Nat) (v : Word) (pg off : Nat) : (s.setArg a p o v).rg pg off = s.rg pg off :=
  rfl

@[simp] theorem State.arg_setArg_self (a pg off : Nat) (v : Word) : (s.setArg a pg off v).arg a pg off = v := by
  simp [State.arg, State.setArg]

@[simp] theorem State.arg_setRg (a p o pg off : Nat) (v : Word) : (s.setRg p o v).arg a pg off = s.arg a pg off := rfl

@[simp] theorem State.arg_setPort (a b pg off : Nat) (r : Resp) : (s.setPort b r).arg a pg off = s.arg a pg off := rfl

/-! ### Ports and cores -/

@[simp] theorem State.port_setPort_self (a : Nat) (r : Resp) : (s.setPort a r).port a = r := by
  simp [State.port, State.setPort]

theorem State.port_setPort_ne (a b : Nat) (r : Resp) (h : b ≠ a) : (s.setPort a r).port b = s.port b := by
  simp [State.port, State.setPort, tget_tset_ne _ _ _ _ _ h]

@[simp] theorem State.core_setCore_self (n : Nat) (c : CoreSt) : (s.setCore n c).core n = c := by
  simp [State.core, State.setCore]

theorem State.core_setCore_ne (n m : Nat) (c : CoreSt) (h : m ≠ n) : (s.setCore n c).core m = s.core m := by
  simp [State.core, State.setCore, tfind_tset_ne _ _ _ _ h]

@[simp] theorem State.core_modCore_self (n : Nat) (f : CoreSt → CoreSt) : (s.modCore n f).core n = f (s.core n) := by
  simp [State.modCore]

theorem State.core_modCore_ne (n m : Nat) (f : CoreSt → CoreSt) (h : m ≠ n) : (s.modCore n f).core m = s.core m := by
  simp [State.modCore, State.core_setCore_ne _ _ _ _ h]

@[simp] theorem State.core_setRg (p o n : Nat) (v : Word) : (s.setRg p o v).core n = s.core n := rfl

@[simp] theorem State.core_setPort (a n : Nat) (r : Resp) : (s.setPort a r).core n = s.core n := rfl

/-! ### The general registers of a core -/

theorem CoreSt.gr_setGr (c : CoreSt) (i j : Nat) (v : Word) :
    (c.setGr i v).gr j = if j % 32 = 0 then 0 else if j % 32 = i % 32 then v else c.gr j := by
  by_cases hj : j % 32 = 0
  · simp [CoreSt.gr, hj]
  · by_cases hi : i % 32 = 0
    · have : ¬ j % 32 = i % 32 := by omega
      simp [CoreSt.gr, CoreSt.setGr, hi, hj]
    · simp [CoreSt.gr, CoreSt.setGr, hi, hj, tget_tset]

@[simp] theorem CoreSt.gr_zero (c : CoreSt) : c.gr 0 = 0 := by simp [CoreSt.gr]

end Sys2Proof.Machine
end

