-- ==== Sys2Proof/Laws/Bus.lean ====
section
/-!
SUPPORT. What a register access by a command does once its checks let it pass: one lemma for a write, one for a paired
write and one for a read.
-/
namespace Sys2Proof.Machine

open Sys2Proof.Safety

variable {s t u : State} {a : AgentId} {pg off : Nat} {v : Word}

/-- Without a change that waits for the twin's ring there is nothing to drain. -/
theorem State.settle_of_none (h : s.changes = []) : s.settle = s := by simp [State.settle, h]

/-- The page of an address of the register map. -/
theorem pageOfAddr_base (hp : pg < 0x140) (ho : off < 0x1000) : pageOfAddr (pageBase pg + off) = some pg := by
  have h1 : 0x30000000 ≤ pageBase pg + off := by simp [pageBase]; omega
  have h2 : pageBase pg + off ≤ 0x3013FFFF := by simp [pageBase]; omega
  have h3 : (pageBase pg + off - 0x30000000) / 0x1000 = pg := by simp [pageBase]; omega
  simp [pageOfAddr, h1, h2, h3]

/-- Bytes of a number give it back. -/
theorem leNat_leBytes (n : Nat) : ∀ x, leNat (leBytes n x) = x % 256 ^ n := by
  induction n with
  | zero => intro x; simp [leNat, leBytes, Nat.mod_one]
  | succ k ih =>
    intro x
    rw [leBytes, leNat, ih, BitVec.toNat_ofNat, Nat.pow_succ 256 k, Nat.mul_comm (256 ^ k) 256, Nat.mod_mul]

theorem length_leBytes (n : Nat) : ∀ x, (leBytes n x).length = n := by
  induction n with
  | zero => intro x; rfl
  | succ k ih => intro x; simp [leBytes, ih]

@[simp] theorem wordOf_leBytes (v : Word) : wordOf (leBytes 4 v.toNat) = v := by
  have h := v.isLt
  simp only [wordOf, List.take_of_length_le (Nat.le_of_eq (length_leBytes 4 v.toNat)), leNat_leBytes, wd]
  apply BitVec.eq_of_toNat_eq
  simp only [BitVec.toNat_ofNat]
  omega

@[simp] theorem leNat_leBytes_word (v : Word) : leNat (leBytes 4 v.toNat) = v.toNat := by
  have h := v.isLt
  rw [leNat_leBytes]
  omega

/-- An address of the register map is a page, behind a page's gate. -/
theorem regionOf_base (hp : pg < 0x140) (ho : off < 0x1000) : regionOf (pageBase pg + off) = some (.page pg) := by
  have h1 : 0x30000000 ≤ pageBase pg + off := by simp [pageBase]; omega
  have h2 : pageBase pg + off ≤ 0x3013FFFF := by simp [pageBase]; omega
  have h3 : (pageBase pg + off - 0x30000000) / 0x1000 = pg := by simp [pageBase]; omega
  have g (c : Nat) (hc : c < 0x30000000) : ¬ pageBase pg + off ≤ c := by omega
  simp [regionOf, h1, h2, h3, g]

theorem gateOf_base (hp : pg < 0x140) (ho : off < 0x1000) : (gateOf (pageBase pg + off)).getD 0 ≠ 22 := by
  simp only [gateOf, regionOf_base hp ho, Option.getD_some]
  repeat' split
  all_goals decide

/-- An access that its checks let pass reaches its page. -/
theorem State.access_of_admitted (hp : pg < 0x140) (ho : off < 0x1000) {k : AccKind}
    (h : admitted s a.toNat pg off k = some t) (bs : List Byte) :
    s.issues a.toNat = true ∧ ∃ x, s.access a.toNat (pageBase pg + off) 4 k bs (issuedOrder a.toNat) .none =
      { ans := { t.atTarget a.toNat (pageBase pg + off) 4 k bs .none with
                 gate := (gateOf (pageBase pg + off)).getD 0 }, attr := x } := by
  unfold admitted at h
  split at h
  · simp at h
  · next hg =>
    simp only [Bool.or_eq_true, Bool.not_eq_true', not_or, Bool.not_eq_false, Bool.not_eq_true] at hg
    split at h
    · next c o d he =>
      cases h
      exact ⟨hg.1, _, by simp only [State.access, he, hg.2, gateOf_base hp ho]; rfl⟩
    · simp at h

/-- A command whose accesses did not wait has its outcome. -/
theorem State.orHeld_of_eq (h : t.held = s.held) : s.orHeld t = t := by
  unfold State.orHeld
  split
  · next h1 h2 => rw [h, h1] at h2; cases h2
  · rfl

/-- A register write that passes its checks does what its page does, and is answered without a fault, unless an
access of its own has to wait. -/
theorem State.regCmd_of_writes (hp : pg < 0x140) (ho : off < 0x1000) (hal : off % 4 = 0) (h : Writes s t a pg off)
    (v : Word) : s.regCmd a.toNat pg off v = s.orHeld (answered (t.pageWrite a.toNat pg off v).settle a) := by
  obtain ⟨hi, x, hb⟩ := State.access_of_admitted hp ho h.pass (leBytes 4 v.toNat)
  have e1 : (pageBase pg + off) % 4 = 0 := by simp [pageBase]; omega
  have e2 : (pageBase pg + off) % 0x1000 = off := by simp [pageBase]; omega
  simp [State.regCmd, State.portAccess, hi, hb, State.atTarget, isMemory, regionOf_base hp ho, State.pageAccess, e1, e2,
    pageOfAddr_base hp ho, answered]

/-- What an admitted access leaves is the state with the default map's admission counted. -/
theorem State.admit_yes {a addr n asked c o : Nat} {k : AccKind} {u v : Upset} {d w l : Bool}
    (h : s.busAdmits a addr n k asked u = .yes t c o d w l v) : t = s.countDefault ((gateOf addr).getD 0) d := by
  unfold State.busAdmits at h
  dsimp only at h
  repeat' split at h
  all_goals first
    | cases h; rfl
    | simp at h

/-- Admission changes nothing but the default map's count (R99). -/
theorem admitted_eq {k : AccKind} (h : admitted s a.toNat pg off k = some t) :
    t = s ∨ t = s.cnt (pGATE ((gateOf (pageBase pg + off)).getD 0)) 0x120 := by
  have c (d : Bool) : s.countDefault ((gateOf (pageBase pg + off)).getD 0) d = s ∨
      s.countDefault ((gateOf (pageBase pg + off)).getD 0) d = s.cnt (pGATE ((gateOf (pageBase pg + off)).getD 0)) 0x120 := by
    cases d <;> simp [State.countDefault]
  unfold admitted at h
  split at h
  · cases h
  · split at h
    · next he =>
      cases h
      rw [State.admit_yes he]
      exact c _
    · cases h

/-- Admission alone makes nothing wait. -/
theorem admitted_held {k : AccKind} (h : admitted s a.toNat pg off k = some t) : t.held = s.held := by
  rcases admitted_eq h with e | e <;> rw [e]
  rfl

/-- A paired write whose two halves pass their checks: the partner's write reaches the page while the first half is
held. -/
theorem State.pairCmd_of_pairs (hp : pg < 0x140) (ho : off + 4 < 0x1000) (hal : off % 4 = 0)
    (h : Pairs s u a pg off v)
    (hw : ∀ t : State, t.pageWrite a.toNat pg off v = t.pairOpen a.toNat pg off v) (c : Word) :
    ∃ t : State, s.pairCmd a.toNat pg off v c = t.orHeld (answered (u.pageWrite a.toNat pg (off + 4) c).settle a) ∧
      t.held = s.held := by
  obtain ⟨t, h1, hn, h2⟩ := h.first
  have e : answered (t.pairOpen a.toNat pg off v).settle a = withPair t a pg off v := by
    simp [State.pairOpen, hn, withPair, answered, State.settle, h1.ring]
  have he : (withPair t a pg off v).held = s.held := by
    rw [← admitted_held h1.pass]; rfl
  refine ⟨withPair t a pg off v, ?_, he⟩
  unfold State.pairCmd
  rw [State.regCmd_of_writes hp (by omega) hal h1 v, hw, e, State.orHeld_of_eq he,
    State.regCmd_of_writes hp ho (by omega) h2 c]

/-- What a held write is found as by its partner. -/
theorem State.pairOf_of_pairs (h : Pairs s u a pg off v) :
    ∃ d, u.pairOf (rkey pg off) = some { key := rkey pg off, agent := a.toNat, value := v, deadline := d } := by
  obtain ⟨t, h1, hn, h2⟩ := h.first
  have e : u.pairs = (withPair t a pg off v).pairs := by
    rcases admitted_eq h2.pass with hu | hu <;> simp [hu]
  refine ⟨t.cycle + 32, ?_⟩
  have hn' := hn
  simp only [State.pairOf] at hn' ⊢
  simp [e, withPair, List.find?_append, hn']

/-- The exact complement takes a held write up (R6). -/
theorem State.pairClose_of_pairs (h : Pairs s u a pg off v) :
    u.pairClose a.toNat pg off (~~~ v) = (u.pairDrop (rkey pg off), some v) := by
  obtain ⟨d, hd⟩ := State.pairOf_of_pairs h
  simp [State.pairClose, hd]

/-- A read that passes its checks answers what its page gives, and changes what the read changes. -/
theorem State.readCmd_of_reads (hp : pg < 0x140) (ho : off < 0x1000) (hal : off % 4 = 0) (h : Reads s t a pg off) :
    s.readCmd a.toNat pg off = s.orHeld
      (((t.pageRead a.toNat pg off).1.settle).setPort a.toNat { data := (t.pageRead a.toNat pg off).2.toNat }) := by
  obtain ⟨hi, x, hb⟩ := State.access_of_admitted hp ho h.pass []
  have e1 : (pageBase pg + off) % 4 = 0 := by simp [pageBase]; omega
  have e2 : (pageBase pg + off) % 0x1000 = off := by simp [pageBase]; omega
  simp [State.readCmd, State.portAccess, hi, hb, State.atTarget, isMemory, regionOf_base hp ho, State.pageAccess, e1, e2,
    pageOfAddr_base hp ho]

end Sys2Proof.Machine
end

