-- ==== Sys2Proof/Laws/Memory.lean ====
section
/-!
SUPPORT. Memory: its canonical form as a property of its entries, that every memory operation keeps it, and what a
byte reads as after each.
-/
namespace Sys2Proof.Machine

/-- Entries in strictly rising order of address, none equal to what its address reads as unlisted. -/
theorem memWf_iff (d : DdrSt) (m : List Host.Cell) :
    memWf d m = true ↔ m.Pairwise (fun a b => a.1 < b.1) ∧ ∀ c ∈ m, erasedByte d c.1 ≠ some c.2 := by
  induction m with
  | nil => simp [memWf]
  | cons c r ih =>
    cases r with
    | nil => simp [memWf]
    | cons e r =>
      have step : memWf d (c :: e :: r) = true ↔
          erasedByte d c.1 ≠ some c.2 ∧ c.1 < e.1 ∧ memWf d (e :: r) = true := by simp [memWf, and_assoc]
      rw [step, ih, List.pairwise_cons (a := c)]
      constructor
      · rintro ⟨hc, hlt, hp, ha⟩
        refine ⟨⟨fun b hb => ?_, hp⟩, fun x hx => ?_⟩
        · rcases List.mem_cons.mp hb with rfl | hb
          · exact hlt
          · exact Nat.lt_trans hlt ((List.pairwise_cons.mp hp).1 b hb)
        · rcases List.mem_cons.mp hx with rfl | hx
          · exact hc
          · exact ha x hx
      · rintro ⟨⟨h1, hp⟩, ha⟩
        exact ⟨ha c (by simp), h1 e (by simp), hp, fun x hx => ha x (by simp [hx])⟩

/-- Any part of a memory in canonical form is in canonical form. -/
theorem memWf_filter {d : DdrSt} {m : List Host.Cell} (p : Host.Cell → Bool) (h : memWf d m = true) :
    memWf d (m.filter p) = true := by
  rw [memWf_iff] at *
  exact ⟨h.1.sublist (List.filter_sublist), fun c hc => h.2 c (List.mem_filter.mp hc).1⟩

theorem memWf_tdel {d : DdrSt} {m : List Host.Cell} (a : Nat) (h : memWf d m = true) : memWf d (tdel m a) = true :=
  memWf_filter _ h

/-- Clearing a range keeps the canonical form. -/
theorem memWf_memClear {d : DdrSt} {m : List Host.Cell} (lo n : Nat) (h : memWf d m = true) :
    memWf d (memClear m lo n) = true := memWf_filter _ h

theorem mem_tins {α : Type} (t : Tbl α) (k : Nat) (v : α) (e : Nat × α) : e ∈ tins t k v ↔ e = (k, v) ∨ e ∈ t := by
  induction t with
  | nil => simp [tins]
  | cons x r ih =>
    simp only [tins]
    split
    · simp
    · simp only [List.mem_cons, ih]
      constructor
      · rintro (h | h | h) <;> simp [h]
      · rintro (h | h | h) <;> simp [h]

theorem pairwise_tins {α : Type} (t : Tbl α) (k : Nat) (v : α) (h : t.Pairwise (fun a b => a.1 < b.1))
    (hn : ∀ e ∈ t, e.1 ≠ k) : (tins t k v).Pairwise (fun a b => a.1 < b.1) := by
  induction t with
  | nil => simp [tins]
  | cons x r ih =>
    obtain ⟨j, w⟩ := x
    have hx := List.pairwise_cons.mp h
    have hj : j ≠ k := hn (j, w) (by simp)
    simp only [tins]
    split
    · next hk =>
      refine List.pairwise_cons.mpr ⟨fun b hb => ?_, h⟩
      rcases List.mem_cons.mp hb with rfl | hb
      · exact hk
      · exact Nat.lt_trans hk (hx.1 b hb)
    · next hk =>
      refine List.pairwise_cons.mpr ⟨fun b hb => ?_, ih hx.2 fun e he => hn e (by simp [he])⟩
      rcases (mem_tins r k v b).mp hb with rfl | hb
      · show j < k; omega
      · exact hx.1 b hb

/-- Storing one byte keeps the canonical form. -/
theorem memWf_memPut {d : DdrSt} {m : List Host.Cell} (a : Nat) (b : Byte) (h : memWf d m = true) :
    memWf d (memPut d m a b) = true := by
  unfold memPut
  split
  · exact memWf_tdel a h
  · next hb =>
    have hd := (memWf_iff d _).mp (memWf_tdel a h)
    rw [memWf_iff]
    refine ⟨pairwise_tins _ a b hd.1 (by intro e he; simp [tdel, List.mem_filter] at he; exact he.2), fun c hc => ?_⟩
    rcases (mem_tins _ a b c).mp hc with rfl | hc
    · exact hb
    · exact hd.2 c hc

/-- Storing a run of bytes keeps the canonical form. -/
theorem memWf_memPuts {d : DdrSt} (bs : List Byte) : ∀ {m : List Host.Cell} (a : Nat), memWf d m = true →
    memWf d (memPuts d m a bs) = true := by
  induction bs with
  | nil => intro m a h; exact h
  | cons b r ih => intro m a h; exact ih (a + 1) (memWf_memPut a b h)

/-! ### Reading back -/

/-- The fixed value is what the address reads as. -/
theorem unlisted_of_erased {d : DdrSt} {a : Nat} {b : Byte} (h : erasedByte d a = some b) : unlisted d a = b := by
  unfold erasedByte at h
  unfold unlisted
  split at h <;> simp_all

@[simp] theorem memByte_memPut_self (d : DdrSt) (m : List Host.Cell) (a : Nat) (b : Byte) :
    memByte d (memPut d m a b) a = b := by
  unfold memByte memPut
  split
  · next h => simp [unlisted_of_erased h]
  · simp

theorem memByte_memPut_ne (d : DdrSt) (m : List Host.Cell) (a x : Nat) (b : Byte) (h : x ≠ a) :
    memByte d (memPut d m a b) x = memByte d m x := by
  unfold memByte memPut
  split
  · rw [tfind_tdel_ne _ _ _ h]
  · rw [tfind_tset_ne _ _ _ _ h]

/-- A byte outside a stored run reads as before. -/
theorem memByte_memPuts_out (d : DdrSt) (bs : List Byte) : ∀ (m : List Host.Cell) (a x : Nat),
    (x < a ∨ a + bs.length ≤ x) → memByte d (memPuts d m a bs) x = memByte d m x := by
  induction bs with
  | nil => intro m a x _; rfl
  | cons b r ih =>
    intro m a x h
    simp only [List.length_cons] at h
    rw [memPuts, ih _ _ _ (by omega), memByte_memPut_ne _ _ _ _ _ (by omega)]

/-- A byte of a stored run reads as stored. -/
theorem memByte_memPuts_in (d : DdrSt) (bs : List Byte) : ∀ (m : List Host.Cell) (a i : Nat), i < bs.length →
    memByte d (memPuts d m a bs) (a + i) = bs.getD i 0 := by
  induction bs with
  | nil => intro m a i h; simp at h
  | cons b r ih =>
    intro m a i h
    rw [memPuts]
    cases i with
    | zero => rw [memByte_memPuts_out _ _ _ _ _ (by omega)]; simp
    | succ k =>
      have hk : k < r.length := by simpa using h
      rw [show a + (k + 1) = a + 1 + k by omega, ih _ _ _ hk]; simp

/-- In a cleared range every byte reads as unlisted; outside it as before. -/
theorem memByte_memClear (d : DdrSt) (m : List Host.Cell) (lo n x : Nat) :
    memByte d (memClear m lo n) x = if lo ≤ x ∧ x < lo + n then unlisted d x else memByte d m x := by
  unfold memByte memClear
  split
  · next h => rw [tfind_filter_none _ _ _ (by rintro e _ rfl; simp [h.1, h.2])]; rfl
  · next h => rw [tfind_filter_ne _ _ _ (by rintro e _ rfl; simp; omega)]

/-- The page of a register address is one of R24's. -/
theorem page_lt {pg : Nat} {k : PageKind} (h : pageKind pg = some k) : pg < 0x140 := by
  refine Nat.lt_of_not_le fun hn => ?_
  unfold pageKind at h
  repeat rw [if_neg (by first | omega | (simp only [Bool.and_eq_true, decide_eq_true_eq]; omega))] at h
  cases h

end Sys2Proof.Machine
end

