-- ==== Sys2Proof/Machine/MemImage.lean ====
section
/-!
DEFINITION. How the memories hold physically what the model keeps as plain bytes: SRAM words under their bank's key
with their check bits (R113–R116), and the metadata of the protected window, laid out in the reserve with its MACs
(R127, R128). DRAM's cipher text is `State.dramStored`.
-/
namespace Sys2Proof.Machine

/-! ### SRAM -/

/-- The key under which a word of a bank stands (R113, R114): below the walkers of a re-key under way the new one. -/
def State.sramKey (s : State) (bank word : Nat) : Nat :=
  let keys := if s.sram.walking && decide (s.sram.walked ≤ word) then s.sram.oldKeys else s.sram.keys
  match tfind keys bank with
  | some k => leNat k
  | none => Config.startKey

/-- The cell of a word of banks 0–6: its cipher text, tweaked with the word's address [39:3], and its check bits. -/
def State.sramCell (s : State) (bank addr : Nat) : Nat × Nat :=
  let c := Config.sramCipher (s.sramKey bank (sramWord addr)) (addr / 8) (leNat (s.peek (addr / 8 * 8) 8))
  (c, Config.secDed c)

/-! ### The reserve -/

/-- The MAC of MSEAL: the first 8 bytes of AES-256-CMAC (R128). -/
def State.sealMac (s : State) (addr counter : Nat) (bs : List Byte) : List Byte :=
  (cmacOf s.mseal.macKey (leBytes 8 addr ++ leBytes 8 counter ++ bs)).take 8

/-- The MAC of a window line, over its cipher text. -/
def State.lineMac (s : State) (line : Nat) : List Byte :=
  s.sealMac (s.winBase + 64 * line) (s.mseal.lineCounter line) (s.dramStored (s.winBase / 64 + line))

/-- Bytes 0–55 of a counter block: the major counter, then the 64 minors of 6 bits. -/
def CtrBlock.bytes (b : CtrBlock) : List Byte :=
  leBytes 7 b.major ++
    leBytes 48 ((List.range 64).foldl (fun n i => n + tget 0 b.minors i % 64 * 2 ^ (6 * i)) 0) ++ [0]

/-- Bytes 0–55 of a tree node: the counters of its eight children. -/
def MsealSt.nodeBytes (m : MsealSt) (level idx : Nat) : List Byte :=
  (List.range 8).flatMap fun i => leBytes 7 (tget 0 m.nodes (nodeKey (level - 1) (8 * idx + i)))

/-- A metadata line of the reserve (R127, R128): eight MACs of data lines, a counter block, or a tree node. -/
def State.metaBytes (s : State) (m : Nat) : List Byte :=
  match s.lineNode m with
  | none => (List.range 8).flatMap fun i => s.lineMac ((m - s.reserveLo) / 64 * 8 + i)
  | some (l, i) =>
    let bs := if l = 0 then (tget {} s.mseal.blocks i).bytes else s.mseal.nodeBytes l i
    bs ++ s.sealMac m (tget 0 s.mseal.nodes (nodeKey l i)) bs

end Sys2Proof.Machine
end

