-- ==== Sys2Proof/Tests/Slice0.lean ====
section
/-!
SUPPORT. Tests: commands that are not well formed, worked examples of the spec, and for every statement of
Certificates/Slice0/Obligations.lean states and operands that meet its hypotheses together.
-/
namespace Sys2Proof.Tests

open Sys2Proof.Machine Sys2Proof.Safety

/- One test at a time, so that what their evaluations need in memory does not add up. -/
set_option Elab.async false

/-! ### Helpers -/

abbrev mcore : AgentId := 0x11
abbrev kcore : AgentId := 0x10
abbrev dbgAgent : AgentId := 0xF0
abbrev core0 : AgentId := 0

/-- Where an access reaches its page. -/
def reach (s : State) (a : AgentId) (pg off : Nat) (k : AccKind := .write) : State := (admitted s a.toNat pg off k).getD s

/-- An access that its checks let pass, with nothing waiting for the twin's ring. -/
def lets (s : State) (a : AgentId) (pg off : Nat) (k : AccKind := .write) : Bool :=
  (admitted s a.toNat pg off k).isSome && (reach s a pg off k).changes.isEmpty

/-- What a test finds true of every entry of a list is true of it. -/
theorem each {α : Type} {l : List α} {p : α → Prop} [DecidablePred p] (h : (l.all fun x => decide (p x)) = true) :
    ∀ x ∈ l, p x := by
  intro x hx
  exact of_decide_eq_true (List.all_eq_true.mp h x hx)

theorem writes_of {s : State} {a : AgentId} {pg off : Nat} (h : lets s a pg off = true) :
    Writes s (reach s a pg off) a pg off := by
  simp only [lets, Bool.and_eq_true, List.isEmpty_iff] at h
  refine ⟨?_, h.2⟩
  obtain ⟨t, ht⟩ := Option.isSome_iff_exists.mp h.1
  simp [reach, ht]

theorem reads_of {s : State} {a : AgentId} {pg off : Nat} (h : lets s a pg off .read = true) :
    Reads s (reach s a pg off .read) a pg off := by
  simp only [lets, Bool.and_eq_true, List.isEmpty_iff] at h
  refine ⟨?_, h.2⟩
  obtain ⟨t, ht⟩ := Option.isSome_iff_exists.mp h.1
  simp [reach, ht]

/-- The state in which the second write of a pair reaches its page. -/
def pairEnd (s : State) (a : AgentId) (pg off : Nat) (v : Word) : State :=
  reach (withPair (reach s a pg off) a pg off v) a pg (off + 4)

/-- Both writes of a pair pass, none being held before. -/
def letsPair (s : State) (a : AgentId) (pg off : Nat) (v : Word) : Bool :=
  lets s a pg off && ((reach s a pg off).pairOf (rkey pg off)).isNone &&
    lets (withPair (reach s a pg off) a pg off v) a pg (off + 4)

theorem pairs_of {s : State} {a : AgentId} {pg off : Nat} {v : Word} (h : letsPair s a pg off v = true) :
    Pairs s (pairEnd s a pg off v) a pg off v := by
  simp only [letsPair, Bool.and_eq_true, Option.isNone_iff_eq_none] at h
  exact ⟨_, writes_of h.1.1, h.1.2, writes_of h.2⟩

/-- A state with every domain powered. -/
def lit : State := { State.reset with pwr := { ({} : PwrSt) with on := 2 ^ 56 - 1 } }

/-- What `UnitWorks` asks. -/
def worksB (s : State) (u : Nat) : Bool := !s.tamp.halted && !(s.unit u).resetting && !(s.unit u).unbin

theorem works_of {s : State} {u : Nat} (h : worksB s u = true) : UnitWorks s u := by
  simp only [worksB, Bool.and_eq_true, Bool.not_eq_true'] at h
  exact ⟨h.1.1, h.1.2, h.2⟩

/-- What `Went` asks. -/
def wentB (s t : State) : Bool := t.changes.isEmpty && t.held == s.held

theorem went_of {s t : State} (h : wentB s t = true) : Went s t := by
  simp only [wentB, Bool.and_eq_true, List.isEmpty_iff, beq_iff_eq] at h
  exact h

/-- What `NoOwnWork` asks. -/
def noOwnB (s : State) : Bool := s.twin.pairing.isNone && s.strm.frames.all fun y => y.stage != 3

theorem noOwn_of {s : State} (h : noOwnB s = true) : NoOwnWork s := by
  simp only [noOwnB, Bool.and_eq_true, Option.isNone_iff_eq_none, List.all_eq_true, bne_iff_ne] at h
  exact ⟨h.1, h.2⟩

/-- What `OwnRuns` asks. -/
def ownRunsB (s : State) (w : OwnWork) (u d len : Nat) : Bool :=
  s.pdOn d && (s.ownAt w).isNone &&
    ((s.unit u).freePlace).any (fun k => (s.unit u).segs.all fun g => g.ctx != some k) &&
    !(s.unit u).resetting && (s.unit u).pick.isNone && decide (len ≤ s.quantum u 0x7F)

theorem ownRuns_of {s : State} {w : OwnWork} {u d len : Nat} (h : ownRunsB s w u d len = true) : OwnRuns s w u d len := by
  simp only [ownRunsB, Bool.and_eq_true, Bool.not_eq_true', Option.isNone_iff_eq_none, decide_eq_true_eq] at h
  obtain ⟨⟨⟨⟨⟨h1, h2⟩, h3⟩, h4⟩, h5⟩, h6⟩ := h
  refine ⟨h1, h2, ?_, h4, h5, h6⟩
  cases h7 : (s.unit u).freePlace with
  | none => simp [h7] at h3
  | some k => exact ⟨k, rfl, by simpa [h7] using h3⟩

/-- The state after a draw of a wire that holds enough. -/
def drew (s : State) (c n : Nat) : State := (s.wireDraw c n).1

theorem drawn_of {s : State} {c n : Nat} (hf : s.rng.fault = false) (hn : n ≤ (s.rngInst c).block.length) :
    s.wireDraw c n = (drew s c n, 0, (s.wireDraw c n).2.2) := by
  simp [drew, State.wireDraw, hf, State.rngGather, hn]

/-- What a command that completes leaves, looked at. -/
def after (o : Host.Outcome State Fault Refusal) (p : State → Bool) : Bool :=
  match o with
  | .next x => p x
  | _ => false

/-! ### Well-formedness -/

/-- A request of the field with a unique identifier that is too short. -/
def shortReq : TagReq := { flags := 0x22, uid := [1, 2], crc := true, reserve := false }

/-- A measuring block with too few voltages. -/
def thinBlock : AfeBlock :=
  { p := 0, q := 0, sApp := 0, dc := 0, urms := [1], irms := [1, 2, 3, 4], freq := 0, udc := 0, idc := 0, temp := 0, flags := 0,
    harm := List.replicate 8 (List.replicate 40 0) }

theorem test_wf_register_size : (Instr.registerWrite mcore 0x30003010 3 1).wellFormed = false := by decide
theorem test_wf_request_data : (Instr.fabricRequest core0 0x22000000 4 { kind := .write } [1, 2, 3] .none).wellFormed = false := by
  decide
theorem test_wf_request_read_data : (Instr.fabricRequest core0 0x22000000 4 { kind := .read } [1] .none).wellFormed = false := by
  decide
theorem test_wf_request_size : (Instr.fabricRequest core0 0x22000000 0 { kind := .write } [] .none).wellFormed = false := by decide
theorem test_wf_seal_line : (Instr.msealLineRead core0 0x8000000020 .none).wellFormed = false := by decide
theorem test_wf_seal_data : (Instr.msealLineWrite core0 0x8000000040 [1] .none).wellFormed = false := by decide
theorem test_wf_startup : (Instr.rngStartupDone 0 []).wellFormed = false := by decide
theorem test_wf_conditioner : (Instr.rngConditionerOutput []).wellFormed = false := by decide
theorem test_wf_keygen : (Instr.legalKeygen [] []).wellFormed = false := by decide
theorem test_wf_air_frame : (Instr.rdrFrameReceived 0 (List.replicate 1025 0) 0 none true).wellFormed = false := by
  show decide ((List.replicate 1025 (0 : Byte)).length ≤ 1024) = false; rw [List.length_replicate]; decide
theorem test_wf_tag_request : (Instr.tagStayQuiet shortReq).wellFormed = false := by decide
theorem test_wf_tag_mask : (Instr.tagInventory { shortReq with uid := [] } 0 65 0).wellFormed = false := by decide
theorem test_wf_tag_i2c : (Instr.tagI2cWrite 0 []).wellFormed = false := by decide
theorem test_wf_card_answer : (Instr.cardActivate 0 mcore (some { bytes := [0x3B], pps := none })).wellFormed = false := by
  decide
theorem test_wf_sd_cid :
    (Instr.sdcInit mcore (some { answers := true, supported := true, s18a := false, v18 := false, cid := [], blocks := 0, speed := ⟨false, false, false⟩ })).wellFormed
      = false := by decide
theorem test_wf_afe_block : (Instr.afeBlockEnd thinBlock).wellFormed = false := by decide
theorem test_wf_queue_entry : (Instr.hostSqFetch (some [0])).wellFormed = false := by decide
theorem test_wf_stream_frame : (Instr.strmDataFrame [0]).wellFormed = false := by decide
theorem test_wf_credit_frame : (Instr.strmCreditFrame [0]).wellFormed = false := by decide
theorem test_wf_vine_packet :
    (Instr.vinePacketForward 0 { body := .msg 0 0 3 [1] } true).wellFormed = false := by decide
theorem test_wf_vine_read : (Instr.vineRread 0 0 0 0 0 0 3 true).wellFormed = false := by decide
theorem test_wf_vine_message : (Instr.vineMsg 0 0 0 0 0 0 0 (List.replicate 1025 0) true).wellFormed = false := by
  show decide ((List.replicate 1025 (0 : Byte)).length ≤ 1024) = false; rw [List.length_replicate]; decide
theorem test_wf_heartbeat : (Instr.twinHeartbeatReceive 0 [] true true).wellFormed = false := by decide
theorem test_wf_twin_record : (Instr.twinRecord 0 0 [] true).wellFormed = false := by decide
theorem test_wf_health : (Instr.twinHealthReceive 0 0 (List.replicate 1057 0) true).wellFormed = false := by
  show decide ((List.replicate 1057 (0 : Byte)).length ≤ 1056) = false; rw [List.length_replicate]; decide
theorem test_wf_a_write : (Instr.registerWrite mcore 0x30003010 4 1).wellFormed = true := by decide


/-! ### The machine, registers, fabric -/

theorem witness_StepRunsFront : ({ lit with pending := [.holdExpiry 0] } : State).pending = .holdExpiry 0 :: [] := rfl

theorem witness_IdleTick : State.reset.pending = [] ∧ State.reset.tamp.vin = true ∧ State.reset.tamp.twinWait = 0 ∧
    State.reset.pairs = [] ∧ State.reset.changes = [] ∧ NoOwnWork State.reset ∧
    ({ State.reset with time := { ({} : TimeSt) with run := true } } : State).time.run = true :=
  ⟨rfl, rfl, rfl, rfl, rfl, ⟨rfl, by decide⟩, rfl⟩

theorem witness_MemoryCanonicalKept : memWf State.reset.ddr State.reset.mem = true ∧ ∃ t, step State.reset = .next t :=
  ⟨rfl, _, rfl⟩

theorem witness_FusesStayBlown : ∃ t, step State.reset = .next t := ⟨_, rfl⟩

theorem witness_RegisterWidth_word :
    Writes State.reset (reach State.reset mcore 5 0x24) mcore (Fin.val (5 : Fin 320)) 0x24 ∧
      (pageKind (Fin.val (5 : Fin 320))).isSome = true := ⟨writes_of (by decide), by decide⟩

theorem witness_RegisterWidth_other :
    pageOfAddr (BitVec.toNat (0x30020022 : Addr)) = some (Fin.val (0x20 : Fin 320)) ∧
    State.reset.issues mcore.toNat = true ∧ mcore.toNat ≠ aLCORE ∧
    State.reset.rangeOk (BitVec.toNat (0x30020022 : Addr)) (BitVec.toNat (4 : BitVec 8)) .write = true ∧
    State.reset.judge ((gateOf (BitVec.toNat (0x30020022 : Addr))).getD 0) mcore.toNat (BitVec.toNat (0x30020022 : Addr))
      (BitVec.toNat (4 : BitVec 8)) .write = .letPass 2 2 false ∧ (BitVec.toNat (0x30020022 : Addr)) % 4 ≠ 0 := by decide

theorem witness_PlainRegisters : pageKind (Fin.val (5 : Fin 320)) = some .irq ∧
    Writes State.reset (reach State.reset mcore 5 0x30) mcore (Fin.val (5 : Fin 320)) 0x30 ∧
    Writes State.reset (reach State.reset mcore 5 0x24) mcore (Fin.val (5 : Fin 320)) 0x24 ∧
    Writes State.reset (reach State.reset mcore 5 0x2C) mcore (Fin.val (5 : Fin 320)) 0x2C :=
  ⟨by decide, writes_of (by decide), writes_of (by decide), writes_of (by decide)⟩

theorem witness_PlainRegisters_route : ∀ src ∈ [0, 187, 188, 191, 192, 319],
    mcore.toNat = aMCORE ∧ lets State.reset mcore pIRQ (0x100 + 4 * src) = true ∧
    bitAt ((reach State.reset mcore pIRQ (0x100 + 4 * src)).rg pIRQ 0x30) 0 = false := by decide +kernel

theorem witness_PlainRegisters_levels : Writes State.reset (reach State.reset mcore pIRQ 0x680) mcore pIRQ 0x680 ∧
    Writes State.reset (reach State.reset mcore pIRQ 0x684) mcore pIRQ 0x684 :=
  ⟨writes_of (by decide), writes_of (by decide)⟩

theorem witness_PlainRegisters_pages : ∀ w ∈ [0, 4, 7, 8, 9],
    lets State.reset mcore pSNAP (0x140 + 4 * w) = true ∧
    bitAt ((reach State.reset mcore pSNAP (0x140 + 4 * w)).rg pSNAP 0x30) 0 = false := by decide

/-- GATE7.COMMIT held for MCORE. -/
def committing : State :=
  { State.reset with pairs := [{ key := rkey (pGATE 7) 0x104, agent := mcore.toNat, value := 1, deadline := 32 }] }

theorem witness_PairedWrites_primary : mcore.toNat = aMCORE ∧
    Writes State.reset (reach State.reset mcore (pGATE (7 : Fin 24)) 0x104) mcore (pGATE (7 : Fin 24)) 0x104 ∧
    (reach State.reset mcore (pGATE (7 : Fin 24)) 0x104).pairOf (rkey (pGATE (7 : Fin 24)) 0x104) = none :=
  ⟨rfl, writes_of (by decide), by decide⟩

theorem witness_PairedWrites_other : mcore.toNat = aMCORE ∧
    Writes committing (reach committing mcore (pGATE (7 : Fin 24)) 0x108) mcore (pGATE (7 : Fin 24)) 0x108 ∧
    (reach committing mcore (pGATE (7 : Fin 24)) 0x108).pairOf (rkey (pGATE (7 : Fin 24)) 0x104) =
      some { key := rkey (pGATE (7 : Fin 24)) 0x104, agent := mcore.toNat, value := 1, deadline := 32 } ∧
    (0 : Word) ≠ ~~~ 1 := ⟨rfl, writes_of (by decide), by decide, by decide⟩

theorem witness_PairedWrites_complement : (∀ k, k < 32 →
      badRule (7 : Fin 24) ((reach committing mcore (pGATE (7 : Fin 24)) 0x108).rule (7 : Fin 24) 0x200 k) = false) ∧
    bitAt ((reach committing mcore (pGATE (7 : Fin 24)) 0x108).rg (pGATE (7 : Fin 24)) 0x30) 1 = false ∧
    fld 1 0 16 = (fld ((reach committing mcore (pGATE (7 : Fin 24)) 0x108).rg (pGATE (7 : Fin 24)) 0x100) 0 16 + 1) % 0x10000 ∧
    fld 1 16 16 = 0 := by decide +kernel

theorem witness_PairedWrites_foreign : dbgAgent.toNat ≠ aMCORE ∧
    Writes committing (reach committing dbgAgent (pGATE (7 : Fin 24)) 0x108) dbgAgent (pGATE (7 : Fin 24)) 0x108 :=
  ⟨by decide, writes_of (by decide)⟩

theorem witness_PairedWrites_window :
    (committing.pairOf (rkey (Fin.val (0x28 : Fin 320)) (Fin.val (0x104 : Fin 4096)))).isSome = true := by decide

theorem witness_PairedWrites_role : mcore.toNat = aMCORE ∧
    Pairs State.reset (pairEnd State.reset mcore pSYS 0x108 2) mcore pSYS 0x108 2 ∧
    bitAt ((pairEnd State.reset mcore pSYS 0x108 2).rg pSYS 0x108) 31 = false ∧
    (∀ t, Writes State.reset t mcore pSYS 0x108 → bitAt (t.rg pSYS 0x108) 31 = false) ∧ fld 2 0 2 ≠ 3 :=
  ⟨rfl, pairs_of (by decide), by decide, fun t h => by cases h.pass; decide, by decide⟩

theorem witness_PairedWrites_role3 : mcore.toNat = aMCORE ∧
    Pairs State.reset (pairEnd State.reset mcore pSYS 0x108 3) mcore pSYS 0x108 3 ∧
    bitAt ((pairEnd State.reset mcore pSYS 0x108 3).rg pSYS 0x108) 31 = false ∧ fld 3 0 2 = 3 :=
  ⟨rfl, pairs_of (by decide), by decide, by decide⟩

theorem witness_PairedWrites_domain : mcore.toNat = aMCORE ∧
    Pairs State.reset (pairEnd State.reset mcore pSYS 0x100 5) mcore pSYS 0x100 5 ∧
    bitAt ((pairEnd State.reset mcore pSYS 0x100 5).rg pSYS 0x100) 31 = false ∧
    (∀ t, Writes State.reset t mcore pSYS 0x100 → bitAt (t.rg pSYS 0x100) 31 = false) :=
  ⟨rfl, pairs_of (by decide), by decide, fun t h => by cases h.pass; decide⟩

theorem witness_PairedWrites_commit : ∀ g ∈ [0, 7, 23],
    letsPair State.reset mcore (pGATE g) 0x104 1 = true ∧
    bitAt ((pairEnd State.reset mcore (pGATE g) 0x104 1).rg (pGATE g) 0x30) 1 = false ∧
    fld 1 0 16 = (fld ((pairEnd State.reset mcore (pGATE g) 0x104 1).rg (pGATE g) 0x100) 0 16 + 1) % 0x10000 ∧
    fld 1 16 16 = 0 ∧
    ∀ k : Fin 32, badRule g ((pairEnd State.reset mcore (pGATE g) 0x104 1).rule g 0x200 k) = false := by decide +kernel

/-- KCORE's ID is bound to its core. -/
def withK : State := lit.modCore 8 fun c => { c with run := .run, agent := some kcore.toNat }

theorem witness_SysAdmitsMcore : ∀ off ∈ [0x100, 0x104, 0x108, 0x10C],
    kcore.toNat ≠ aMCORE ∧ lets withK kcore pSYS off = true := by decide

theorem witness_PartnerReads_ctrl : pageKind (Fin.val (0x49 : Fin 320)) = some .key ∧ ctrlPaired .key = true ∧
    Reads State.reset (reach State.reset mcore 0x49 0x14 .read) mcore (Fin.val (0x49 : Fin 320)) (Fin.val (0x14 : Fin 4096)) :=
  ⟨by decide, by decide, reads_of (by decide)⟩

theorem witness_PartnerReads_specific : pageKind (Fin.val (0 : Fin 320)) = some .sys ∧
    (∃ r, 0x100 ≤ Fin.val (0x10C : Fin 4096) ∧ Fin.val (0x10C : Fin 4096) < 0xE00 ∧
      findRow .sys (Fin.val (0x10C : Fin 4096)) = some r ∧ r.acc = .rwpN) ∧
    Reads State.reset (reach State.reset mcore 0 0x10C .read) mcore (Fin.val (0 : Fin 320)) (Fin.val (0x10C : Fin 4096)) :=
  ⟨by decide, ⟨_, by decide, by decide, rfl, by decide⟩, reads_of (by decide)⟩

/-- An unarmed snapshot unit with its three inputs on. -/
def snapOn (armed : Bool) : State := { State.reset.setRg pSNAP 0x104 7 with snapArmed := armed, snapPend := 1 }

theorem witness_SnapshotsAndResets : (pageKind (Fin.val (0x20 : Fin 320))).isSome = true ∧
    Reads State.reset (reach State.reset mcore 0x20 0x34 .read) mcore (Fin.val (0x20 : Fin 320)) 0x34 ∧
    Pairs State.reset (pairEnd State.reset mcore pFAB 0x10 2) mcore pFAB 0x10 2 :=
  ⟨by decide, reads_of (by decide), pairs_of (by decide)⟩

theorem witness_SnapshotsAndResets_fire : ∀ armed, lets (snapOn armed) mcore pSNAP 0x100 = true ∧
    bitAt ((reach (snapOn armed) mcore pSNAP 0x100).rg pSNAP 0x104) 0 = true ∧
    (reach (snapOn armed) mcore pSNAP 0x100).snapArmed = armed ∧
    (reach (snapOn armed) mcore pSNAP 0x100).rg pSNAP 0x118 ≠ 0xFFFFFFFF := by decide

theorem witness_SnapshotsAndResets_latch : bitAt ((snapOn true).rg pSNAP 0x104) 1 = true ∧ (snapOn true).snapPend ≠ 0 ∧
    ((snapOn true).setRg pSNAP 0x140 1).snapEnabled 0 = true ∧ ((snapOn true).setRg pSNAP 0x140 1).pageSupplied 0 = true := by
  decide

theorem witness_FabricAccesses_range : State.reset.issues mcore.toNat = true ∧
    offFabric mcore.toNat (BitVec.toNat (0x22000000 : Addr)) (4 : Fin 257) = false ∧ (4 : Fin 257) ≠ 0 ∧
    State.reset.blkWaits mcore.toNat ((gateOf (BitVec.toNat (0x22000000 : Addr))).getD 0) = false ∧
    State.reset.rangeOk (BitVec.toNat (0x22000000 : Addr)) (4 : Fin 257) .write = false := by decide

/-- Every SRAM bank is written, and an access of MCORE to shared SRAM waits at the target. -/
def sramOn : State := { lit with sram := { ({} : SramSt) with banks := [2, 2, 2, 2, 2, 2, 2, 2] } }

def inFlight (second : Bool) : State :=
  { sramOn with flights := [{ id := 7, agent := 0x11, gate := 12, epoch := 0, addr := 0x22000000, size := 4, write := true, fetch := false, data := [1, 2, 3, 4], cache := 0, order := 0, issued := 0, second := second, timedOut := false }] }

theorem witness_FabricAccesses_gate : sramOn.issues kcore.toNat = false ∧ sramOn.issues mcore.toNat = true ∧
    offFabric mcore.toNat (BitVec.toNat (0x22000000 : Addr)) (4 : Fin 257) = false ∧
    sramOn.rangeOk (BitVec.toNat (0x22000000 : Addr)) (4 : Fin 257) .write = true ∧
    gateOf (BitVec.toNat (0x22000000 : Addr)) = some 12 ∧
    sramOn.judge 12 mcore.toNat (BitVec.toNat (0x22000000 : Addr)) (4 : Fin 257) .write = .letPass 0 0 true ∧
    sramOn.rbit (pGATE 12) 0x118 15 = false := by decide

theorem witness_FabricAccesses_refused : sramOn.issues dbgAgent.toNat = true ∧
    sramOn.judge 12 dbgAgent.toNat (BitVec.toNat (0x22000000 : Addr)) (4 : Fin 257) .fetch = .refuse 1 ∧
    judgedTwice (BitVec.toNat (0x22000000 : Addr)) = none := by decide

theorem witness_FabricAccesses_twice : sramOn.issues dbgAgent.toNat = true ∧
    gateOf (BitVec.toNat (0x30049100 : Addr)) = some 18 ∧
    sramOn.blkWaits dbgAgent.toNat 18 = false ∧ sramOn.rangeOk (BitVec.toNat (0x30049100 : Addr)) (4 : Fin 257) .fetch = true ∧
    (∃ r, sramOn.judge 18 dbgAgent.toNat (BitVec.toNat (0x30049100 : Addr)) (4 : Fin 257) .fetch = .refuse r) ∧
    (judgedTwice (BitVec.toNat (0x30049100 : Addr))).isSome = true := by
  refine ⟨by decide, by decide, by decide, by decide, ⟨1, by decide⟩, by decide⟩

theorem witness_FabricAccesses_flight : ∃ f, (inFlight true).flight 7 = some f ∧ f.second = true ∧ f.timedOut = false ∧
    (inFlight true).rbit pFAB 0x108 31 = false ∧ f.agent < 256 := ⟨_, rfl, by decide⟩

theorem witness_FabricAccesses_verdicts : ∃ f, (inFlight true).flight 7 = some f ∧ f.refused = none ∧ f.byDefault = false :=
  ⟨_, rfl, by decide⟩

/-- An access whose first verdict refused it waits for its second. -/
def refusedFlight : State :=
  { inFlight true with flights := (inFlight true).flights.map fun f => { f with refused := some 1 } }

theorem witness_FabricAccesses_firstRefused : ∃ f, refusedFlight.flight 7 = some f ∧ f.second = true ∧ f.refused = some 1 ∧
    refusedFlight.rbit (pGATE f.gate) 0x118 15 = false := ⟨_, rfl, by decide⟩

theorem witness_FabricAccesses_timeout : ∃ f, (inFlight false).flight 7 = some f ∧ f.timedOut = false ∧ f.second = false ∧
    f.gate ≠ 22 ∧ (inFlight false).rbit pFAB 0x108 31 = false ∧ f.agent < 256 := ⟨_, rfl, by decide⟩

theorem witness_FabricAccesses_response : ∃ f, (inFlight false).flight 7 = some f ∧
    (inFlight false).canPerform f = true ∧ (inFlight false).outranked f = false ∧ f.timedOut = false ∧
    f.write = true ∧ f.data.length = f.size ∧ 0 < f.size ∧ (inFlight false).changes = [] ∧ (inFlight false).badWord f.addr f.size = none ∧
    regionOf f.addr = some .shared ∧ regionOf (f.addr + f.size - 1) = some .shared := ⟨_, rfl, by decide⟩

/-- A read in flight of a word that holds an uncorrectable error. -/
def badRead : State :=
  { sramOn with sram := { sramOn.sram with bad := [0x22000000] }, flights := [{ id := 7, agent := 0x11, gate := 12, epoch := 0, addr := 0x22000004, size := 4, write := false, fetch := false, data := [], cache := 0, order := 0, issued := 0, second := false, timedOut := false }] }

theorem witness_FabricAccesses_bad : ∃ f, badRead.flight 7 = some f ∧ badRead.canPerform f = true ∧
    badRead.outranked f = false ∧ f.timedOut = false ∧ f.write = false ∧ badRead.changes = [] ∧
    regionOf f.addr = some .shared ∧ badRead.badWord f.addr f.size = some 0x22000000 := ⟨_, rfl, by decide⟩

/-! ### Cask cores -/

/-- CORE0's code segment over its own SRAM, and data segments over its upper half and its stack. -/
def codeSeg : Seg := { sel := 0, null := false, base := 0x20000000, limit := 0xFFFF, r := true, x := true }

def dataSeg : Seg := { sel := 1, null := false, base := 0x20008000, limit := 0x7FFF, r := true, w := true }

def core0St : CoreSt :=
  { run := .run, agent := some 0, segs := [(0, codeSeg), (1, dataSeg), (2, dataSeg)], g := [(2, 6), (3, 3), (30, 0x1000)] }

/-- CORE0's SRAM: five vectors at 0x1000 that hold for 9 cycles, and descriptors 0 (code) and 1 (data) at 0x2000. -/
def sram0 : List Host.Cell :=
  memPuts {} (memPuts {} [] 0x20001000 (List.flatten (List.replicate 5 [0, 3, 0, 0, 0, 0, 9, 0x80])))
    0x20002000 [0, 0, 0, 0x20, 0, 5, 0, 0x80, 0xFF, 0xFF, 0, 0, 1, 0, 0, 0, 0, 0x80, 0, 0x20, 0, 3, 0, 0x80, 0xFF, 0x7F, 0, 0, 1, 0, 0, 0]

/-- CORE0 runs from its own SRAM, its state changed by `f`. -/
def coreOn (f : CoreSt → CoreSt) : State :=
  { (((((sramOn.setRg pSYS 0x100 0x80000000).setRg (pCORE 0) 0x100 0x20002000).setRg (pCORE 0) 0x108 8).setRg
      (pCORE 0) 0x124 0x20001000).setCore 0 (f core0St)) with mem := sram0 }

/-- The state in which a core has fetched. -/
def fetched (s : State) (n : Nat) : State := ((s.modCore n fun c => { c with run := .run }).fetchOnce n).1

/-- What `Issues` asks of a core without breakpoints. -/
def issuesB (s : State) (n : Nat) : Bool :=
  s.coreLive n && (s.core n).await.isNone && (s.boundary n).isNone && !s.asleep n &&
    !(s.core n).atBreak true && !(s.core n).atBreak false &&
    (match ((s.modCore n fun c => { c with run := .run }).fetchOnce n).2 with | .ok => true | _ => false) &&
    (fetched s n).held.isNone && ((fetched s n).core n).run == .run

theorem issues_of {s : State} {n : Nat} (h : issuesB s n = true) : Issues s (fetched s n) n := by
  simp only [issuesB, Bool.and_eq_true, Bool.not_eq_true', Option.isNone_iff_eq_none, beq_iff_eq] at h
  obtain ⟨⟨⟨⟨⟨⟨⟨⟨h1, h2⟩, h3⟩, h4⟩, h5⟩, h6⟩, h7⟩, h9⟩, h8⟩ := h
  refine ⟨h1, h2, h3, h4, ?_, ?_, h9, h8⟩
  · intro b; cases b <;> simp [State.breakpoint, h5, h6]
  · have : (((s.modCore n fun c => { c with run := .run }).fetchOnce n).2) = .ok := by
      revert h7; cases ((s.modCore n fun c => { c with run := .run }).fetchOnce n).2 <;> simp
    exact Prod.ext rfl this

theorem witness_AluResults : Issues (coreOn id) (fetched (coreOn id) 0) (Fin.val (0 : Fin 11)) := issues_of (by decide)

theorem witness_ParityAndReversal : Issues (coreOn id) (fetched (coreOn id) 0) (Fin.val (0 : Fin 11)) := issues_of (by decide)

theorem witness_WideResults :
    Issues (coreOn fun c => { c with crccfg := 8 }) (fetched (coreOn fun c => { c with crccfg := 8 }) 0) (Fin.val (0 : Fin 11)) ∧
    8 ≤ fld ((coreOn fun c => { c with crccfg := 8 }).core (Fin.val (0 : Fin 11))).crccfg 0 6 ∧
    fld ((coreOn fun c => { c with crccfg := 0x20 }).core (Fin.val (0 : Fin 11))).crccfg 0 6 ≤ 32 ∧
    BitVec.toNat (30 : BitVec 5) % 2 = 0 ∧ (30 : BitVec 5) ≠ 0 := ⟨issues_of (by decide), by decide⟩

theorem witness_ControlFlow : ∀ n, n = Fin.val (0 : Fin 11) →
    Issues (coreOn id) (fetched (coreOn id) n) n ∧
    ((fetched (coreOn id) n).core n).slot = none ∧ ((fetched (coreOn id) n).core n).loopAt ((fetched (coreOn id) n).core n).pc = none ∧
    ((fetched (coreOn id) n).core n).loopAt (((fetched (coreOn id) n).core n).pc + 4) = none ∧
    ((fetched (coreOn id) n).core n).kept = none ∧ (fetched (coreOn id) n).traced n = false ∧
    ((fetched (coreOn id) n).core n).la0 = false ∧ ((fetched (coreOn id) n).core n).la1 = false := by
  rintro n rfl; exact ⟨issues_of (by decide), by decide⟩

/-- Loop 0 around PC, and both loops ending at PC. -/
def inLoop (c : CoreSt) : CoreSt := { c with la0 := true, lstart0 := 0, lend0 := 0x100, lcount0 := 2 }

def atEnds (k0 k1 : Word) (la1 : Bool) (c : CoreSt) : CoreSt :=
  { c with pc := 0x100, la0 := true, lstart0 := 0x40, lend0 := 0x100, lcount0 := k0, la1 := la1, lstart1 := 0x80, lend1 := 0x100, lcount1 := k1 }

theorem witness_ControlFlow_nested : Issues (coreOn inLoop) (fetched (coreOn inLoop) 0) (Fin.val (0 : Fin 11)) ∧
    ((fetched (coreOn inLoop) 0).core 0).la0 = true ∧ ((fetched (coreOn inLoop) 0).core 0).la1 = false ∧
    ((fetched (coreOn inLoop) 0).core 0).loopAt ((fetched (coreOn inLoop) 0).core 0).pc = none ∧
    ((fetched (coreOn inLoop) 0).core 0).loopAt (((fetched (coreOn inLoop) 0).core 0).pc + 4) = none ∧
    ((fetched (coreOn inLoop) 0).core 0).lstart0.toNat ≤ (((fetched (coreOn inLoop) 0).core 0).pc + 4).toNat ∧
    (((fetched (coreOn inLoop) 0).core 0).pc + 4 + 4 * wd (BitVec.toNat (62 : BitVec 12))).toNat ≤
      ((fetched (coreOn inLoop) 0).core 0).lend0.toNat := ⟨issues_of (by decide), by decide⟩

theorem witness_LoopDecision : ∀ p ∈ [((2 : Word), (1 : Word), false), (1, 1, false), (1, 2, true), (2, 1, true)],
    issuesB (coreOn (atEnds p.1 p.2.1 p.2.2)) 0 = true ∧
    ((fetched (coreOn (atEnds p.1 p.2.1 p.2.2)) 0).core 0).slot = none ∧
    ((fetched (coreOn (atEnds p.1 p.2.1 p.2.2)) 0).core 0).la0 = true ∧
    ((fetched (coreOn (atEnds p.1 p.2.1 p.2.2)) 0).core 0).lend0 = ((fetched (coreOn (atEnds p.1 p.2.1 p.2.2)) 0).core 0).pc ∧
    ((fetched (coreOn (atEnds p.1 p.2.1 p.2.2)) 0).core 0).lend1 = ((fetched (coreOn (atEnds p.1 p.2.1 p.2.2)) 0).core 0).pc :=
  each (by decide +kernel)

/-- g2 names descriptor 1. -/
def naming (c : CoreSt) : CoreSt := { c with g := [(2, 1)] }

def descOk (r : State × DescAns × Nat) (p : State → Seg → Bool) : Bool :=
  match r with
  | (v, .ok g, _) => p v g
  | _ => false

theorem loads_of {r : State × DescAns × Nat} {p : State → Seg → Bool} (h : descOk r p = true) :
    ∃ v g k, r = (v, .ok g, k) ∧ p v g = true := by
  obtain ⟨v, d, k⟩ := r
  cases d with
  | ok g => exact ⟨v, g, k, rfl, h⟩
  | fail c => simp [descOk] at h

theorem witness_SystemGroup : Issues (coreOn naming) (fetched (coreOn naming) 0) (Fin.val (0 : Fin 11)) ∧
    (∃ v g k, (fetched (coreOn naming) 0).loadDesc 0 ((((fetched (coreOn naming) 0).core 0).reg 2).toNat % 4096) = (v, .ok g, k) ∧
      decide (v.core 0 = (fetched (coreOn naming) 0).core 0 ∧ g.base = 0x20008000) = true) ∧
    ((fetched (coreOn naming) 0).flights.any fun f => f.agent == (fetched (coreOn naming) 0).coreAgent 0 && !f.timedOut) = false ∧
    specialNo (BitVec.toNat (0 : BitVec 12)) = true ∧ specialNo (BitVec.toNat (13 : BitVec 12)) = true ∧
    ((fetched (coreOn naming) 0).core 0).la0 = false ∧ ((fetched (coreOn naming) 0).core 0).la1 = false :=
  ⟨issues_of (by decide), loads_of (p := fun v g => decide (v.core 0 = _ ∧ g.base = 0x20008000)) (by decide +kernel), by decide⟩

/-- An access of CORE0 is in flight. -/
def flying : State :=
  { coreOn id with flights := [{ id := 7, agent := 0, gate := 12, epoch := 0, addr := 0x22000000, size := 4, write := true, fetch := false, data := [1, 2, 3, 4], cache := 0, order := 0, issued := 0, second := false, timedOut := false }] }

theorem witness_SystemGroup_fence : Issues flying (fetched flying 0) (Fin.val (0 : Fin 11)) ∧
    ((fetched flying 0).flights.any fun f => f.agent == (fetched flying 0).coreAgent 0 && !f.timedOut) = true :=
  ⟨issues_of (by decide), by decide⟩

/-- An exception is pending at the boundary of CORE0: ALARM (2), STORE_ERROR (3), or the software source 0 routed to it
at priority 5 (1). -/
def pends (code : Nat) : State :=
  (coreOn fun c => { c with pendAlarm := code == 2, pendSterr := code == 3 }).setRg pIRQ 0x680 (if code = 1 then 1 else 0)
    |>.setRg pIRQ 0x100 0x50001

/-- Every check of an entry passes. -/
def entersB (s : State) (n : Nat) (e : Exc) (p : State → Bool) : Bool :=
  (s.core n).xdepth < 8 && fld ((s.core n).gr 30) 0 4 == 0 &&
    (let r := s.coreTable n ((s.rg (pCORE n) 0x124).toNat + fld (s.rg (pCORE n) 0x128) 0 8 * 2 ^ 32 + 8 * vectorOf e.code) 8 .read []
     r.code == 0 && (vectorBad (wordOf r.data) (wordOf (r.data.drop 4))).isNone &&
       descOk (r.st.loadDesc n (fld (wordOf (r.data.drop 4)) 0 12)) fun t g =>
         !g.null && g.x && (t.frameWrite n 2 ((s.core n).gr 30 - 0x60) ((s.core n).frame e e.code 0 0)).2 &&
           p (t.frameWrite n 2 ((s.core n).gr 30 - 0x60) ((s.core n).frame e e.code 0 0)).1)

theorem enters_of {s : State} {n : Nat} {e : Exc} {p : State → Bool} (h : entersB s n e p = true) :
    ∃ u pc g hold, Enters s u n e pc g hold ∧ p u = true := by
  simp only [entersB, Bool.and_eq_true, decide_eq_true_eq, beq_iff_eq, Option.isNone_iff_eq_none] at h
  obtain ⟨⟨h1, h2⟩, ⟨h3, h4⟩, h5⟩ := h
  obtain ⟨t, g, k, h6, h7⟩ := loads_of h5
  simp only [Bool.and_eq_true, Bool.not_eq_true'] at h7
  obtain ⟨⟨⟨h8, h9⟩, h10⟩, h11⟩ := h7
  exact ⟨_, _, g, _, ⟨h1, h2, h8, h9, _, t, k, rfl, h3, h4, rfl, rfl, h6, Prod.ext rfl h10⟩, h11⟩

theorem witness_EntryAndReturn_entry : ∀ code ∈ [1, 2, 3],
    (pends code).coreLive 0 = true ∧ ((pends code).boundary 0).map (·.code) = some code ∧
    ((pends code).boundary 0).any (fun e => entersB (pends code) 0 e fun u => u.core 0 == (pends code).core 0) = true := by
  decide +kernel

/-- TRAP of CORE0 has completed. -/
def trapped : State :=
  (fetched (coreOn id) 0).modCore 0 fun c => c.complete ((fetched (coreOn id) 0).core 0) .trap .seq

theorem witness_EntryAndReturn_trap : Issues (coreOn id) (fetched (coreOn id) 0) (Fin.val (0 : Fin 11)) ∧
    ((fetched (coreOn id) 0).core 0).slot = none ∧ ((fetched (coreOn id) 0).core 0).esc = false ∧
    (∃ u pc g hold, Enters trapped u 0 { code := 4, faddr := BitVec.zeroExtend 32 (7 : BitVec 12), ref := (trapped.core 0).asyncRef } pc g hold ∧
      (u.core 0 == trapped.core 0) = true) :=
  ⟨issues_of (by decide), by decide, by decide, enters_of (p := fun u => u.core 0 == trapped.core 0) (by decide +kernel)⟩

/-- A handler of CORE0 with its frame below 0x1000 of the stack. -/
def handling : State :=
  let s := coreOn fun c => { c with xdepth := 1, g := [(30, 0xFA0)], ledger := [{}] }
  (s.frameWrite 0 2 0xFA0 (core0St.frame { code := 4, ref := { epc := 0x40, npc := 0x44, done := true } } 4 0 0)).1

/-- Its frame is read and its segments are those of the frame. -/
def returnsB (t : State) (n : Nat) : Bool :=
  match t.frameRead n 2 ((t.core n).gr 30) 24 with
  | (v, some ws) =>
    match v.frameSegs n ws with
    | (w, some segs) => w.core n == t.core n && !(tget {} segs 0).null && (tget {} segs 0).x && !bitAt (ws.getD 2 0) 2 && loopsOk ws &&
        fld (ws.getD 0 0) 0 2 == 0 && fld (ws.getD 1 0) 0 2 == 0
    | _ => false
  | _ => false

theorem returns_of {t : State} {n : Nat} (h : returnsB t n = true) : ∃ v w ws segs,
    t.frameRead n 2 ((t.core n).gr 30) 24 = (v, some ws) ∧ v.frameSegs n ws = (w, some segs) ∧ w.core n = t.core n ∧
    (tget {} segs 0).null = false ∧ (tget {} segs 0).x = true ∧ bitAt (ws.getD 2 0) 2 = false ∧ loopsOk ws = true ∧
    fld (ws.getD 0 0) 0 2 = 0 ∧ fld (ws.getD 1 0) 0 2 = 0 := by
  unfold returnsB at h
  split at h
  · rename_i v ws h1
    split at h
    · rename_i w segs h2
      simp only [Bool.and_eq_true, beq_iff_eq, Bool.not_eq_true'] at h
      obtain ⟨⟨⟨⟨⟨⟨a, b⟩, c⟩, d⟩, e⟩, f⟩, g⟩ := h
      exact ⟨v, w, ws, segs, h1, h2, a, b, c, d, e, f, g⟩
    · cases h
  · cases h

theorem witness_EntryAndReturn_return : Issues handling (fetched handling 0) (Fin.val (0 : Fin 11)) ∧
    ((fetched handling 0).core 0).slot = none ∧
    ((fetched handling 0).core 0).loopAt ((fetched handling 0).core 0).pc = none ∧
    ((fetched handling 0).core 0).esc = false ∧ ((fetched handling 0).core 0).xdepth ≠ 0 ∧ returnsB (fetched handling 0) 0 = true :=
  ⟨issues_of (by decide +kernel), by decide +kernel⟩

/-- CORE0 in RESET, its table and its entry set. -/
def resting : State := (coreOn id).setCore 0 { agent := some 0 }

/-- What CORE_RELEASE loads. -/
def releasing (u : State) (n : Nat) : State :=
  ((u.pairDrop (rkey (pCORE n) 0x10)).setRg (pCORE n) 0x10 1).setCore n { agent := (u.core n).agent, bps := (u.core n).bps }

theorem witness_CoreControl_release : mcore.toNat = aMCORE ∧
    Pairs resting (pairEnd resting mcore (pCORE 0) 0x10 1) mcore (pCORE 0) 0x10 1 ∧
    ((pairEnd resting mcore (pCORE 0) 0x10 1).core 0).run = .reset ∧
    bitAt ((pairEnd resting mcore (pCORE 0) 0x10 1).rg pSYS 0x100) 31 = true ∧
    ((pairEnd resting mcore (pCORE 0) 0x10 1).core 0).agent = some 0 ∧
    (tget {} ((releasing (pairEnd resting mcore (pCORE 0) 0x10 1) 0).loadSegs 0).2 0).null = false ∧
    (tget {} ((releasing (pairEnd resting mcore (pCORE 0) 0x10 1) 0).loadSegs 0).2 0).x = true ∧
    ((releasing (pairEnd resting mcore (pCORE 0) 0x10 1) 0).loadSegs 0).1.changes = [] ∧
    ((releasing (pairEnd resting mcore (pCORE 0) 0x10 1) 0).loadSegs 0).1.held = none :=
  ⟨rfl, pairs_of (by decide), by decide +kernel⟩

theorem witness_CoreControl_reset : mcore.toNat = aMCORE ∧
    Pairs (coreOn id) (pairEnd (coreOn id) mcore (pCORE 0) 0x10 2) mcore (pCORE 0) 0x10 (if true then 2 else 0) ∧
    Pairs (coreOn id) (pairEnd (coreOn id) mcore (pCORE 0) 0x10 0) mcore (pCORE 0) 0x10 (if false then 2 else 0) :=
  ⟨rfl, pairs_of (by decide), pairs_of (by decide)⟩

theorem witness_CoreControl_breakpoint : ∀ s, s = (coreOn fun c => { c with bps := [0, 0, 0, 1] }) →
    s.coreLive (Fin.val (0 : Fin 11)) = true ∧ (s.core 0).atBreak false = true ∧ (s.core 0).slot = none ∧ (s.core 0).run = .run ∧
    (s.core 0).dbgHalt = false ∧ (s.core 0).closed = false ∧ s.haltCovers 0 = true := by
  rintro s rfl; decide

def coreOf (s : State) : CoreSt := (fetched s 0).core 0

theorem witness_LoadsAndStores : Issues (coreOn id) (fetched (coreOn id) 0) (Fin.val (0 : Fin 11)) ∧
    (coreOf (coreOn id)).got = none ∧
    (fetched (coreOn id) 0).changes = [] ∧ (∀ a n, (fetched (coreOn id) 0).badWord a n = none) ∧
    (∀ g a n, ((fetched (coreOn id) 0).fateOf g a n).upset = .none) :=
  ⟨issues_of (by decide), by decide, by decide, fun _ _ => rfl, fun _ _ _ => rfl⟩

/-- An aligned access at an offset of the data segment passes R55 and goes through the private path. -/
def dataPass (off : Word) (size : Nat) : Bool :=
  (((coreOf (coreOn id)).seg (BitVec.toNat (1 : BitVec 3))).base + off.toNat) % size == 0 &&
  (coreOf (coreOn id)).check 1 off size (·.r) == .inl (0x20008000 + off.toNat) &&
  (coreOf (coreOn id)).check 1 off size (·.w) == .inl (0x20008000 + off.toNat) &&
  privatePath 0 (0x20008000 + off.toNat) size &&
  (fetched (coreOn id) 0).rangeOk (0x20008000 + off.toNat) size .write &&
  (fetched (coreOn id) 0).rangeOk (0x20008000 + off.toNat) size .read

theorem witness_LoadsAndStores_first : [1, 2, 4].all (dataPass 0) = true := by decide
theorem witness_LoadsAndStores_last : dataPass 0x7FFF 1 = true ∧ dataPass 0x7FFE 2 = true ∧ dataPass 0x7FFC 4 = true := by
  decide

def loadedB (r : State × SegRes) (p : State → Bool) : Bool :=
  match r with
  | (v, .done _) => p v
  | _ => false

theorem witness_LoadsAndStores_answered :
    loadedB ((fetched (coreOn id) 0).loadThrough 0 1 ((coreOf (coreOn id)).seg 1) 0x20008000 4 .none)
      (fun v => v.core 0 == coreOf (coreOn id) && v.changes.isEmpty) = true := by decide

/-- CORE0 holds the first line of shared SRAM, reached through segment 3. -/
def caching (dirty : Bool) : State := (((((coreOn fun c =>
  { c with segs := [(0, codeSeg), (3, { dataSeg with base := 0x22000000 })], dcache := [(0x22000000 / 64, { data := List.replicate 64 5, dirty := dirty, wt := false, seg := 3 })] }).setRg (pGATE 12) 0x10 1).setRg
    (pGATE 12) 0x400 0x220000).setRg (pGATE 12) 0x404 0x2200FF).setRg (pGATE 12) 0x408 0x81000E1F)

theorem witness_CacheOperations : Issues (caching false) (fetched (caching false) 0) (Fin.val (0 : Fin 11)) ∧
    (fetched (caching false) 0).changes = [] ∧
    (coreOf (caching false)).check (BitVec.toNat (3 : BitVec 3)) 0 1 (fun g => g.r || g.w) = .inl 0x22000000 ∧
    (coreOf (caching false)).check (BitVec.toNat (3 : BitVec 3)) 0 1 (fun g => g.w) = .inl 0x22000000 ∧
    (coreOf (caching false)).check (BitVec.toNat (0 : BitVec 3)) 0 1 (fun g => g.x) = .inl 0x20000000 ∧
    (tfind (coreOf (caching false)).dcache (0x22000000 / 64)).any (fun d => !d.dirty) = true ∧
    (∀ e ∈ (coreOf (caching false)).dcache, e.2.dirty = false) := ⟨issues_of (by decide), by decide⟩

/-- What `WroteBack` asks. -/
def wroteB (c : CoreSt) (t : State) (n line : Nat) (d : DLine) : Bool :=
  let r := (t.setCore n c).access (t.coreAgent n) (64 * line) 64 .write d.data d.order .none
  r.ans.st.core n == c && r.ans.st.changes.isEmpty && r.ans.st.held == t.held && !r.ans.st.rbit (pCORE n) 0x11C 31

theorem wrote_of {c : CoreSt} {t : State} {n line : Nat} {d : DLine} (h : wroteB c t n line d = true) :
    WroteBack c t n line d ((t.setCore n c).access (t.coreAgent n) (64 * line) 64 .write d.data d.order .none) := by
  simp only [wroteB, Bool.and_eq_true, beq_iff_eq, List.isEmpty_iff, Bool.not_eq_true'] at h
  exact ⟨rfl, h.1.1.1, ⟨h.1.1.2, h.1.2⟩, h.2⟩

/-- The dirty line of `caching true`. -/
def dirtyLine : DLine := { data := List.replicate 64 5, dirty := true, wt := false, seg := 3 }

theorem witness_CacheOperations_dirty : Issues (caching true) (fetched (caching true) 0) (Fin.val (0 : Fin 11)) ∧
    (fetched (caching true) 0).changes = [] ∧ (coreOf (caching true)).dcache = [(0x22000000 / 64, dirtyLine)] ∧
    (coreOf (caching true)).check (BitVec.toNat (3 : BitVec 3)) 0 1 (fun g => g.r || g.w) = .inl 0x22000000 ∧
    (∃ r, WroteBack { coreOf (caching true) with
      dcache := tset (coreOf (caching true)).dcache (0x22000000 / 64) { dirtyLine with dirty := false } }
      (fetched (caching true) 0) 0 (0x22000000 / 64) dirtyLine r) ∧
    (∃ r, WroteBack { coreOf (caching true) with dcache := tdel (coreOf (caching true)).dcache (0x22000000 / 64) }
      (fetched (caching true) 0) 0 (0x22000000 / 64) dirtyLine r) :=
  ⟨issues_of (by decide), by decide, by decide, by decide, ⟨_, wrote_of (by decide +kernel)⟩, ⟨_, wrote_of (by decide +kernel)⟩⟩

/-- Its write-back is refused. -/
def cachingBad : State := (caching true).setRg (pGATE 12) 0x408 0x8100021F

theorem witness_CacheOperations_refused : Issues cachingBad (fetched cachingBad 0) (Fin.val (0 : Fin 11)) ∧
    (∃ r, WroteBack { coreOf cachingBad with
      dcache := tset (coreOf cachingBad).dcache (0x22000000 / 64) { dirtyLine with dirty := false } }
      (fetched cachingBad 0) 0 (0x22000000 / 64) dirtyLine r) ∧
    (∃ r, WroteBack { coreOf cachingBad with dcache := tdel (coreOf cachingBad).dcache (0x22000000 / 64) }
      (fetched cachingBad 0) 0 (0x22000000 / 64) dirtyLine r ∧ r.flight = none ∧ r.ans.fault ≠ .none) :=
  ⟨issues_of (by decide), ⟨_, wrote_of (by decide +kernel)⟩, ⟨_, wrote_of (by decide +kernel), by decide +kernel⟩⟩

theorem witness_CacheOperations_all : (∃ v,
      v = (fetched (caching true) 0).eachLine ((coreOf (caching true)).dcache.map (·.1)) (fun w l => w.cleanLine 0 l) ∧
      LinesDone (coreOf (caching true)) v 0) ∧
    (∃ v, v = (fetched (caching true) 0).eachLine ((coreOf (caching true)).dcache.map (·.1)) (fun w l => w.evict 0 l) ∧
      LinesDone (coreOf (caching true)) v 0) :=
  ⟨⟨_, rfl, by decide +kernel, by decide +kernel⟩, ⟨_, rfl, by decide +kernel, by decide +kernel⟩⟩

/-- MCORE runs from its own SRAM. -/
def coreless : State :=
  sramOn.setCore 9 { run := .run, agent := some 0x11, segs := [(0, { codeSeg with base := 0x25000000 })] }

theorem witness_CacheOperations_none : Issues coreless (fetched coreless 9) (Fin.val (9 : Fin 11)) ∧
    (fetched coreless 9).changes = [] ∧ 8 ≤ (9 : Fin 11).val := ⟨issues_of (by decide), by decide⟩

/-- CORE0 holds two instruction lines and its boundary is closed before an operation that a software source interrupts. -/
def cutting : State :=
  ((coreOn fun c => { c with closed := true, icache := [0x800000, 0x800001] }).setRg pIRQ 0x680 1).setRg pIRQ 0x100 0x50001

/-- One of them is discarded. -/
def cutHalf : State := (fetched cutting 0).eachLine ((coreOf cutting).icache.take 1) (fun w l => w.discardFetched 0 l)

theorem witness_CacheOperations_cut : Issues cutting (fetched cutting 0) (Fin.val (0 : Fin 11)) ∧
    1 < (coreOf cutting).icache.length ∧
    (cutHalf.interruptInside 0).any (fun e => entersB cutHalf 0 e fun u => u.core 0 == cutHalf.core 0) = true :=
  ⟨issues_of (by decide +kernel), by decide +kernel, by decide +kernel⟩

/-! ### On-chip memory, DRAM, the seal, flash and random numbers -/

/-- The RNG serves, and the key store's wire holds 128 bytes. -/
def drawing : State :=
  { lit with rng := { ({} : RngSt) with ready := true, insts := [(4, { block := List.replicate 128 7 }), (5, { block := List.replicate 64 9 })] } }

theorem draw_of {s : State} {c n : Nat} (hf : s.rng.fault = false) (hn : n ≤ (s.rngInst c).block.length) :
    ∃ t k, s.wireDraw c n = (t, 0, k) := by
  simp [State.wireDraw, hf, State.rngGather, hn]

/-- SRAM with a part of its state set. -/
def withSram (m : SramSt) : State := { drawing with sram := m }

def rngFails (s : State) : State := { s with rng := { s.rng with fault := true } }

theorem witness_SramKeysAndScrub_rekey : mcore.toNat = aMCORE ∧
    CtrlBits (withSram {}) (pairEnd (withSram {}) mcore pSRAM 0x10 0x100) mcore pSRAM 0x100 ∧
    ((pairEnd (withSram {}) mcore pSRAM 0x10 0x100).sram.rekeyUsed || (pairEnd (withSram {}) mcore pSRAM 0x10 0x100).sram.drawWait) = false :=
  ⟨rfl, pairs_of (by decide), by decide⟩

theorem witness_SramKeysAndScrub_again :
    CtrlBits (withSram { rekeyUsed := true }) (pairEnd (withSram { rekeyUsed := true }) mcore pSRAM 0x10 0x100) mcore pSRAM 0x100 ∧
    ((pairEnd (withSram { rekeyUsed := true }) mcore pSRAM 0x10 0x100).sram.rekeyUsed ||
      (pairEnd (withSram { rekeyUsed := true }) mcore pSRAM 0x10 0x100).sram.drawWait) = true :=
  ⟨pairs_of (by decide), by decide⟩

theorem witness_SramKeysAndScrub_draw : (withSram { drawWait := true }).sram.drawWait = true ∧
    (withSram { drawWait := true }).rng.fault = false ∧ (withSram { drawWait := true }).rng.ready = true ∧
    ∃ t k, (withSram { drawWait := true }).wireDraw keyWire (16 * (withSram { drawWait := true }).banksOn.length) = (t, 0, k) :=
  ⟨rfl, rfl, rfl, draw_of rfl (by decide +kernel)⟩

theorem witness_SramKeysAndScrub_noDraw : (rngFails (withSram { drawWait := true })).sram.drawWait = true ∧
    (rngFails (withSram { drawWait := true })).rng.fault = true ∧ State.reset.rng.ready = false ∧ State.reset.rng.fault = false ∧
    (withSram { walking := true }).sram.walking = true := ⟨rfl, rfl, rfl, rfl, rfl⟩

theorem witness_SramKeysAndScrub_bank : ∀ b ∈ [0, 7], (withSram { zeroDraw := 255 }).sram.zeroDraw.testBit b = true ∧
    (withSram { zeroDraw := 255 }).rng.fault = false ∧ 16 ≤ ((withSram { zeroDraw := 255 }).rngInst keyWire).block.length ∧
    (rngFails (withSram { zeroDraw := 255 })).rng.fault = true ∧ (withSram {}).pdOn (bankDomain b) = true ∧
    (withSram {}).sram.banks.getD b 0 < 2 ∧ (withSram {}).sram.zeroDraw.testBit b = false := by decide +kernel

theorem witness_SramKeysAndScrub_scrub : ∀ b ∈ [0, 7], sramOn.changes = [] ∧ sramOn.rbit pSRAM 0x10 9 = false ∧
    (sramOn.setRg pSRAM 0x10 0x201).rbit pSRAM 0x10 9 = true ∧ (sramOn.setRg pSRAM 0x10 0x201).bankUsable b = true ∧
    (sramOn.setRg pSRAM 0x10 0x201).rbit pSRAM 0x110 31 = false ∧ (sramOn.setRg pSRAM 0x10 0x201).sram.bad = [] := by decide

/-- DRAM with a part of its state and its CFG set. -/
def withDdr (d : DdrSt) (cfg : Word) : State :=
  { drawing.setRg pDDR 0x100 cfg with ddr := d, pwr := { drawing.pwr with dramUp := true } }

theorem witness_DramTrainingAndKeys_train : CtrlBits (withDdr {} 0) (pairEnd (withDdr {} 0) mcore pDDR 0x10 0x100) mcore pDDR 0x100 ∧
    (pairEnd (withDdr {} 0) mcore pDDR 0x10 0x100).ddr.mode ≠ 1 ∧
    fld ((pairEnd (withDdr {} 0) mcore pDDR 0x10 0x100).rg pDDR 0x100) 0 2 ≠ 3 ∧
    fld ((pairEnd (withDdr {} 0) mcore pDDR 0x10 0x100).rg pDDR 0x100) 4 2 ≠ 3 ∧
    (pairEnd (withDdr {} 0) mcore pDDR 0x10 0x100).pwr.dramUp = true := ⟨pairs_of (by decide), by decide⟩

theorem witness_DramTrainingAndKeys_reserved :
    CtrlBits (withDdr {} 3) (pairEnd (withDdr {} 3) mcore pDDR 0x10 0x100) mcore pDDR 0x100 ∧
    fld ((pairEnd (withDdr {} 3) mcore pDDR 0x10 0x100).rg pDDR 0x100) 0 2 = 3 ∧
    fld ((withDdr {} 0x30).rg pDDR 0x100) 4 2 = 3 := ⟨pairs_of (by decide), by decide⟩

theorem witness_DramTrainingAndKeys_key :
    CtrlBits (withDdr { trained := true, mode := 2 } 0) (pairEnd (withDdr { trained := true, mode := 2 } 0) mcore pDDR 0x10 0x200) mcore pDDR 0x200 ∧
    ((pairEnd (withDdr { trained := true, mode := 2 } 0) mcore pDDR 0x10 0x200).ddr.keyUsed ||
      (pairEnd (withDdr { trained := true, mode := 2 } 0) mcore pDDR 0x10 0x200).ddr.drawWait) = false ∧
    (pairEnd (withDdr { trained := true, mode := 2 } 0) mcore pDDR 0x10 0x200).ddr.trained = true ∧
    (pairEnd (withDdr { trained := true, mode := 2 } 0) mcore pDDR 0x10 0x200).ddr.mode ≠ 1 := ⟨pairs_of (by decide), by decide⟩

theorem witness_DramTrainingAndKeys_keyAgain :
    CtrlBits (withDdr { keyUsed := true } 0) (pairEnd (withDdr { keyUsed := true } 0) mcore pDDR 0x10 0x200) mcore pDDR 0x200 ∧
    ((pairEnd (withDdr { keyUsed := true } 0) mcore pDDR 0x10 0x200).ddr.keyUsed ||
      (pairEnd (withDdr { keyUsed := true } 0) mcore pDDR 0x10 0x200).ddr.drawWait) = true := ⟨pairs_of (by decide), by decide⟩

theorem witness_DramTrainingAndKeys_events : (withDdr { mode := 1 } 0).ddr.mode = 1 ∧
    (withDdr { mode := 2 } 0).ddr.mode = 2 ∧ (withDdr { drawWait := true } 0).ddr.drawWait = true ∧
    (withDdr { drawWait := true } 0).rng.ready = true ∧ (withDdr { drawWait := true } 0).rng.fault = false ∧
    (rngFails (withDdr { drawWait := true } 0)).rng.fault = true ∧
    ∃ t k, (withDdr { drawWait := true } 0).wireDraw keyWire 64 = (t, 0, k) :=
  ⟨rfl, rfl, rfl, rfl, rfl, rfl, draw_of rfl (by decide +kernel)⟩

/-- The smallest window of a trained and keyed DRAM of 1 GiB. -/
def withSeal (m : MsealSt) : State :=
  { ((withDdr { trained := true, mode := 2, keyed := true } 0).setRg pDDR 0x108 1024).setRg pMSEAL 0x104 1 with mseal := m }

theorem witness_ProtectedWindow_init :
    CtrlBits (withSeal {}) (pairEnd (withSeal {}) mcore pMSEAL 0x10 0x100) mcore pMSEAL 0x100 ∧
    ((pairEnd (withSeal {}) mcore pMSEAL 0x10 0x100).mseal.initUsed || (pairEnd (withSeal {}) mcore pMSEAL 0x10 0x100).mseal.initBusy) = false ∧
    (pairEnd (withSeal {}) mcore pMSEAL 0x10 0x100).msealBadWindow = false := ⟨pairs_of (by decide), by decide⟩

theorem witness_ProtectedWindow_refused :
    CtrlBits (withSeal { initUsed := true }) (pairEnd (withSeal { initUsed := true }) mcore pMSEAL 0x10 0x100) mcore pMSEAL 0x100 ∧
    ((pairEnd (withSeal { initUsed := true }) mcore pMSEAL 0x10 0x100).mseal.initUsed ||
      (pairEnd (withSeal { initUsed := true }) mcore pMSEAL 0x10 0x100).mseal.initBusy) = true ∧ lit.msealBadWindow = true :=
  ⟨pairs_of (by decide), by decide⟩

theorem witness_ProtectedWindow_events : (withSeal { drawWait := true }).mseal.drawWait = true ∧
    (withSeal { drawWait := true }).rng.ready = true ∧ (withSeal { drawWait := true }).rng.fault = false ∧
    (withSeal { initBusy := true }).mseal.initBusy = true ∧ (withSeal { initBusy := true }).mseal.drawWait = false ∧
    (withSeal { initBusy := true }).tamp.halted = false ∧
    ∃ t k, (withSeal { drawWait := true }).wireDraw keyWire 32 = (t, 0, k) := ⟨rfl, rfl, rfl, rfl, rfl, rfl, draw_of rfl (by decide +kernel)⟩

/-- The window serves; line 1 is one write short of its minor counter's end. -/
def sealed : State := withSeal { winReady := true, initUsed := true, blocks := [(0, { minors := [(1, 63)] })] }

/-- An access of the window is served at once. -/
def servedB (s : State) (a : AgentId) (addr n : Nat) (k : AccKind) (u : Upset) : Bool :=
  match s.busAdmits a.toNat addr n k (issuedOrder a.toNat) u with
  | .yes _ _ _ _ false false v => v == u
  | _ => false

theorem served_of {s : State} {a : AgentId} {addr n : Nat} {k : AccKind} {u : Upset} (h : servedB s a addr n k u = true) :
    Served s a addr n k u := by
  unfold servedB at h
  split at h
  · rename_i t c o m v e
    exact ⟨t, c, o, m, by rw [e, eq_of_beq h]⟩
  · cases h

theorem witness_ProtectedWindow_lines : ∀ line ∈ [0x100000000, 0x100000040],
    line % 64 = 0 ∧ sealed.inWindow line 64 = true ∧ regionOf line = some .dram ∧ sealed.issues mcore.toNat = true ∧
    servedB sealed mcore line 64 .read .none = true ∧ servedB sealed mcore line 64 .write .none = true ∧
    servedB sealed mcore line 64 .read (.seal (.line 0)) = true ∧
    servedB sealed mcore line 64 .read (.seal .block) = true ∧ sealed.mseal.cache = [] ∧
    sealed.rbit pMSEAL 0x114 31 = false ∧ (line - sealed.winBase) / 64 = (line - 0x100000000) / 64 := by decide

theorem witness_ProtectedWindow_served : Served sealed mcore 0x100000000 64 .read (.seal .block) :=
  served_of (by decide)

theorem witness_ProtectedWindow_counters :
    tget 0 (tget {} sealed.mseal.blocks (1 / 64)).minors (1 % 64) = 63 ∧ (tget {} sealed.mseal.blocks (1 / 64)).major < 2 ^ 56 - 1 ∧
    tget 0 (tget {} sealed.mseal.blocks (0 / 64)).minors (0 % 64) < 63 := by decide

theorem witness_ProtectedWindow_metadata : (withSeal { cache := [(5, true), (0, false)] }).tamp.halted = false ∧
    (withSeal { cache := [(5, true), (0, false)] }).mseal.cache.getLast? = some (0, false) := by decide

/-- The cache's last entry is a dirty line of level `l`. -/
def dirtyMeta (l : Nat) (cached : Bool) : State :=
  withSeal { cache := (if cached then [((withSeal {}).nodeLine (l + 1) 0, false)] else []) ++ [((withSeal {}).levelBase l, true)] }

theorem witness_ProtectedWindow_dirty : ∀ l ∈ [0, (withSeal {}).sealLevels], ∀ cached,
    (dirtyMeta l cached).tamp.halted = false ∧
    (dirtyMeta l cached).mseal.cache.getLast? = some ((withSeal {}).levelBase l, true) ∧
    (dirtyMeta l cached).lineNode ((withSeal {}).levelBase l) = some (l, 0) ∧
    (dirtyMeta l cached).mseal.cache.dropLast.any (fun e => e.1 == (dirtyMeta l cached).nodeLine (l + 1) 0) = cached ∧
    (dirtyMeta l cached).mseal.cache.length ≤ 2042 := by decide +kernel

theorem witness_ProtectedWindow_mismatch : (1 : Fin 6).val = 0 + 1 ∧ 0 ≠ (dirtyMeta 0 false).sealLevels ∧
    (∀ e ∈ (dirtyMeta 0 false).mseal.cache, e.1 ≠ (dirtyMeta 0 false).nodeLine 1 0) := by decide +kernel

/-! ### Flash -/

/-- Channel 0 as given, its target the word or sector at `off`, MCORE's writes let pass. -/
def withChan (c : FlashChan) (off : Word) : State :=
  { (((((drawing.setRg pFLASH 0x104 off).setRg (pGATE 1) 0x10 1).setRg (pGATE 1) 0x400 0x100000).setRg (pGATE 1) 0x404 0x107FFF).setRg
      (pGATE 1) 0x408 0x81110E1F) with flash := { ({} : FlashSt) with chans := [c, {}], scanned := true } }

/-- Channel 0 is unlocked for MCORE. -/
def mine (off : Word) : State := withChan { unlock := 2, owner := 0x11 } off

theorem witness_FlashProgramsAndErases_keys : ∀ c ∈ [({} : FlashChan), { unlock := 1, keyAgent := 0x11 }],
    lets (withChan c 0) mcore pFLASH (chanReg 0 0x100) = true ∧ lets (withChan c 0) mcore pFLASH (chanReg 1 0x100) = true ∧
    ((reach (withChan c 0) mcore pFLASH (chanReg 0 0x100)).flash.chan 0).stuck = false := by decide

theorem witness_FlashProgramsAndErases_other : Writes ((withChan {} 0).vinReads true) (reach ((withChan {} 0).vinReads true) mcore pFLASH (chanReg (0 : Fin 2) 0x118))
      mcore pFLASH (chanReg (0 : Fin 2) 0x118) ∧
    ((reach ((withChan {} 0).vinReads true) mcore pFLASH (chanReg 0 0x118)).flash.chan 0).owner ≠ mcore.toNat ∧
    ((reach ((withChan {} 0).vinReads true) mcore pFLASH (chanReg 0 0x118)).flash.chan 0).unlock ≠ 1 :=
  ⟨writes_of (by decide), by decide⟩

theorem witness_FlashProgramsAndErases_program : ∀ low, lets ((mine 0x40010).vinReads low) mcore pFLASH (chanReg 0 0x118) = true ∧
    (fun t => ((t.flash.chan 0).unlock = 2 ∧ (t.flash.chan 0).owner = mcore.toNat) ∧ (t.flash.chan 0).prog = none ∧
      (t.flash.chan 0).check = none ∧ (t.flash.chan 0).erase = none ∧ fld (t.rg pFLASH (chanReg 0 0x104)) 0 23 = 0x40010 ∧
      0x40010 / 0x400000 = 0 ∧ 0x40010 % 16 = 0 ∧ t.flashProtected mcore.toNat (0x40010 / 0x4000) = false ∧
      t.judge ((gateOf (0x10000000 + 0x40010)).getD 0) mcore.toNat (0x10000000 + 0x40010) 16 .write = .letPass 0 0 false ∧
      tget 3 t.flash.ws (0x40010 / 16) = 3 ∧ t.flash.sectState (0x40010 / 0x4000) ≠ 1 ∧ (t.flash.chan 0).lowers = false)
      (reach ((mine 0x40010).vinReads low) mcore pFLASH (chanReg 0 0x118)) := by decide

theorem witness_FlashProgramsAndErases_erase : lets ((mine 0x40000).vinReads false) mcore pFLASH (chanReg 0 0x118) = true ∧
    (fun t => fld (t.rg pFLASH (chanReg 0 0x104)) 14 9 = 16 ∧ 16 / 256 = 0 ∧ t.flashProtected mcore.toNat 16 = false ∧
      t.judge ((gateOf (0x10000000 + 16 * 0x4000)).getD 0) mcore.toNat (0x10000000 + 16 * 0x4000) 0x4000 .write =
        .letPass 0 0 false ∧ (t.flash.chan 0).unlock = 2 ∧ (t.flash.chan 0).owner = mcore.toNat ∧
      (t.flash.chan 0).prog = none ∧ (t.flash.chan 0).check = none ∧ (t.flash.chan 0).erase = none ∧ (t.flash.chan 0).lowers = false)
      (reach ((mine 0x40000).vinReads false) mcore pFLASH (chanReg 0 0x118)) := by decide

/-- An erase of sector 16 at one of its steps, its newer row as step 1 needs it. -/
def stepping (n : Nat) : State :=
  let s := withChan { unlock := 2, owner := 0x11, erase := some 16, step := n } 0
  { s with flash := { s.flash with rows := [(16, ({ seq := 1, erases := 1, started := 1 }, {}))] } }

theorem witness_FlashProgramsAndErases_steps : ∀ n ∈ [0, 1, 2, 3], ((stepping n).flash.chan 0).erase = some 16 ∧
    ((stepping n).flash.chan 0).suspended = false ∧ ((stepping n).flash.chan 0).step = n ∧
    olderRow (stepping n).flash 16 = { seq := ((stepping n).flash.governing 16).seq + 1, erases := ((stepping n).flash.governing 16).erases + 1, started := 1 } ∧
    ((stepping n).flash.chan 0).lowers = false ∧ (stepping n).flash.lowerAt = none := by decide

theorem witness_FlashProgramsAndErases_written : tget 3 ({ (mine 0) with flash := { (mine 0).flash with ws := [(0, 0)] } } : State).flash.ws 0 ≠ 3 ∧
    ((withChan { unlock := 2, owner := 0x11, prog := some (5, List.replicate 16 1) } 0).flash.chan 0).prog = some (5, List.replicate 16 1) ∧
    (withChan { unlock := 2, owner := 0x11, prog := some (5, List.replicate 16 1) } 0).flash.lowerAt = none ∧
    ((withChan { unlock := 2, owner := 0x11, erase := some 16 } 0).flash.chan 0).erase = some 16 ∧
    ((withChan { unlock := 2, owner := 0x11, erase := some 16 } 0).flash.chan 0).suspended = false := by decide

/-- An erase of sector 16, running or suspended. -/
def erasing (suspended : Bool) : State :=
  withChan { unlock := 2, owner := 0x11, erase := some 16, suspended := suspended, auto := suspended, want := !suspended } 0

theorem witness_FlashChecksAndProtection_erase : ∀ b, lets (erasing b) mcore pFLASH (chanReg 0 0x118) = true ∧
    (fun c => c.unlock = 2 ∧ c.owner = mcore.toNat ∧ c.prog = none ∧ c.check = none ∧ c.erase = some 16 ∧ c.suspended = b ∧
      c.auto = b ∧ c.want = !b ∧ c.lowers = false) ((reach (erasing b) mcore pFLASH (chanReg 0 0x118)).flash.chan 0) := by decide

theorem witness_FlashChecksAndProtection_idle : lets (mine 0x40000) mcore pFLASH (chanReg 0 0x118) = true ∧
    (fun t => (t.flash.chan 0).unlock = 2 ∧ (t.flash.chan 0).owner = mcore.toNat ∧ (t.flash.chan 0).prog = none ∧
      (t.flash.chan 0).check = none ∧ (t.flash.chan 0).erase = none ∧ (t.flash.chan 0).lowers = false ∧
      fld (t.rg pFLASH (chanReg 0 0x104)) 14 9 / 256 = 0)
      (reach (mine 0x40000) mcore pFLASH (chanReg 0 0x118)) := by decide

/-- SET_RDP's argument. -/
def rdpArg (new : Word) (level : Nat) : State :=
  { (mine 0).setRg pFLASH 0x108 new with flash := { (mine 0).flash with rdp := level } }

theorem witness_FlashChecksAndProtection_rdp : ∀ p ∈ [((1 : Word), 0), (2, 0), (2, 1)],
    lets (rdpArg p.1 p.2) mcore pFLASH (chanReg 0 0x118) = true ∧
    (fun t => fld (t.rg pFLASH (chanReg 0 0x108)) 0 2 = p.1.toNat ∧ t.rdpLevel = p.2 ∧
      rdpMove t.lcState t.rdpLevel p.1.toNat = true) (reach (rdpArg p.1 p.2) mcore pFLASH (chanReg 0 0x118)) := by decide

theorem witness_FlashChecksAndProtection_lower : lets (rdpArg 0 1) mcore pFLASH (chanReg 0 0x118) = true ∧
    (fun t => fld (t.rg pFLASH (chanReg 0 0x108)) 0 2 = 0 ∧ t.rdpLevel = 1 ∧ rdpMove t.lcState 1 0 = true)
      (reach (rdpArg 0 1) mcore pFLASH (chanReg 0 0x118)) := by decide

/-- A lowering erases a sector, in its last step. -/
def lowering (sec : Nat) : State :=
  let s := withChan { unlock := 2, owner := 0x11 } 0
  let c : FlashChan := { erase := some sec, step := 3, lowers := true }
  { s with flash := { s.flash with chans := if sec < 256 then [c, {}] else [{}, c], lowering := true, lowerAt := some sec } }

theorem witness_FlashChecksAndProtection_lowers : ∀ p ∈ [(5, 0, 6), (223, 0, 256), (256, 1, 257)],
    ((lowering p.1).flash.chan p.2.1).erase = some p.1 ∧ ((lowering p.1).flash.chan p.2.1).suspended = false ∧
    ((lowering p.1).flash.chan p.2.1).step = 3 ∧ ((lowering p.1).flash.chan p.2.1).lowers = true ∧ lowerAfter p.1 = some p.2.2 ∧
    ((lowering p.1).flash.chan p.2.1).prog = none ∧ ((lowering p.1).flash.chan p.2.1).check = none := by decide

theorem witness_FlashChecksAndProtection_lowered : ((lowering 511).flash.chan (1 : Fin 2)).erase = some 511 ∧
    ((lowering 511).flash.chan (1 : Fin 2)).suspended = false ∧ ((lowering 511).flash.chan (1 : Fin 2)).step = 3 ∧
    ((lowering 511).flash.chan (1 : Fin 2)).lowers = true := by decide

theorem witness_FlashChecksAndProtection_done : ∀ k ∈ [5, 6], ((withChan { check := some (k, 16) } 0).flash.chan 0).check = some (k, 16) ∧
    (withChan { check := some (k, 16) } 0).flash.sectState 16 = 3 ∧ (withChan { check := some (k, 16) } 0).flash.lowerAt = none ∧
    (∀ i < 16, tget 3 (withChan { check := some (k, 16) } 0).flash.ws (1024 * 16 + i) = 3) ∧
    State.reset.flash.scanned = false ∧ (∀ h ∈ State.reset.flash.chans, h.prog = none) ∧ State.reset.flash.lowering = false := by
  decide

/-! ### Random numbers -/

/-- A chip whose sources run, with instances 10 (software) and 0 given. -/
def rngWith (r : RngSt) : State := { lit with rng := r }

theorem witness_RandomNumbers_sources : (rngWith {}).rngOn = true ∧ (State.reset.rng.srcs.getD 0 {}).startup = true ∧ (State.reset.rng.srcs.getD 7 {}).startup = true ∧
    (({ State.reset.rng.srcs.getD 0 {} with last := none, rep := 0, winPos := 0, winCnt := 0 } : RngSrc).samples [true, false]).2 = none ∧
    (({ State.reset.rng.srcs.getD 0 {} with last := none, rep := 0, winPos := 0, winCnt := 0 } : RngSrc).samples
      (List.replicate 256 true)).2 = some false := by decide

def srcsOn : List RngSrc := List.replicate 8 { startup := false, run := true }

theorem witness_RandomNumbers_conditioner : ((rngWith { srcs := srcsOn }).rng.srcs.getD 7 {}).run = true ∧
    (rngWith { srcs := srcsOn }).rngOn = true ∧
    (List.range 8).filter (fun i => (srcsOn.getD i {}).run) = [0, 1, 2, 3, 4, 5, 6, 7] ∧ (rngWith { srcs := srcsOn }).rng.fault = false ∧
    (feedBits srcsOn 0 [0, 1, 2, 3, 4, 5, 6, 7] [true, false, true]).2.2 = none ∧
    (rngWith { outs := [[], []] }).rng.outs.length < 3 ∧ (rngWith { seeds := [[], [], []] }).rng.seeds.length < 4 ∧
    (rngWith { outs := [[1], [2], [3]] }).rng.outs.length = 3 := by decide

/-- Instance 10 is instantiated with a count. -/
def withInst (count : Nat) : State := rngWith { ready := true, insts := [(10, { drbg := some { key := List.replicate 32 1, v := List.replicate 16 2 }, count := count })] }

theorem witness_RandomNumbers_request : (withInst 0).rng.lowpwr = false ∧ (withInst 0).rng.fault = false ∧ (withInst 0).rng.ready = true ∧
    ((withInst 0).rngInst 10).drbg.isSome = true ∧ ((withInst 0).rngInst 10).count < (withInst 0).rngCap 10 ∧
    ((withInst 0).rngInst 10).block = [] ∧ (withInst 0).rngCap 10 ≤ ((withInst 1048576).rngInst 10).count ∧ State.reset.rng.ready = false ∧ State.reset.rng.lowpwr = false := by
  decide

theorem witness_RandomNumbers_seeds :
    (rngWith { seeds := [[1], [2]], insts := [(10, { asked := some 3 })] }).rng.seeds = [1] :: [[2]] ∧
    (rngWith { seeds := [[1], [2]], insts := [(10, { asked := some 3 })] }).rngWaiting = some 10 ∧
    (rngWith { seeds := [[1]], insts := [(10, { drbg := some { key := [], v := [] }, due := some 3 })] }).rngWaiting = none ∧
    (rngWith { seeds := [[1]], insts := [(10, { drbg := some { key := [], v := [] }, due := some 3 })] }).rngDue = some 10 := by decide

theorem witness_RandomNumbers_read :
    lets (rngWith { ready := true, insts := [(19, { block := [1, 2, 3, 4] })] }) mcore pRNG 0x100 .read = true ∧
    (fun t => t.rng.fault = false ∧ (t.rngInst (rngPort mcore.toNat)).block ≠ [])
      (reach (rngWith { ready := true, insts := [(19, { block := [1, 2, 3, 4] })] }) mcore pRNG 0x100 .read) ∧
    lets (rngFails lit) mcore pRNG 0x100 .read = true ∧ (reach (rngFails lit) mcore pRNG 0x100 .read).rng.fault = true := by decide

theorem witness_RandomNumbers_registers : Pairs drawing (pairEnd drawing mcore pRNG 0x10 0x101) mcore pRNG 0x10 0x101 ∧
    Writes drawing (reach drawing mcore pRNG 0x108) mcore pRNG 0x108 ∧ bitAt ((reach drawing mcore pRNG 0x108).rg pRNG 0x30) 0 = false :=
  ⟨pairs_of (by decide), writes_of (by decide), by decide⟩

/-! ### Key store -/

/-- KCORE's key store: class keys ready, mode 2, slot 40 an AES-256 key-encryption key of every owner, slot 41 an HMAC
key of instance tag 0x7F, the wire filled. -/
def keyBase : State :=
  { (drawing.modCore 8 fun c => { c with run := .run, agent := some 0x10 }).setRg pKEY 0x100 2 with
    key := { ({} : KeySt) with classReady := true, slots := [(40, { typ := 3, len := 32, usage := 0x1FF, owner := 0x3FFFF, inst := 0x7F, mat := List.replicate 32 1 }), (41, { typ := 5, len := 16, usage := 0x1FF, owner := 0x3FFFF, inst := 5, mat := List.replicate 16 2 })] },
    sram := { ({} : SramSt) with banks := [2, 2, 2, 2, 2, 2, 2, 2] } }

/-- With ARG0, ARG1 and ARG3 set and a blob address in shared SRAM. -/
def keyArgs (a0 a1 a3 : Word) : State :=
  ((((keyBase.setRg pKEY 0x10C a0).setRg pKEY 0x110 a1).setRg pKEY 0x118 a3).setRg pKEY 0x11C 0x22000000)

theorem takes_of {s : State} (h : lets s kcore pKEY 0x108 = true) (hi : (reach s kcore pKEY 0x108).key.run = none)
    (hr : (reach s kcore pKEY 0x108).key.classReady = true) (ha : (reach s kcore pKEY 0x108).twinRepl = false) :
    KeyTakes s (reach s kcore pKEY 0x108) kcore := ⟨rfl, writes_of h, hi, hr, ha⟩

def at108 (s : State) : State := reach s kcore pKEY 0x108

theorem witness_KeyManagement_other : mcore.toNat ≠ aKCORE ∧ Writes keyBase (reach keyBase mcore pKEY 0x108) mcore pKEY 0x108 :=
  ⟨by decide, writes_of (by decide)⟩

theorem witness_KeyManagement_fill : KeyTakes (keyArgs 50 0x00FEFF01 16) (at108 (keyArgs 50 0x00FEFF01 16)) kcore ∧
    (fun t => t.fillCheck 2 = none ∧ t.fillCheck 1 = none ∧ fld (t.rg pKEY 0x110) 0 8 < 0x10 ∧
      slotLenOk t.argSlot (fld (t.rg pKEY 0x110) 0 8) t.argLen = true ∧ t.argLen ≤ 64 ∧ t.spaceFor t.argSlot t.argLen = true ∧
      32 ≤ t.argSlot ∧ t.loadMode = 2 ∧ t.argSlot ≤ 1015 ∧ t.argBad = false) (at108 (keyArgs 50 0x00FEFF01 16)) ∧
    ∃ w bs, (keyBusy (at108 (keyArgs 50 0x00FEFF01 16)) 3).wireDraw 4 (at108 (keyArgs 50 0x00FEFF01 16)).argLen = (w, 0, bs) :=
  ⟨takes_of (by decide) rfl rfl rfl, by decide, draw_of rfl (by decide +kernel)⟩

theorem witness_KeyManagement_codes : KeyTakes ((keyArgs 50 0 0).setRg pKEY 0x100 1) (at108 ((keyArgs 50 0 0).setRg pKEY 0x100 1)) kcore ∧
    (at108 ((keyArgs 50 0 0).setRg pKEY 0x100 1)).loadMode < 2 ∧ (at108 (keyArgs 1016 0 0)).loadMode = 2 ∧
    1015 < (at108 (keyArgs 1016 0 0)).argSlot ∧ (at108 (keyArgs 40 0 0)).argSlot ≤ 1015 ∧ (at108 (keyArgs 40 0 0)).argBad = false ∧
    ((at108 (keyArgs 40 0 0)).slot (at108 (keyArgs 40 0 0)).argSlot).isSome = true :=
  ⟨takes_of (by decide) rfl rfl rfl, by decide⟩

/-- DERIVE from the key of slot 41 into slot 50. -/
theorem witness_KeyManagement_derive : KeyTakes (keyArgs 0x00290032 0x000BFF01 16) (at108 (keyArgs 0x00290032 0x000BFF01 16)) kcore ∧
    (at108 (keyArgs 0x00290032 0x000BFF01 16)).deriveCheck = none := ⟨takes_of (by decide) rfl rfl rfl, by decide⟩

/-- EXPORT of slot 41's copy under tag 0x7F, by slot 40. -/
def exporting : State :=
  let s := keyArgs 0x00280033 0 0x02000000
  { s with key := { s.key with slots := (51, { typ := 1, len := 16, usage := 0x1FF, owner := 0x3FFFF, inst := 0x7F, mat := List.replicate 16 2 }) :: s.key.slots } }

theorem witness_KeyManagement_export : KeyTakes exporting (at108 exporting) kcore ∧
    (∃ k, (at108 exporting).slot (at108 exporting).argSlot = some k ∧ k.usage.testBit 8 = true ∧
      (at108 exporting).kekCheck (at108 exporting).argSlot2 4 k.inst 2 = none) ∧
    (at108 exporting).argSlot ≤ 1015 ∧ (at108 exporting).argSlot2 ≤ 1015 ∧
    fld ((at108 exporting).rg pKEY 0x118) 24 2 = 2 ∧
    (at108 exporting).argSlot2 ≠ 1019 ∧ ∃ w iv, (keyBusy (at108 exporting) 5).wireDraw 4 12 = (w, 0, iv) :=
  ⟨takes_of (by decide) rfl rfl rfl, ⟨_, rfl, by decide, by decide⟩, by decide, by decide, by decide, by decide, draw_of rfl (by decide +kernel)⟩

/-- The draw of its IV, and the state in which its work has run. -/
def exported : State := drew (keyBusy (at108 exporting) 5) 4 12

def exportRan : State :=
  (exported.ownRun .key [0] (ownCtx (at108 exporting).argSlot2 ((at108 exporting).slotMat (at108 exporting).argSlot2)) 16).1

theorem witness_KeyManagement_exportRuns : (((at108 exporting).slot (at108 exporting).argSlot).map (·.len)) = some 16 ∧
    OwnRuns exported .key 0 13 16 ∧ ∀ bs, bs = List.replicate 68 0 →
      wentB exported (exportRan.engWrite aKCORE (at108 exporting).keyAddr bs).st = true :=
  ⟨by decide, ownRuns_of (by decide +kernel), by rintro bs rfl; decide +kernel⟩

theorem witness_KeyManagement_slots : KeyTakes (keyArgs 41 0x000A0000 0) (at108 (keyArgs 41 0x000A0000 0)) kcore ∧
    (at108 (keyArgs 41 0x000A0000 0)).argSlot ≤ 1015 ∧ (at108 (keyArgs 41 0x000A0000 0)).argBad = false ∧
    (at108 (keyArgs 41 0x000A0000 0)).argInst < 64 ∧
    (((at108 (keyArgs 41 0x000A0000 0)).slot 41).map (·.inst)) = some (at108 (keyArgs 41 0x000A0000 0)).argInst ∧
    (at108 (keyArgs 41 0x000A0000 0)).lcState = 0 ∧ (at108 (keyArgs 41 0x000A0000 0)).key.root = none ∧
    ∃ w bs, (keyBusy (at108 (keyArgs 41 0x000A0000 0)) 9).wireDraw 4 64 = (w, 0, bs) :=
  ⟨takes_of (by decide) rfl rfl rfl, by decide, by decide, by decide, by decide, by decide, by decide, draw_of rfl (by decide +kernel)⟩

/-- UNWRAP of the blob at 0x22000000, whose tag is given: slot 50's AES-128 key under slot 40 by METHOD 2. -/
def blobHead : List Byte := [0x4B, 0x42, 1, 2, 1, 0, 16, 0, 0xFF, 1, 0, 0, 0xFF, 0xFF, 3, 0, 0x7F, 1, 40, 0, 0, 0, 0, 0]

def blobAt (tag : List Byte) : State :=
  { keyArgs 50 0 0 with mem := (List.range 68).zip (blobHead ++ List.replicate 28 7 ++ tag) |>.map fun p => (0x22000000 + p.1, p.2) }

def head (tag : List Byte) : MemAns := (keyBusy (at108 (blobAt tag)) 2).engRead aKCORE (at108 (blobAt tag)).keyAddr 24

def body (tag : List Byte) : MemAns := (head tag).st.engRead aKCORE ((at108 (blobAt tag)).keyAddr + 24) (12 + 16 + 16)

/-- The tag that slot 40's key gives the blob. -/
def blobTag : List Byte := [0xB1, 0x8A, 0x39, 0x5C, 0x24, 0xF2, 0x20, 0x56, 0x88, 0x22, 0x38, 0x29, 0x7D, 0x3B, 0xA7, 0x74]

/-- The round keys of the blob's key. -/
def blobKeys : List (List Byte) :=
  [0x01010101010101010101010101010101, 0x01010101010101010101010101010101, 0x7c7d7d7d7d7c7c7c7c7d7d7d7d7c7c7c,
   0xfe111111ff101010fe111111ff101010, 0xb4b7b76bc9cbcb17b5b6b66ac8caca16, 0x16656556e975754617646457e8747447,
   0x222517f0ebeedce75e586a8d9692a09b, 0x862a85426f5ff004783b9453904fe014, 0xaec4ed90452a31771b725bfa8de0fb61,
   0xdbcb8aadb4947aa9ccafeefa5ce00eee, 0x5f6fc5da1a45f4ad0137af578cd75436, 0xbfc5aaa80b51d001c7fe3efb9b1e3015,
   0x0d6b9cce172e68631619c7349ace9302, 0x074e76df0c1fa6decbe1982550ffa830, 0x5ba9989d4c87f0fe5a9e37cac050a4c8].map (beBytes 16)

theorem blobKeys_eq : roundKeys (List.replicate 32 1) = blobKeys := by decide +kernel

theorem blobHash_eq : aesEnc (List.replicate 32 1) (zeros 16) = beBytes 16 0x7298caa565031eadc6ce23d23ea66378 := by
  unfold aesEnc; rw [blobKeys_eq]; decide +kernel

theorem blobMask_eq : aesEnc (List.replicate 32 1) (gcmJ0 (List.replicate 12 7)) = beBytes 16 0xa32a149cac31852367138bf064399610 := by
  unfold aesEnc; rw [blobKeys_eq]; decide +kernel

theorem blobTag_eq : gcmTag (List.replicate 32 1) (List.replicate 12 7) blobHead (List.replicate 16 7) = blobTag := by
  unfold gcmTag; rw [blobHash_eq, blobMask_eq]; decide +kernel

/-- What UNWRAP asks of the blob before its tag is checked. -/
def unwraps (tag : List Byte) : Bool :=
  let h := (head tag).data
  let k := blobKey h []
  let t := (body tag).st
  (head tag).fault == .none && (body tag).fault == .none && leAt h 3 1 == 2 && leAt h 17 1 == 1 && leAt h 18 2 ≤ 1015 &&
    1 ≤ (at108 (blobAt tag)).loadMode && 32 ≤ (at108 (blobAt tag)).argSlot && (at108 (blobAt tag)).argSlot ≤ 1015 &&
    ((at108 (blobAt tag)).slot (at108 (blobAt tag)).argSlot).isNone && !t.twinRepl && !blobBad h && keyTypeKnown k.typ &&
    slotLenOk (at108 (blobAt tag)).argSlot k.typ k.len && (t.kekCheck (leAt h 18 2) 5 k.inst 2).isNone &&
    t.spaceFor (at108 (blobAt tag)).argSlot k.len && ownRunsB t .key 0 13 (body tag).data.length && t.changes.isEmpty && h == blobHead && k.len == 16 &&
    t.slotMat 40 == List.replicate 32 1 && (body tag).data == List.replicate 28 7 ++ tag

theorem witness_KeyManagement_unwrap : KeyTakes (blobAt blobTag) (at108 (blobAt blobTag)) kcore ∧ unwraps blobTag = true ∧
    ∃ m, gcmOpen (List.replicate 32 1) (List.replicate 12 7) blobHead (List.replicate 16 7) blobTag = some m :=
  ⟨takes_of (by decide +kernel) rfl rfl rfl, by decide +kernel, _, by rw [gcmOpen, if_pos blobTag_eq]⟩

theorem witness_KeyManagement_refused : unwraps (List.replicate 16 0) = true ∧
    gcmOpen (List.replicate 32 1) (List.replicate 12 7) blobHead (List.replicate 16 7) (List.replicate 16 0) = none :=
  ⟨by decide +kernel, by rw [gcmOpen, if_neg (by rw [blobTag_eq]; decide)]⟩

theorem witness_KeyManagement_done : ∀ s, s = { keyBase with key := { keyBase.key with run := some { cmd := 1, code := some 0, target := some 50 } } } →
    s.key.run = some { cmd := 1, code := some 0, target := some 50 } ∧ s.key.scrub = 0 ∧ s.keyPending { cmd := 1, code := some 0, target := some 50 } = false ∧
    s.twinRepl = false ∧ s.changes = [] := by rintro s rfl; decide +kernel

/-- A root in a chip in MAKER whose class keys are not yet derived. -/
def rooted : State := { drawing with key := { ({} : KeySt) with root := some (List.replicate 32 1, List.replicate 32 2) }, tamp := { drawing.tamp with maskDue := false } }

/-- Its class slots filled. -/
def filled : State := { rooted with key := { rooted.key with derived := true, slots := classKeys.map fun c => (c.1, {}) } }

theorem witness_ClassKeysAndInjection_derive : rooted.key.root = some (List.replicate 32 1, List.replicate 32 2) ∧
    (∃ g, lcGroup rooted.lcState = some g) ∧ rooted.key.derived = false ∧ rooted.rng.ready = true ∧ rooted.rng.fault = false ∧
    rooted.key.classFail = false ∧ rooted.tamp.maskDue = false ∧ rooted.changes = [] ∧ rooted.pdOn 21 = true ∧
    rooted.tamp.lockdown = false ∧ rooted.key.arenaKey = [] ∧ filled.key.derived = true ∧ filled.classFilled = true ∧
    rooted.wireDraw 4 32 = (drew rooted 4 32, 0, (rooted.wireDraw 4 32).2.2) ∧
    OwnRuns (drew rooted 4 32) .classes 4 21 classBytes :=
  ⟨rfl, ⟨_, rfl⟩, rfl, rfl, rfl, rfl, rfl, rfl, by decide, rfl, rfl, rfl, by decide, drawn_of rfl (by decide +kernel),
    ownRuns_of (by decide +kernel)⟩

theorem witness_ClassKeysAndInjection_cfg : ∀ v ∈ [0, 1, 2, 3], letsPair keyBase mcore pKEY 0x100 (wd v) = true ∧
    bitAt ((pairEnd keyBase mcore pKEY 0x100 (wd v)).rg pKEY 0x30) 1 = false := by decide

/-- A life-cycle state whose ceiling is below 2. -/
theorem witness_ClassKeysAndInjection_ceiling : loadCeiling 3 < fld (2 : Word) 0 2 ∧ fld (2 : Word) 0 2 ≠ 3 ∧
    CtrlBits keyBase (pairEnd keyBase mcore pKEY 0x10 0x100) mcore pKEY 0x100 := ⟨by decide, by decide, pairs_of (by decide)⟩

/-- MCORE holds Stave 0; slot 42 is a P-256 scalar that it may use. -/
def injecting (ready : Bool) : State :=
  { keyBase with
    key := { keyBase.key with classReady := ready, slots := [(42, { typ := 0x10, len := 32, usage := 0x1FF, owner := 0x3FFFF, inst := 0x7F, mat := List.replicate 32 1 }), (43, { typ := 0x10, len := 32, usage := 0, owner := 0x3FFFF, inst := 0x7F }), (44, { typ := 0x10, len := 32, usage := 0x1FF, owner := 0, inst := 0x7F })] },
    staves := [(0, { claim := some 0x11 })], aregs := [(akey 0x11 pKEY 0x144, 0x7F)] }

theorem witness_ClassKeysAndInjection_noInject : Writes (injecting false) (reach (injecting false) mcore pKEY 0x13C) mcore pKEY 0x13C ∧
    (reach (injecting false) mcore pKEY 0x13C).key.classReady = false ∧ fld (0x002A : Word) 16 2 = 0 ∧ 1016 ≤ fld (0x103FF : Word) 0 10 :=
  ⟨writes_of (by decide), by decide, by decide, by decide⟩

theorem witness_ClassKeysAndInjection_inject : ∀ v ∈ [(0x1002A, UseVerdict.ok), (0x2002A, .ok), (0x1002B, .usage), (0x1002C, .owner), (0x1002D, .empty)],
    lets (injecting true) mcore pKEY 0x13C = true ∧ (reach (injecting true) mcore pKEY 0x13C).key.classReady = true ∧
    fld (wd v.1) 16 2 ≠ 0 ∧
    (reach (injecting true) mcore pKEY 0x13C).judgeUse 0x11 0x7F (fld (wd v.1) 0 10) (fun _ => true)
      (if fld (wd v.1) 16 2 = 1 then 2 else if fld (wd v.1) 16 2 = 2 then 1 else 7) = v.2 ∧
    fld ((reach (injecting true) mcore pKEY 0x13C).arg 0x11 pKEY 0x144) 0 7 = 0x7F ∧
    fld ((reach (injecting true) mcore pKEY 0x13C).arg 0x11 pKEY 0x140) 0 10 + 64 / 64 ≤ 1024 ∧
    (reach (injecting true) mcore pKEY 0x13C).staveBlocks (fld (wd v.1) 12 2) (staveBase (fld (wd v.1) 12 2)) 64 = false ∧
    (fun x => x.claim = some 0x11 ∧ x.clearing = false ∧ x.bind = none ∧ x.hidden = [] ∧ x.taint = [])
      ((reach (injecting true) mcore pKEY 0x13C).stave (fld (wd v.1) 12 2)) := by decide

/-- An injection of slot 45, a component key of 192 bytes, to the last granule of Stave 0, or of slot 42 to Stave 1. -/
def injectingBad : State :=
  let s := injecting true
  { s with
    key := { s.key with slots := (45, { typ := 0x13, len := 192, usage := 0x1FF, owner := 0x3FFFF, inst := 0x7F, mat := List.replicate 192 1 }) :: s.key.slots },
    aregs := (akey 0x11 pKEY 0x140, 1023) :: s.aregs }

theorem witness_ClassKeysAndInjection_refused : lets injectingBad mcore pKEY 0x13C = true ∧
    (fun t => t.judgeUse 0x11 0x7F 45 (fun _ => true) 2 = .ok ∧ (t.slot 45).map (·.typ) = some 0x13 ∧
      fld (t.arg 0x11 pKEY 0x140) 0 10 = 1023 ∧ 1024 < 1023 + (injectBytes 0x13 (t.slotMat 45)).length / 64 ∧
      (t.stave 0).claim = some 0x11 ∧ (t.stave 0).clearing = false ∧ (t.stave 1).claim ≠ some 0x11 ∧
      t.judgeUse 0x11 0x7F 42 (fun _ => true) 2 = .ok) (reach injectingBad mcore pKEY 0x13C) := by decide +kernel

theorem witness_ClassKeysAndInjection_injectDone : tfind ({ keyBase with key := { keyBase.key with inject := [(0x11, { code := some 0 })] } } : State).key.inject mcore.toNat =
    some { code := some 0 } := by decide

/-! ### Press and digest units -/

/-- Shared SRAM with bytes at its start; jobs of MCORE may use slot 40. -/
def jobs (bs : List Byte) (u : Tbl UnitSt) : State :=
  { keyBase with
    units := u, mem := (List.range bs.length).zip bs |>.map fun p => (0x22000000 + p.1, p.2),
    bin := { ({} : BinSt) with ready := true, bins := [(0, { st := .hot, inst := 0x7F })] } }

/-- A descriptor: OP, ALG, FLAGS and the rest of a Press or a digest job over 16 bytes at 0x22000200. -/
def pressDesc (op alg fl : Byte) : List Byte :=
  [op, alg, fl, 0, 40, 0, 0, 0, 0, 0, 0x7F, 0, 16, 0, 0, 0, 16, 0, 0, 0, 0, 0, 0, 0, 0, 0, 0, 0, 0, 0, 0, 0, 0, 2, 0, 0x22, 0, 0, 0, 0, 0, 4, 0, 0x22] ++
    List.replicate 52 0

def digestDesc (op alg fl : Byte) : List Byte :=
  [op, alg, fl, 0, 0, 0, 0, 0, 0, 0, 0x7F, 0, 16, 0, 0, 0, 16, 0, 0, 0, 0, 0, 0, 0, 0, 2, 0, 0x22] ++ List.replicate 36 0

/-- A job at 0x22000000 waits in a unit's queue. -/
def queued : UnitSt := { queue := [{ addr := 0x22000000, agent := 0x11 }] }

/-- A unit's segment over a descriptor, bound to a context or not, and a context of mode `m`. -/
def segOf (d : List Byte) (ctx : Option Nat) : Segment := { addr := 0x22000000, agent := 0x11, desc := d, ctx := ctx }

def ctxOf (m : Nat) (bin : Option Nat) : Ctx :=
  { bin := bin, mode := m, alg := 1, agent := 0x11, key := 40, totlen := 16, mats := some (List.replicate 32 1, []), iv := List.replicate 16 0, chain := List.replicate 16 0 }

theorem witness_EngineJobs_submit : ∀ u ∈ [0, 3, 4, 9], lets (jobs [] []) mcore (unitPage u) 0x104 = true ∧
    fld (1 : Word) 0 5 ≠ 0 ∧ (reach (jobs [] []) mcore (unitPage u) 0x104).en (unitPage u) = false ∧
    lets ((jobs [] [(u, { queue := List.replicate 64 { addr := 0, agent := 0 } })]).setRg (unitPage u) 0x10 1) mcore (unitPage u) 0x104 = true ∧
    (fun t => t.en (unitPage u) = true ∧ 64 ≤ (t.unit u).queue.length)
      (reach ((jobs [] [(u, { queue := List.replicate 64 { addr := 0, agent := 0 } })]).setRg (unitPage u) 0x10 1) mcore (unitPage u) 0x104) := by
  decide +kernel

theorem witness_EngineJobs_drop : ∀ u ∈ [0, 3, 4, 9], ∀ s, s = jobs [] [(u, { queue := [{ addr := 0x08000000, agent := 0x11 }] })] →
    worksB s u = true ∧ (s.unit u).queue = { addr := 0x08000000, agent := 0x11 } :: [] ∧
    (fun m => m.fault ≠ .none ∧ wentB s m.st = true ∧ m.st.rbit (unitPage u) 0x1C 17 = false)
      (s.engRead 0x11 0x08000000 (descLen u)) := by
  intro u hu s hs; subst hs; revert u; decide

theorem witness_EngineJobs_works : UnitWorks (jobs [] []) 0 ∧ NoOwnWork (jobs [] []) ∧ Went (jobs [] []) (jobs [] []) :=
  ⟨works_of (by decide), noOwn_of (by decide), went_of (by decide)⟩

theorem witness_EngineJobs_report : ∀ u ∈ [0, 3, 4, 9], ∀ g, g = { segOf (pressDesc 3 1 6) none with code := some 9 } →
    ∀ s, s = jobs [] [(u, { segs := [g] })] → worksB s u = true ∧ (s.unit u).due = some g ∧ 9 < 13 ∧ g.dropped = false ∧
    (fun r => r.2 = true ∧ wentB s r.1 = true) (s.writeResult u g (s.segConsumed u g) (s.openAfter u g)) := by
  rintro u hu g rfl s rfl; revert u; decide

/-- One job of a unit is prepared in place 2. -/
def prepared (d : List Byte) (c : Ctx) : UnitSt := { segs := [segOf d (some 2)], ctxs := [(2, c)] }

/-- A job of bin 0 in place 2 has failed with a code. -/
def failed (u c : Nat) : State :=
  rngFails (jobs [] [(u, { prepared (pressDesc 3 1 6) (ctxOf 3 (some 0)) with
    segs := [{ segOf ((pressDesc 3 1 6).set 2 0x26) (some 2) with code := some c }] })])

theorem witness_EngineJobs_fails : ∀ u ∈ [0, 3, 4, 9], ∀ c ∈ [13, 16, 20],
    worksB (failed u c) u = true ∧ endsJob c = true ∧ (tfind ((failed u c).unit u).ctxs 2).isSome = true ∧
    (((failed u c).unit u).due).any (fun g => g.code == some c && g.ctx == some 2 && !g.dropped && descBin g.desc == some 0 &&
      (let r := (failed u c).clearJob u (some 2) (some 0) g.stamp (c == 16)
       let y := r.1.writeResult u g (r.1.segConsumed u g) (r.1.openAfter u g)
       r.2 && y.2 && wentB (failed u c) y.1)) = true := by decide +kernel

theorem witness_EngineJobs_fault : ∀ u ∈ [0, 3, 4, 9], ∀ s, s = jobs [] [(u, prepared (pressDesc 3 1 6) (ctxOf 3 none))] →
    worksB s u = true ∧ noOwnB s = true ∧ (s.unit u).pick = some (2, segOf (pressDesc 3 1 6) (some 2)) ∧
    (segOf (pressDesc 3 1 6) (some 2)).own = none ∧ ((s.unit u).ctx 2).mats.isSome = true ∧ s.changes = [] := by
  intro u hu s hs; subst hs; revert u; decide

theorem witness_EngineJobs_press : ∀ p ∈ [((3 : Byte), (0 : Nat)), (5, 4)], ∀ s, s = jobs (pressDesc p.1 1 6) [(0, queued)] →
    worksB s (Fin.val (0 : Fin 4)) = true ∧ (s.unit 0).queue = { addr := 0x22000000, agent := 0x11 } :: [] ∧
    (fun m => m.fault = .none ∧ wentB s m.st = true ∧ m.st.pressCheck 0 0x11 m.data = p.2 ∧ (descOf true m.data).op < 0x10 ∧
      (descOf true m.data).first = true ∧ (descOf true m.data).binv = false ∧
      (m.st.unit 0).entryWaits 0 [] m.data = false) (s.engRead 0x11 0x22000000 96) ∧
    (s.unit 0).freePlace = some 0 := by
  intro p hp s hs; subst hs; revert p; decide

theorem witness_EngineJobs_digest : ∀ p ∈ [((1 : Byte), (0 : Nat)), (9, 2)], ∀ s, s = jobs (digestDesc p.1 1 0xE) [(4, queued)] →
    worksB s (4 + Fin.val (0 : Fin 6)) = true ∧ (s.unit 4).queue = { addr := 0x22000000, agent := 0x11 } :: [] ∧
    (fun m => m.fault = .none ∧ wentB s m.st = true ∧ m.st.digestCheck 4 0x11 m.data = p.2 ∧ (descOf false m.data).op < 0x10 ∧
      (descOf false m.data).first = true ∧ (descOf false m.data).binv = false ∧
      (m.st.unit 4).entryWaits 4 [] m.data = false) (s.engRead 0x11 0x22000000 64) ∧
    (s.unit 4).freePlace = some 0 := by
  intro p hp s hs; subst hs; revert p; decide

/-- The descriptor may have been read before. -/
theorem witness_EngineJobs_read : HeadRead (jobs [] [(0, { queue := [{ addr := 0x22000000, agent := 0x11, desc := some (pressDesc 3 1 6) }] })])
    (jobs [] [(0, { queue := [{ addr := 0x22000000, agent := 0x11, desc := some (pressDesc 3 1 6) }] })]) 0
    { addr := 0x22000000, agent := 0x11, desc := some (pressDesc 3 1 6) } [] (pressDesc 3 1 6) :=
  ⟨works_of (by decide), rfl, .inl ⟨rfl, rfl⟩, went_of (by decide)⟩

theorem witness_EngineJobs_quantum : ∀ off ∈ [0x200, 0x2FC, 0x134], lets (jobs [] []) mcore (unitPage 3) off = true ∧
    classOf mcore.toNat = .sys ∧ fld ((reach (jobs [] []) mcore (unitPage 3) off).rg (unitPage 3) 0x30) 0 2 = 0 := by decide

/-- CORE0 reaches every page below 0x80. -/
def appPages : State :=
  let s := (List.range 8).foldl (fun (s : State) k =>
    (((s.setRg (pGATE (16 + k)) 0x10 1).setRg (pGATE (16 + k)) 0x400 0x300000).setRg (pGATE (16 + k)) 0x404 0x3007F0).setRg
      (pGATE (16 + k)) 0x408 0x8100061F) (jobs [] [])
  s.modCore 0 fun c => { c with run := .run, agent := some 0 }

theorem witness_EngineJobs_app : lets appPages core0 (unitPage 3) 0x200 = true ∧ classOf core0.toNat ≠ .sys ∧ classOf core0.toNat ≠ .keyd := by
  decide +kernel

/-- A job of CBC over 16 bytes from a source, in place 2 of PRESS0. -/
def cbcJob (src : Byte) : State :=
  jobs (List.replicate 1024 5) [(0, prepared ((pressDesc 3 1 6).set 35 src) (ctxOf 3 none))]

theorem witness_EngineResults_press : ∀ s, s = cbcJob 0x22 →
    worksB s (Fin.val (0 : Fin 4)) = true ∧ noOwnB s = true ∧ (s.unit 0).pick = some (2, segOf (pressDesc 3 1 6) (some 2)) ∧
    ((s.unit 0).ctx 2).mats = some (List.replicate 32 1, []) ∧
    min (min (((s.unit 0).ctx 2).quantumLen (s.quantum 0 ((s.unit 0).ctx 2).inst)) ((descOf true (pressDesc 3 1 6)).seglen - 0)) 16 = 16 ∧
    (s.engRead 0x11 0x22000200 16).fault = .none ∧ wentB s (s.engRead 0x11 0x22000200 16).st = true ∧
    (s.engRead 0x11 0x22000200 16).data = List.replicate 16 5 ∧
    (((s.unit 0).ctx 2).take (List.replicate 32 1) (List.replicate 16 5)).2.length = 16 ∧
    (((s.engRead 0x11 0x22000200 16).st.engWrite 0x11 0x22000400 (((s.unit 0).ctx 2).take (List.replicate 32 1) (List.replicate 16 5)).2).fault = .none) ∧
    wentB s ((s.engRead 0x11 0x22000200 16).st.engWrite 0x11 0x22000400
      (((s.unit 0).ctx 2).take (List.replicate 32 1) (List.replicate 16 5)).2).st = true := by
  rintro s rfl; decide +kernel

theorem witness_EngineResults_source : ∀ s, s = cbcJob 8 → ((s.unit 0).pick).map (·.1) = some 2 ∧
    (descOf true ((pressDesc 3 1 6).set 35 8)).src = 0x08000200 ∧ (s.engRead 0x11 0x08000200 16).fault ≠ .none ∧
    wentB s (s.engRead 0x11 0x08000200 16).st = true := by rintro s rfl; decide +kernel

/-- A GCM decryption of an empty text has taken all its input; its descriptor expects the tag `e` throughout. -/
def finishing (e : Byte) : State :=
  rngFails (jobs [] [(0, { prepared (pressDesc 5 1 7) { ctxOf 5 none with dir := true, taglen := 16, totlen := 0, acc := List.replicate 16 0 } with
    segs := [{ segOf (((pressDesc 5 1 7).take 64) ++ List.replicate 16 e ++ List.replicate 16 0) (some 2) with ran := true }] })])

theorem witness_EngineResults_tag : ∀ e, e = 0 ∨ e = 1 → ∃ g out tag, ((finishing e).unit (Fin.val (0 : Fin 4))).due = some g ∧ g.code = none ∧
    g.ctx = some 2 ∧ g.iv = [] ∧ ((((finishing e).unit 0).ctx 2).mats = some (List.replicate 32 1, [])) ∧
    (descOf true g.desc).final = true ∧ ((finishing e).unit 0).ctx 2 = { ctxOf 5 none with dir := true, taglen := 16, totlen := 0, acc := List.replicate 16 0 } ∧
    (((finishing e).unit 0).ctx 2).consumed = (((finishing e).unit 0).ctx 2).aadlen + (((finishing e).unit 0).ctx 2).totlen ∧
    (((finishing e).unit 0).ctx 2).dir = true ∧ aeadMode (((finishing e).unit 0).ctx 2).mode = true ∧
    (((finishing e).unit 0).ctx 2).finish (List.replicate 32 1) = some (out, tag) ∧ (g.desc.drop 64).take 16 = List.replicate 16 e ∧
    (finishing e).rng.fault = true ∧ (finishing e).changes = [] ∧ worksB (finishing e) 0 = true ∧
    ((finishing e).unit 0).queue = [] ∧ (finishing e).flights = [] ∧ 0x22000000 ≤ g.addr ∧ g.addr + 96 ≤ 0x22100000 := by
  rintro e (rfl | rfl) <;>
    exact ⟨_, _, _, rfl, rfl, rfl, rfl, rfl, by decide, rfl, by decide, rfl, by decide, rfl, by decide, rfl, rfl, by decide,
      rfl, rfl, by decide, by decide⟩

/-- No tag is both, so one of the two jobs fails its check. -/
theorem witness_EngineResults_mismatch (tag : List Byte) :
    tag.take 16 ≠ List.replicate 16 0 ∨ tag.take 16 ≠ List.replicate 16 1 := by
  by_cases h : tag.take 16 = List.replicate 16 0
  · right; rw [h]; decide
  · exact .inl h

/-- A wire of every Press unit holds 64 bytes. -/
def wired (s : State) : State := { s with rng := { s.rng with insts := (List.range 4).map (fun i => (i, { block := List.replicate 128 3 })) ++ [(4, { block := List.replicate 128 7 })] } }

theorem witness_EngineResults_geniv : ∀ s, s = wired (jobs [] [(0, { prepared (pressDesc 5 1 0x86) (ctxOf 5 none) with segs := [{ segOf (pressDesc 5 1 0x86) (some 2) with waitIv := true }] })]) →
    worksB s 0 = true ∧ (s.unit (Fin.val (0 : Fin 4))).segs.find? (fun h => h.waitIv) = some { segOf (pressDesc 5 1 0x86) (some 2) with waitIv := true } ∧
    ((s.unit 0).ctx 2).mats = some (List.replicate 32 1, []) ∧ s.changes = [] ∧ ∃ t iv, s.wireDraw (Fin.val (0 : Fin 4)) 12 = (t, 0, iv) := by
  rintro s rfl; exact ⟨by decide, by decide, by decide, rfl, draw_of rfl (by decide +kernel)⟩

theorem witness_EngineResults_digest : ∀ s, s = jobs (List.replicate 1024 5) [(4, prepared (digestDesc 1 1 0xE) { ctxOf 1 none with totlen := 16 })] →
    worksB s (4 + Fin.val (0 : Fin 6)) = true ∧ (s.unit 4).pick = some (2, segOf (digestDesc 1 1 0xE) (some 2)) ∧
    ((s.unit 4).ctx 2).mats = some (List.replicate 32 1, []) ∧
    (s.engRead 0x11 0x22000200 16).fault = .none ∧ wentB s (s.engRead 0x11 0x22000200 16).st = true ∧
    (s.engRead 0x11 0x08000000 16).fault ≠ .none ∧ wentB s (s.engRead 0x11 0x08000000 16).st = true := by
  rintro s rfl; decide +kernel

theorem witness_EngineResults_done : ∀ s, s = jobs [] [(4, { prepared (digestDesc 1 1 0xE) { ctxOf 1 none with consumed := 16 } with segs := [{ segOf (digestDesc 1 1 0xE) (some 2) with ran := true }] })] →
    worksB s (4 + Fin.val (0 : Fin 6)) = true ∧ (s.unit 4).due = some { segOf (digestDesc 1 1 0xE) (some 2) with ran := true } ∧
    ((s.unit 4).ctx 2).mats = some (List.replicate 32 1, []) ∧ (descOf false (digestDesc 1 1 0xE)).final = true ∧
    (descOf false (digestDesc 1 1 0xE)).op < 0x10 ∧ s.flights = [] ∧
    ((s.unit 4).ctx 2).consumed = ((s.unit 4).ctx 2).totlen ∧ flagOut (digestDesc 1 1 0xE) = 1 ∧ flagCmp (digestDesc 1 1 0xE) = false ∧
    s.changes = [] := by
  rintro s rfl; decide

theorem witness_EngineResults_hash : ∀ s, s = { keyArgs 0x00290032 0x000BFF01 16 with key := { keyBase.key with run := some { cmd := 4, code := none, target := none } } } →
    s.tamp.halted = false ∧ s.key.run = some { cmd := 4, code := none, target := none } ∧
    ownRunsB s .key 4 21 (fld (s.rg pKEY 0x118) 16 8) = true ∧ s.deriveCheck = none ∧ 32 ≤ s.argSlot ∧ s.twinRepl = false ∧ s.changes = [] := by
  rintro s rfl; decide

/-- Sixteen idle contexts, of bins 0 to 15, and a descriptor that wants a place. -/
def full : UnitSt :=
  { queue := [{ addr := 0x22000000, agent := 0x11, desc := some (pressDesc 3 1 6) }],
    ctxs := (List.range 16).map fun k => (k, { ctxOf 3 (some k) with used := k }) }

theorem witness_EngineContexts_spill : ∀ u ∈ [0, 3, 4, 9], ∀ s, s = jobs [] [(u, full)] →
    worksB s u = true ∧ ((s.unit u).queue.all fun q => q.desc.isSome) = true ∧ s.placeWanted u = true ∧ (s.unit u).freePlace = none ∧
    (s.unit u).lruIdle = some (0, 0) ∧ ((s.unit u).ctx 0).bin = some 0 ∧ (s.binRec 0).st ≠ .cold ∧ s.changes = [] := by
  intro u hu s hs; subst hs; revert u; decide

/-- A later segment of bin 0, at its place in the descriptor of a Press or a digest unit. -/
def laterDesc (u : Nat) : List Byte := if u < 4 then (pressDesc 3 1 0x20).set 8 0 else (digestDesc 1 1 0x20).set 8 0

theorem witness_EngineContexts_restore : ∀ u ∈ [0, 3, 4, 9], ∀ s,
    s = { jobs [] [(u, { queue := [{ addr := 0x22000000, agent := 0x11, desc := some (laterDesc u) }] })] with bin := { ({} : BinSt) with bins := [(0, { st := .hot, inst := 0x7F, press := some (u, ctxOf 3 (some 0)), digest := some (u, ctxOf 1 (some 0)) })] } } →
    worksB s u = true ∧ (s.unit u).queue = { addr := 0x22000000, agent := 0x11, desc := some (laterDesc u) } :: [] ∧
    descBin (laterDesc u) = some 0 ∧ (unitDesc u (laterDesc u)).first = false ∧ (unitDesc u (laterDesc u)).op < 0x10 ∧
    (s.unit u).freePlace = some 0 ∧ (s.savedCtx u 0).any (fun c => (s.restoreMats u c).2) = true ∧ (s.binRec 0).st = .hot ∧ s.changes = [] := by
  intro u hu s hs; subst hs; revert u; decide

/-- A context command of bin 0. -/
def ctxCmdDesc (op : Byte) : List Byte := [op, 0, 0x20, 0, 0, 0, 0, 0, 0, 0, 0x7F] ++ List.replicate 85 0

theorem witness_EngineContexts_save : ∀ u ∈ [0, 3, 4, 9], ∀ s,
    s = jobs [] [(u, { segs := [segOf (ctxCmdDesc 0x10) (some 2)], ctxs := [(2, ctxOf 3 (some 0))] })] →
    worksB s u = true ∧ (s.unit u).ctxCmd 0x10 = some (segOf (ctxCmdDesc 0x10) (some 2)) ∧ (unitDesc u (ctxCmdDesc 0x10)).bin = 0 ∧
    (s.unit u).placeOf 0 = some 2 ∧ ((s.unit u).ctx 2).bin = some 0 ∧ ((s.unit u).ctx 2).poisoned = false ∧ (s.binRec 0).st ≠ .cold ∧
    ((jobs [] [(u, { segs := [segOf (ctxCmdDesc 0x10) none] })]).unit u).ctxCmd 0x10 = some (segOf (ctxCmdDesc 0x10) none) ∧
    ((jobs [] [(u, { segs := [segOf (ctxCmdDesc 0x10) none] })]).unit u).placeOf 0 = none ∧
    (jobs [] [(u, { segs := [segOf (ctxCmdDesc 0x10) none] })]).savedCtx u 0 = none ∧
    (jobs [] [(u, { segs := [segOf (ctxCmdDesc 0x10) none] })]).noCtxCode u 0 = 5 ∧ s.changes = [] := by
  intro u hu s hs; subst hs; revert u; decide

theorem witness_EngineContexts_abort : ∀ u ∈ [0, 3, 4, 9], ∀ s,
    s = rngFails (jobs [] [(u, { segs := [segOf (ctxCmdDesc 0x13) (some 2)], ctxs := [(2, ctxOf 3 (some 0))] })]) →
    worksB s u = true ∧ (s.unit u).segs.find? (fun h => h.code.isNone && (unitDesc u h.desc).op == 0x13) = some (segOf (ctxCmdDesc 0x13) (some 2)) ∧
    (s.unit u).placeOf 0 = some 2 ∧ (s.clearJob u (some 2) (some 0) 0 false).2 = true ∧ (s.binRec 0).st ≠ .free ∧
    wentB s (s.clearJob u (some 2) (some 0) 0 false).1 = true := by
  intro u hu s hs; subst hs; revert u; decide

/-- The context key is drawn. -/
def keyed (s : State) : State := { s with ctxKey := List.replicate 32 8 }

theorem witness_EngineContexts_export : ∀ s, s = keyed (wired (jobs [] [(0, { segs := [segOf (ctxCmdDesc 0x11 |>.set 42 4 |>.set 43 0x22 |>.set 41 0) (some 2)], ctxs := [(2, ctxOf 3 (some 0))] })])) →
    worksB s 0 = true ∧ ((s.unit (Fin.val (0 : Fin 4))).ctxCmd 0x11).map (fun g => (descOf true g.desc).bin) = some 0 ∧ (s.unit 0).placeOf 0 = some 2 ∧
    ((s.unit 0).ctx 2).poisoned = false ∧ s.ctxKey ≠ [] ∧ (s.binRec 0).st ≠ .free ∧
    (((s.wireDraw 0 12).1.engWrite 0x11 0x22000400 (((s.unit 0).ctx 2).header ++ (s.wireDraw 0 12).2.2 ++
      (gcmSeal s.ctxKey (s.wireDraw 0 12).2.2 ((s.unit 0).ctx 2).header ((s.unit 0).ctx 2).pack).1 ++
      (gcmSeal s.ctxKey (s.wireDraw 0 12).2.2 ((s.unit 0).ctx 2).header ((s.unit 0).ctx 2).pack).2)).fault = .none) ∧
    (fun w => (fun r => r.2 = true ∧ wentB s r.1 = true) ((w.st.setSeg 0 0 (segOf (ctxCmdDesc 0x11) (some 2))).clearJob 0 (some 2) (some 0) 0 false))
      ((s.wireDraw 0 12).1.engWrite 0x11 0x22000400 (zeros 128)) ∧
    ∃ t iv, s.wireDraw (Fin.val (0 : Fin 4)) 12 = (t, 0, iv) := by
  rintro s rfl
  exact ⟨by decide, by decide, by decide, by decide, by decide, by decide, by decide +kernel, by decide +kernel, draw_of rfl (by decide +kernel)⟩

/-- A wrapped context of bin 0 under a tag of one byte throughout. -/
def wrapped (e : Byte) : State :=
  keyed (jobs (List.replicate 10 0 ++ [0x7F] ++ List.replicate 101 0 ++ List.replicate 16 e) [(0, { segs := [segOf ((ctxCmdDesc 0x12).set 35 0x22) none] })])

theorem witness_EngineContexts_import : ∀ e, e = 0 ∨ e = 1 →
    worksB (wrapped e) 0 = true ∧ ((wrapped e).unit (Fin.val (0 : Fin 4))).ctxCmd 0x12 = some (segOf ((ctxCmdDesc 0x12).set 35 0x22) none) ∧
    (wrapped e).ctxCheck 0 (descOf true ((ctxCmdDesc 0x12).set 35 0x22)) true = 0 ∧ (wrapped e).ctxKey ≠ [] ∧ ((wrapped e).unit 0).freePlace = some 0 ∧
    (fun r => r.fault = .none ∧ wentB (wrapped e) r.st = true ∧ leAt (r.data.take 16) 8 2 = 0 ∧ leAt (r.data.take 16) 10 1 = 0x7F ∧
      r.data.take 112 = List.replicate 10 0 ++ [0x7F] ++ List.replicate 101 0 ∧ r.data.drop 112 = List.replicate 16 e)
      ((wrapped e).engRead 0x11 0x22000000 128) := by
  rintro e (rfl | rfl) <;> decide +kernel

/-- One of the two does not open. -/
theorem witness_EngineContexts_refused (key iv aad ct : List Byte) :
    gcmOpen key iv aad ct (List.replicate 16 0) = none ∨ gcmOpen key iv aad ct (List.replicate 16 1) = none := by
  by_cases h : gcmTag key iv aad ct = List.replicate 16 0
  · right; rw [gcmOpen, h, if_neg (by decide)]
  · left; rw [gcmOpen, if_neg h]

/-- What a tag closes opens under the same key. -/
theorem witness_EngineContexts_opens (key iv aad ct : List Byte) : (gcmOpen key iv aad ct (gcmTag key iv aad ct)).isSome = true := by
  simp [gcmOpen]

/-! ### Staves -/

/-- LCORE's ID is bound too; Stave `n` is as given. -/
def staveOn (n : Nat) (t : StaveSt) : State :=
  { (jobs [] []).modCore 10 fun c => { c with run := .run, agent := some 0x12 } with staves := [(n, t)] }

abbrev lcore : AgentId := 0x12

theorem witness_StaveClaimsAndQueues_claim : ∀ p ∈ [(0, mcore), (3, mcore), (4, lcore)], ∀ t ∈ [({} : StaveSt), { claim := some p.2.toNat }, { claim := some 0x55 }],
    lets (staveOn p.1 t) p.2 (pSTAVE p.1) 0x100 = true ∧ (reach (staveOn p.1 t) p.2 (pSTAVE p.1) 0x100).stave p.1 = t ∧
    (classOf p.2.toNat = .sys ∨ p.1 = 4) := by decide

theorem witness_StaveClaimsAndQueues_app : lets appPages core0 (pSTAVE 0) 0x100 = true ∧ classOf core0.toNat ≠ .sys ∧ classOf core0.toNat ≠ .keyd := by
  decide +kernel

/-- The state in which the second word of a command reaches its page. -/
def second (s : State) (a : AgentId) (n : Nat) (lo : Word) : State :=
  reach (answered ((reach s a (pSTAVE n) 0x104).setRg (pSTAVE n) 0x104 lo) a) a (pSTAVE n) 0x108

/-- Stave `n` is claimed with `k` commands waiting, and the first word of another is written. -/
def entering (n : Nat) (a : AgentId) (k : Nat) : State :=
  staveOn n { claim := some a.toNat, queue := List.replicate k (0, 0x00140020) }

def entered (n : Nat) (a : AgentId) (k : Nat) : State :=
  answered ((reach (entering n a k) a (pSTAVE n) 0x104).setRg (pSTAVE n) 0x104 0) a

theorem witness_StaveClaimsAndQueues_entry : ∀ p ∈ [(0, mcore), (3, mcore), (4, lcore)], ∀ k ∈ [0, 15, 16],
    lets (entering p.1 p.2 k) p.2 (pSTAVE p.1) 0x104 = true ∧ (lets (entered p.1 p.2 k) p.2 (pSTAVE p.1) 0x108 = true ↔ k < 16) ∧
    (fun x => x.claim = some p.2.toNat ∧ x.list = none ∧ x.queue = List.replicate k (0, 0x00140020))
      ((reach (entering p.1 p.2 k) p.2 (pSTAVE p.1) 0x104).stave p.1) ∧
    1 ≤ fld (0x00140020 : Word) 16 4 ∧ fld (0x00140020 : Word) 16 4 ≤ 7 := by decide +kernel

/-- A full queue makes the second word wait in flight. -/
theorem witness_StaveClaimsAndQueues_full : ∀ p ∈ [(0, mcore), (3, mcore), (4, lcore)],
    (entered p.1 p.2 16).issues p.2.toNat = true ∧
    (match (entered p.1 p.2 16).busAdmits p.2.toNat (pageBase (pSTAVE p.1) + 0x108) 4 .write (issuedOrder p.2.toNat) .none with
      | .yes _ _ _ _ _ false .none => true
      | _ => false) = true := by decide +kernel

theorem witness_StaveClaimsAndQueues_list : ∀ p ∈ [(0, mcore), (3, mcore), (4, lcore)],
    lets (staveOn p.1 { claim := some p.2.toNat }) p.2 (pSTAVE p.1) 0x114 = true ∧
    (fun t => (t.stave p.1).claim = some p.2.toNat ∧ (t.stave p.1).list = none ∧ (t.stave p.1).error = false ∧
      ((t.rg (pSTAVE p.1) 0x10C).toNat + fld (t.rg (pSTAVE p.1) 0x110) 0 8 * 2 ^ 32) % 8 = 0)
      (reach (staveOn p.1 { claim := some p.2.toNat }) p.2 (pSTAVE p.1) 0x114) ∧
    lets (staveOn p.1 { claim := some p.2.toNat }) p.2 (pSTAVE p.1) 0x12C = true := by decide

theorem witness_StaveClaimsAndQueues_fetch : ∀ p ∈ [(0x22000000, true), (0x08000000, false)], ∀ s, s = staveOn 0 { claim := some 0x11, list := some (p.1, 3) } →
    s.tamp.halted = false ∧ (s.stave (Fin.val (0 : Fin 5))).claim = some 0x11 ∧ (s.stave 0).list = some (p.1, 3) ∧ (s.stave 0).clearing = false ∧
    min (16 - (s.stave 0).queue.length) 3 ≠ 0 ∧ ((s.engRead 0x11 p.1 24).fault = .none ↔ p.2 = true) ∧ (s.engRead 0x11 p.1 24).st.held = s.held ∧
    ((s.engRead 0x11 p.1 24).st.stave 0).error = false := by
  intro p hp s hs; subst hs; revert p; decide

/-- The wires of Staves 0 to 3 hold 64 bytes. -/
def staveWired (s : State) : State := { s with rng := { s.rng with insts := (List.range 5).map fun i => (5 + i, { block := List.replicate 64 3 }) } }

theorem witness_StaveClaimsAndQueues_clearing : ∀ n ∈ [0, 3], ∀ s, s = staveWired (staveOn n { claim := some 0x11, clearing := true, written := [0, 511] }) →
    (s.stave n).clearing = true ∧ (s.stave n).randing = false ∧ n ≠ 4 ∧ s.rng.fault = false ∧ (s.rngInst (5 + n)).block.length = 64 ∧
    ((staveOn 4 { clearing := true }).stave 4).clearing = true ∧ (rngFails s).rng.fault = true ∧
    ((staveOn n { claim := some 0x11, clearing := true, gone := true }).stave n).gone = true := by
  intro n hn s hs; subst hs; revert n; decide +kernel

/-- A command waits first on a Stave that MCORE holds. -/
def stave (lo hi : Word) (err : Bool) (bind : Option (Nat × Nat × Nat)) : State :=
  staveWired { staveOn 0 { claim := some 0x11, queue := [(lo, hi), (0, 0x00140020)], error := err, bind := bind } with mem := [(0x23000000 + 64, 1)] }

theorem witness_StaveCommands : ∀ p ∈ [((1 : Nat), (0x00100008 : Nat), (0x00110000 : Nat)), (2, 0x00100008, 0x00120000), (3, 0, 0x00030001), (4, 0, 0x00140020), (5, 0, 0x00150020), (6, 0, 0x00160020), (7, 0, 0x00170020)],
    ∀ err, (stave (wd p.2.1) (wd p.2.2) err none).tamp.halted = false ∧ (fun t : StaveSt => t.claim = some 0x11 ∧ t.queue = (wd p.2.1, wd p.2.2) :: [(0, 0x00140020)] ∧
      (staveCmd (wd p.2.1) (wd p.2.2)).op = p.1 ∧ t.clearing = false ∧ t.randing = false ∧ t.error = err ∧ t.marked = false ∧
      (staveCmd (wd p.2.1) (wd p.2.2)).check t 0 = none ∧ (staveCmd (wd p.2.1) (wd p.2.2 + 0x2000)).check t 0 = some 1)
      ((stave (wd p.2.1) (wd p.2.2) err none).stave (Fin.val (0 : Fin 5))) := by decide

theorem witness_StaveCommands_rand : (stave 0 0x00160020 false none).rng.fault = false ∧
    (staveCmd 0 0x00160020).w / 8 = 32 ∧ ∃ w bs, (stave 0 0x00160020 false none).wireDraw (5 + Fin.val (0 : Fin 5)) 32 = (w, 0, bs) :=
  ⟨rfl, by decide, draw_of rfl (by decide +kernel)⟩

theorem witness_StaveCommands_release :
    (stave 0 0x00170020 false none).staveHolds (Fin.val (0 : Fin 5)) (staveCmd 0 0x00170020) = true ∧
    (stave 0x00100008 0x10170020 false (some (42, 1, 0x10))).staveHolds (Fin.val (0 : Fin 5)) (staveCmd 0x00100008 0x10170020) = false ∧
    (staveCmd 0x00100008 0x10170020).check ((stave 0x00100008 0x10170020 false (some (42, 1, 0x10))).stave 0) 0 = none := by decide

theorem witness_StaveCommands_access : ∀ s, s = { staveOn 0 { claim := some 0x11 } with flights := [{ id := 7, agent := 0x11, gate := 14, epoch := 0, addr := 0x23000000, size := 4, write := true, fetch := false, data := [1, 2, 3, 4], cache := 0, order := 0, issued := 0, second := false, timedOut := false }] } →
    ∃ f, s.flight 7 = some f ∧ regionOf f.addr = some (.stave 0) ∧ regionOf (f.addr + f.size - 1) = some (.stave 0) ∧
    s.canPerform f = true ∧ s.outranked f = false ∧
    (∀ g ∈ ramGranules f.addr f.size, g ∉ (s.stave 0).hidden ∧ g ∉ (s.stave 0).taint) ∧ f.timedOut = false ∧
    f.write = true ∧ f.data.length = f.size ∧ 0 < f.size ∧ s.changes = [] := by
  rintro s rfl; exact ⟨_, rfl, by decide⟩

theorem witness_StaveCommands_keyld : ∀ s, s = { staveOn 4 { claim := some 0x12 } with legal := { ({} : LegalSt) with key := some ((List.replicate 32 1, List.replicate 32 2), ([], [])) } } →
    s.issues aLCORE = true ∧ (∃ j, s.legal.key = some ((List.replicate 32 1, List.replicate 32 2), j)) ∧
    (s.stave 4).claim = some aLCORE ∧ (s.stave 4).clearing = false ∧ (s.stave 4).bind = none ∧ (0 : Nat) ∉ (s.stave 4).hidden ∧
    (0 : Nat) ∉ (s.stave 4).taint ∧ (xorBytes (List.replicate 32 1) (List.replicate 32 2)).length = 32 := by
  rintro s rfl; exact ⟨by decide, ⟨_, rfl⟩, by decide⟩

/-! ### Bin store -/

/-- Bin 5 as given, named by MCORE's ARG with the tag given; MCORE's buffer is in shared SRAM. -/
def binOf (r : BinRec) (arg : Word) : State :=
  { jobs (List.replicate 160 0) [] with
    bin := { ({} : BinSt) with ready := true, bins := [(5, r)] },
    aregs := [(akey 0x11 pBIN 0x10C, arg), (akey 0x11 pBIN 0x110, 0x22000000)] }

/-- MCORE's command write to such a bin reaches BIN, and no command of its own runs. -/
def binCmd (s : State) : Bool :=
  lets s mcore pBIN 0x120 && !(reach s mcore pBIN 0x120).binRuns 0x11 && !(reach s mcore pBIN 0x120).twinRepl &&
    !(reach s mcore pBIN 0x120).binRunning 0x11

def binAt (s : State) : State := reach s mcore pBIN 0x120

theorem witness_BinCommands_cancel : ∀ s, s = { binOf {} 5 with bin := { ({} : BinSt) with waits := [{ who := .cmd 0x11, cmd := 4, bin := 5 }] } } →
    lets s mcore pBIN 0x120 = true ∧ (binAt s).bin.waits.find? (fun w => w.who == .cmd 0x11) = some { who := .cmd 0x11, cmd := 4, bin := 5 } ∧
    (binAt s).binRuns 0x11 = false ∧ (binAt s).twinRepl = false := by rintro s rfl; decide

theorem witness_BinCommands_codes : ∀ p ∈ [((BinState.free : BinState), (0x7F0005 : Nat)), (.lost, 0x7F0005), (.hot, 0x7F0005), (.hot, 0x030005), (.cold, 0x7F0005), (.hot, 0x7F0100)],
    binCmd (binOf { st := p.1, inst := 0x7F } (wd p.2)) = true ∧
    (fun t => fld (t.arg 0x11 pBIN 0x10C) 0 16 = p.2 % 0x10000 ∧ carriedTag 0x11 (fld (t.arg 0x11 pBIN 0x10C) 16 7) = p.2 / 0x10000 ∧
      (t.binRec 5).st = p.1 ∧ t.bin.ready = true ∧ 256 * t.binCount = 256 ∧ mayCarry 0x11 (p.2 / 0x10000) = true ∧ t.twinStandby = false)
      (binAt (binOf { st := p.1, inst := 0x7F } (wd p.2))) := by decide

theorem witness_BinCommands_off : (binAt (jobs [] [] |> fun s => { s with bin := {} })).bin.ready = false ∧ mayCarry 0 3 = false ∧
    (({ State.reset with twin := { ({} : TwinSt) with state := 4 } } : State).twinStandby) = true := by decide

theorem witness_BinCommands_open : ∀ p ∈ [(0x7F0005, true), (0x010005, false)], binCmd (binOf {} (wd p.1)) = true ∧
    (fun t => (t.binRec 5).st = .free ∧ t.frameFree = true ∧ bitAt (t.arg 0x11 pBIN 0x10C) 24 = false ∧
      (fld (t.arg 0x11 pBIN 0x10C) 16 7 = 0x7F ↔ p.2 = true) ∧ (t.rg pBIN (0x200 + 4 * 1)).toNat ≤ tget 0 t.bin.used 1)
      (binAt (binOf {} (wd p.1))) := by decide

theorem witness_BinCommands_quota : tget 0 (((binOf {} 0x010005).setRg pBIN 0x204 1)).bin.used 1 <
    (((binOf {} 0x010005).setRg pBIN 0x204 1).rg pBIN (0x200 + 4 * 1)).toNat := by decide

theorem witness_BinCommands_hot : ∀ pins ∈ [0, 1, 254, 255], binCmd (binOf { st := .hot, inst := 0x7F, pins := pins, vis := zeros 160 } 0x7F0005) = true ∧
    (fun t => (t.binRec 5).st = .hot ∧ (t.binRec 5).inst = 0x7F ∧ (t.binRec 5).pins = pins ∧ t.pinWaits 5 0x7F = false ∧ (t.binRec 5).flags % 4 = 0)
      (binAt (binOf { st := .hot, inst := 0x7F, pins := pins, vis := zeros 160 } 0x7F0005)) := by decide

/-- A hot bin with all counters at their last value. -/
def hotBin : BinRec := { st := .hot, inst := 0x7F, vis := List.replicate 160 0xFF, flags := 1 }

theorem witness_BinCommands_data : ∀ s, s = binOf { hotBin with vis := zeros 160 } 0x7F0005 →
    (fun t => t.tamp.halted = false ∧ t.binAddr 0x11 = 0x22000000 ∧
      (fun m => m.fault = .none ∧ wentB t m.st = true ∧ m.st.bin = t.bin ∧ m.st.twinRepl = false ∧ m.st.badKeyref 0x7F m.data = false ∧
        m.st.aregs = (t.setArg 0x11 pBIN 0x124 (wd (256 * 5 + 2 ^ 30))).aregs)
        ((t.setArg 0x11 pBIN 0x124 (wd (256 * 5 + 2 ^ 30))).engRead 0x11 0x22000000 160) ∧
      (fun m => m.fault = .none ∧ wentB t m.st = true ∧ m.st.bin = t.bin ∧
        m.st.aregs = (t.setArg 0x11 pBIN 0x124 (wd (256 * 4 + 2 ^ 30))).aregs)
        ((t.setArg 0x11 pBIN 0x124 (wd (256 * 4 + 2 ^ 30))).engWrite 0x11 0x22000000 (binVisible 5 (t.binRec 5) (binTwinSeq (t.binRec 5).vis) (t.binRec 5).vis)))
      (binAt s) := by rintro s rfl; decide +kernel

/-- CLOSE overwrites at once where the wires fail, and waits for a wire that is not yet instantiated. -/
theorem witness_BinCommands_close : ∀ s, s = binOf { hotBin with flags := 0 } 0x7F0005 →
    binCmd s = true ∧ (binAt s).bin.scrubs = [] ∧ ((binAt s).binRec 5).flags % 4 = 0 ∧ (binAt (rngFails s)).rng.fault = true ∧
    binCmd (rngFails s) = true ∧ binCmd { s with rng := {} } = true ∧
    (binAt { s with rng := {} }).rng.fault = false ∧
    (((binAt { s with rng := {} }).modBin fun g => { g with
      bins := tdel g.bins 5, scrubs := [{ inst := 0x7F, close := some (0x11, false) }] }).wireDraw 4 512).2.1 ∈ [1, 2] := by
  rintro s rfl; decide

/-- The buffer names slot 41, which is instance 5's. -/
theorem witness_BinCommands_keyref : ((jobs (zeros 16 ++ [41, 0x80] ++ zeros 142) []).badKeyref 0x7F
    ((jobs (zeros 16 ++ [41, 0x80] ++ zeros 142) []).engRead 0x11 0x22000000 160).data) = true ∧
    ((binOf {} 0).engRead 0x11 0x08000000 160).fault ≠ .none := by decide +kernel

theorem witness_BinCommands_incr : ∀ p ∈ [(hotBin, true), ({ hotBin with vis := zeros 160 }, false)],
    (decide (2 ^ 64 ≤ leAt ((binOf p.1 0x7F0005).binRec 5).vis 32 8 + 1) = p.2) ∧ (hotBin.flags % 4 ≠ 0) := by decide

theorem witness_BinStore_enable : ∀ ready, CtrlBits { jobs [] [] with key := { keyBase.key with classReady := ready } }
      (pairEnd { jobs [] [] with key := { keyBase.key with classReady := ready } } mcore pBIN 0x10 1) mcore pBIN 1 ∧
    (fun u => u.en pBIN = false ∧ u.key.classReady = ready ∧ u.binCount ≤ 1)
      (pairEnd { jobs [] [] with key := { keyBase.key with classReady := ready } } mcore pBIN 0x10 1) := by
  intro ready; cases ready <;> exact ⟨pairs_of (by decide), by decide⟩

theorem witness_BinStore_ready : ∀ s, s = { (jobs [] []).setRg pBIN 0x10 1 with bin := { ({} : BinSt) with clearing := true } } →
    s.bin.clearing = true ∧ s.en pBIN = true := by rintro s rfl; decide

/-- The gate of DRAM lets every agent pass. -/
def dramOpen (s : State) : State :=
  (((s.setRg (pGATE 23) 0x10 1).setRg (pGATE 23) 0x400 0x1000000).setRg (pGATE 23) 0x404 0x1FFFFFF).setRg (pGATE 23) 0x408 0x80000FFF

/-- All 256 frames hold hot bins, a command waits, and the cold region is at `hi` times 4 GiB. -/
def crowded (hi : Word) : State :=
  { ((((dramOpen (jobs [] [])).setRg pDDR 0x108 1024).setRg pBIN 0x100 2).setRg pBIN 0x108 hi) with
    ddr := { ({} : DdrSt) with mode := 2, trained := true, keyed := true },
    bin := { ({} : BinSt) with ready := true, bins := (List.range 256).map (fun b => (b, { st := .hot, inst := 0x7F, vis := zeros 160 })), lru := [3, 4], waits := [{ who := .cmd 0x11, cmd := 1, bin := 300 }] } }

theorem witness_BinStore_spill : ∀ p ∈ [(1, true), (0x50, false)], (crowded (wd p.1)).tamp.halted = false ∧ (crowded (wd p.1)).bin.waits ≠ [] ∧ (crowded (wd p.1)).frameFree = false ∧
    (crowded (wd p.1)).binVictim = some 3 ∧ ((crowded (wd p.1)).binRec 3).press = none ∧ ((crowded (wd p.1)).binRec 3).digest = none ∧
    (fun w => (w.fault = .none ↔ p.2 = true) ∧ wentB (crowded (wd p.1)) w.st = true)
      ((crowded (wd p.1)).draw.engWrite aBIN ((crowded (wd p.1)).coldAddr 3) (zeros 576)) := by decide +kernel

/-- Bin 5 is cold under a record with a tag of one byte throughout, and unit 0 waits for it. -/
def cold (e : Byte) : State :=
  { ((dramOpen (jobs [] [])).setRg pDDR 0x108 1024).setRg pBIN 0x108 1 with
    ddr := { ({} : DdrSt) with mode := 2, trained := true, keyed := true },
    mem := (List.range 576).zip ([5, 0, 0x7F, 1] ++ zeros 540 ++ List.replicate 32 e) |>.map fun p => (0x100000000 + 0x240 * 5 + p.1, p.2),
    bin := { ({} : BinSt) with ready := true, bins := [(5, { st := .cold, inst := 0x7F })], waits := [{ who := .engine 0, cmd := 0, bin := 5 }] } }

theorem witness_BinStore_fill : ∀ e, e = 0 ∨ e = 1 → (cold e).tamp.halted = false ∧ (cold e).frameFree = true ∧
    (cold e).bin.waits.find? (fun w => ((cold e).binRec w.bin).st == .cold) = some { who := .engine 0, cmd := 0, bin := 5 } ∧
    (fun m => m.fault = .none ∧ wentB (cold e) m.st = true ∧ m.st.twinRepl = false ∧ m.data.take 16 = (cold e).coldHeader 5 ((cold e).binRec 5) ∧
      (m.data.drop 544).take 16 = List.replicate 16 e ∧ bitAt (m.st.rg pBIN 0x144) 31 = false)
      ((cold e).engRead aBIN ((cold e).coldAddr 5) 576) := by
  rintro e (rfl | rfl) <;> decide +kernel

theorem witness_BinStore_served : ∀ s, s = { binOf { hotBin with vis := zeros 160 } 0x7F0005 with bin := { (binOf hotBin 0).bin with waits := [{ who := .cmd 0x11, cmd := 2, bin := 5, args := { arg := 0x7F0005 } }] } } →
    s.bin.scrubs = [] ∧ s.bin.waits.find? (fun w => (s.binRec w.bin).st != .cold) = some { who := .cmd 0x11, cmd := 2, bin := 5, args := { arg := 0x7F0005 } } ∧
    (s.binDequeue { who := .cmd 0x11, cmd := 2, bin := 5, args := { arg := 0x7F0005 } }).binCheck 0x11 2 5 (binTag 0x11 { arg := 0x7F0005 }) = none ∧
    (match (s.binDequeue { who := .cmd 0x11, cmd := 2, bin := 5, args := { arg := 0x7F0005 } }).binDo 0x11 2 5 { arg := 0x7F0005 } with | (y, .done c) => c == 0 && wentB s y | _ => false) = true ∧
    s.changes = [] := by rintro s rfl; decide

/-- The pin of an instance's bin past its frames waits on. -/
theorem witness_BinStore_waits : ∀ s, s = { (binOf { st := .hot, inst := 3, vis := zeros 160 } 0x030005).setRg pBIN 0x100 1 with bin := { (binOf { st := .hot, inst := 3, vis := zeros 160 } 0).bin with waits := [{ who := .cmd 0x11, cmd := 2, bin := 5, args := { arg := 0x030005 } }] } } →
    (match (s.binDequeue { who := .cmd 0x11, cmd := 2, bin := 5, args := { arg := 0x030005 } }).binDo 0x11 2 5 { arg := 0x030005 } with | (_, .wait) => true | _ => false) = true ∧
    (s.binDequeue { who := .cmd 0x11, cmd := 2, bin := 5, args := { arg := 0x030005 } }).binCheck 0x11 2 5 (binTag 0x11 { arg := 0x030005 }) = none := by rintro s rfl; decide

theorem witness_BinStore_instance : ∀ n ∈ [0, 63], ∀ s, s = { binOf { st := .hot, inst := n } 0 with host := { ({} : HostSt) with insts := [(n, { st := 3, drained := true })] } } →
    ((s.inst n).st = 3 ∨ (s.inst n).st = 4) ∧ (s.inst n).drained = true ∧ (s.inst n).binsDone = false ∧ (s.bin.bins.map (·.1)).Nodup ∧
    s.twinRepl = false ∧ s.changes = [] ∧ lets s mcore pBIN (0x200 + 4 * n) = true ∧
    fld ((reach s mcore pBIN (0x200 + 4 * n)).rg pBIN 0x30) 0 2 = 0 ∧ lets appPages core0 pBIN (0x200 + 4 * n) = true := by
  intro n hn s hs; subst hs; revert n; decide +kernel

/-! ### Reader channels and the tag island -/

/-- Channel `n` enabled in the state given, BST up or not. -/
def rdrOn (n : Nat) (r : RdrSt) (bst : Bool) : State :=
  { (jobs [] []).setRg (pRDR n) 0x10 1 with rdrs := [(n, r)], pwr := { lit.pwr with rails := [2, 2, 0, 0, 2, if bst then 2 else 0] } }

/-- A running command in a phase. -/
def rdrRun (cmd : Nat) (p : RdrPhase) (arg0 : Nat) : RdrRun := { cmd := cmd, entry := 0, arg0 := arg0, arg1 := 0, tx := [], phase := p, uid := [1, 2, 3, 4] }

theorem witness_ReaderField_field : ∀ n ∈ [0, 7], ∀ bst, lets (rdrOn n {} bst) mcore (pRDR n) 0x104 = true ∧
    (fun t => t.en (pRDR n) = true ∧ t.bstUp = bst ∧ (t.rdr n).hold = false ∧ t.fpHolders < 4 ∧ t.rdrWaits = [])
      (reach (rdrOn n {} bst) mcore (pRDR n) 0x104) ∧
    lets ((rdrOn n {} bst).setRg (pRDR n) 0x10 0) mcore (pRDR n) 0x104 = true ∧
    (reach ((rdrOn n {} bst).setRg (pRDR n) 0x10 0) mcore (pRDR n) 0x104).en (pRDR n) = false := by decide

theorem witness_ReaderField_line : ∀ s, s = { rdrOn 7 {} true with rdrs := [(0, { hold := true }), (1, { hold := true }), (2, { hold := true }), (3, { hold := true })] } →
    lets s mcore (pRDR 7) 0x104 = true ∧ [0, 1, 2, 3].Nodup ∧
    (∀ m ∈ [0, 1, 2, 3], ((reach s mcore (pRDR 7) 0x104).rdr m).hold = true) ∧ ((reach s mcore (pRDR 7) 0x104).rdr 7).hold = false := by
  rintro s rfl; decide

theorem witness_ReaderField_off : ∀ n ∈ [0, 7], lets (rdrOn n { level := 2, run := some (rdrRun 4 .raw 0) } true) mcore (pRDR n) 0x104 = true ∧
    (fun t => t.en (pRDR n) = true ∧ (t.rdr n).level = 2 ∧ (t.rdr n).ramp = none ∧ (t.rdr n).run.isSome = true)
      (reach (rdrOn n { level := 2, run := some (rdrRun 4 .raw 0) } true) mcore (pRDR n) 0x104) := by decide

theorem witness_ReaderField_events : ∀ n ∈ [0, 7], ({ rdrOn n {} true with rdrWaits := [n] } : State).rdrWaits.head? = some n ∧
    (rdrOn n {} true).fpHolders < 4 ∧ ((rdrOn n { ramp := some 2 } true).rdr n).ramp = some 2 ∧
    ((rdrOn n { guard := true } true).rdr n).guard = true ∧ ((rdrOn n { guard := true } true).rdr n).run = none ∧
    ((rdrOn n { guard := true, run := some (rdrRun 1 .guard 4) } true).rdr n).run = some (rdrRun 1 .guard 4) ∧
    (rdrRun 1 .guard 4).phase = .guard ∧ nfld (rdrRun 1 .guard 4).arg0 0 2 = 0 ∧
    ((rdrOn n { level := 2 } true).rdr n).level ≠ 0 ∧
    ((rdrOn n { entries := [(63, { held := true })] } true).rdrEntry n 63).held = true ∧ ((rdrOn n {} true).rdrEntry n 63).held = false := by
  decide

theorem witness_ReaderField_watch : ∀ n ∈ [6, 7], ∀ due,
    (fun s => (s.rdr n).ramp = none ∧ fld (s.rg (pRDR n) 0x100) 0 2 = 1 ∧ (s.rdr n).level = 1 ∧ (s.rdr n).baseDue = due)
      ((rdrOn n { level := 1, baseDue := due } true).setRg (pRDR n) 0x100 1) ∧
    (fun s => (s.rdr n).ramp = none ∧ fld (s.rg (pRDR n) 0x100) 0 2 = 2 ∧ (s.rdr n).level = 0 ∧ (s.rdr n).baseDue = due)
      ((rdrOn n { baseDue := due } true).setRg (pRDR n) 0x100 2) ∧
    fld ((rdrOn n {} true).rg (pRDR n) 0x108) 0 8 * 1 < 1000 * apart 65535 1 ∧ ¬ fld ((rdrOn n {} true).rg (pRDR n) 0x108) 0 8 * 1 < 1000 * apart 1 1 := by
  decide

/-- Channel `n` at full power with entry 3 as given, its ARGs and TXLEN set. -/
def rdrFull (n : Nat) (r : RdrSt) (e : RdrEntry) : State :=
  (rdrOn n { r with level := 2, entries := [(3, e)] } true).setRg (pRDR n) 0x11C 4

def rdrCmd (s : State) (n : Nat) : State := reach s mcore (pRDR n) 0x110

theorem witness_ReaderCommands_abort : ∀ n ∈ [0, 7], ∀ u ∈ [none, some (rdrRun 4 .raw 0)], lets (rdrFull n { run := u } {}) mcore (pRDR n) 0x110 = true ∧
    ((rdrCmd (rdrFull n { run := u } {}) n).rdr n).run = u := by decide

theorem witness_ReaderCommands_refused : ∀ n ∈ [0, 7], (rdrCmd (rdrOn n {} true) n).rdrRefuses n 1 {} = some 1 ∧
    (rdrCmd (rdrFull n {} {}) n).rdrRefuses n 2 {} = some 3 ∧ ((rdrCmd (rdrOn n {} true) n).rdr n).run = none := by decide

/-- Entry 3 admits its command, during the guard time and after it. -/
def accepts (n : Nat) (e : RdrEntry) (cmd : Nat) : Bool :=
  [true, false].all fun g => lets (rdrFull n { guard := g } e) mcore (pRDR n) 0x110 &&
    ((rdrCmd (rdrFull n { guard := g } e) n).rdr n).run.isNone && ((rdrCmd (rdrFull n { guard := g } e) n).rdr n).guard == g &&
    ((rdrCmd (rdrFull n { guard := g } e) n).rdrRefuses n cmd ((rdrCmd (rdrFull n { guard := g } e) n).rdrEntry n 3)).isNone &&
    (rdrCmd (rdrFull n { guard := g } e) n).rdrEntry n 3 == e

theorem witness_ReaderCommands_taken : ∀ n ∈ [0, 7], accepts n {} 1 = true ∧ accepts n {} 4 = true ∧ accepts n {} 6 = true ∧
    accepts n { st := 1 } 2 = true ∧ accepts n { st := 2 } 2 = true ∧ accepts n { st := 4, proto := 2 } 2 = true ∧
    accepts n { st := 3, proto := 2 } 3 = true ∧ accepts n { st := 1 } 5 = true ∧ accepts n { st := 3, proto := 2 } 5 = true := by decide

theorem witness_ReaderCommands_frames : ∀ n ∈ [0, 7], ∀ p ∈ [RdrPhase.raw, .sak, .selectV, .xchgV, .reqa, .block],
    (fun u : RdrRun => ((rdrFull n { run := some u } {}).rdr n).run = some u ∧ u.phase = p ∧ (byteAt [0x20] 0).getLsbD 2 = false ∧
      u.arg0.testBit 3 = true ∧ u.deferred = false ∧ ((rdrFull n { run := some u } {}).rdr n).known 0 u.uid = none ∧
      ((rdrFull n { run := some u } {}).rdr n).freeEntry = some 0 ∧ (byteAt [0x20] 0).getLsbD 0 = false ∧
      fld ((rdrFull n { run := some u } {}).rg (pRDR n) 0x128) 24 4 ≤ 15 ∧ (rdrFull n { run := some u } {}).rg (pRDR n) 0x168 ≠ 0xFFFFFFFF ∧
      u.retry = 15) { rdrRun 1 p 8 with retry := 15 } := by decide

/-- The main chip is unpowered. -/
def dark (g : TagSt) : State := { State.reset with tag := g, tamp := { State.reset.tamp with vin := false } }

/-- A change of block 2047 in step 4 or 5. -/
def cycle (w : Option TagWire) : TagCycle := { change := .block 2047 7, wire := w }

theorem witness_TagSupply : (dark { cycle := some (cycle none) }).tagWired = false ∧ (dark { cycle := some (cycle none) }).tag.cycle = some (cycle none) ∧
    (dark { powered := false }).tag.powered = false ∧ (dark { powered := false }).tag.shadow = .empty ∧
    (dark { seed := some [1] }).tag.seed = some [1] ∧ (dark { conf := 1 }).tag.conf.testBit 0 = true ∧ (dark {}).tag.count < 0xFFFFFFFF ∧
    (dark { powered := false, shadow := .copied (.block 2047 7) 5 }).tag.shadow = .copied (.block 2047 7) 5 ∧
    (dark { powered := false, shadow := .committed (.block 2047 7) }).tag.shadow = .committed (.block 2047 7) ∧ (dark {}).tag.powered = true ∧
    State.reset.tamp.vin = true ∧ (dark { cycle := some (cycle none) }).tag.waits = [] ∧ (cycle none).change = .block 2047 7 ∧
    (dark { conf := 4 }).tag.conf.testBit 2 = true ∧ (dark { locks := [2047] }).tag.locks.contains 2047 = true ∧
    (dark { locks := [2047] }).tag.locks.contains 0 = false ∧ State.reset.tagWired = true := by decide

/-- A request that is addressed to none, and one that is addressed. -/
def plainReq : TagReq := { flags := 0x02, uid := [], crc := true, reserve := true }

def inField (g : TagSt) : State := { lit with tag := { g with field := true } }

theorem witness_TagRf_deaf : lit.tagHears plainReq = false := by decide

theorem witness_TagRf_takes : TagTakes (inField {}) plainReq ∧ (inField {}).tagHears plainReq = true ∧
    (inField { hold := true }).tag.hold = true ∧ (inField { map := [(15, (1, 1))] }).tag.writable 2047 = false ∧
    (inField { map := [(15, (1, 1))] }).tag.readable 2047 = false ∧ (inField {}).tag.writable 2047 = true ∧
    (inField { locks := [2047] }).tag.locks.contains 2047 = true ∧ (inField {}).tag.hold = false ∧ (inField {}).tag.cycle = none ∧
    (inField {}).tagReserve plainReq = true ∧ (inField {}).tag.cnts.length = 8 ∧ (inField {}).tag.nonce = none ∧
    (∀ i < 256, (inField {}).tag.readable i = true) ∧ (inField { pwlock := 0x80 }).tag.pwlock.testBit 7 = true ∧
    (inField {}).tag.pwlock.testBit 7 = false ∧ (inField { nonce := some 3, pws := [0, 0, 0, 0, 0, 0, 0, 9] }).tag.pws.getD 7 0 ≠ 0 :=
  ⟨⟨by decide +kernel, by decide +kernel, by decide +kernel⟩, by decide +kernel⟩

theorem witness_TagRf_noReserve : (dark { field := true }).tagReserve { plainReq with reserve := false } = false ∧
    TagTakes (dark { field := true }) { plainReq with reserve := false } := ⟨by decide, by decide, by decide, by decide⟩

/-- An inventory request of one slot, and of sixteen. -/
theorem witness_TagRf_inventory : ∀ f ∈ [(0x26 : Byte), 0x06], ∀ q, q = ({ plainReq with flags := f } : TagReq) →
    (inField {}).tagHears q = true ∧ q.flags.getLsbD 0 = false ∧ q.flags.getLsbD 2 = true ∧ (inField {}).tag.rf ≠ 1 ∧
    (q.flags.getLsbD 4 = true → afiMatch (nfld (inField {}).tag.conf 8 8) 0 = true) ∧ BitVec.toNat (0 : Byte) ≤ 64 := by
  intro f hf q hq; subst hq; revert f; exact each (by decide +kernel)

theorem witness_TagRf_mask (x y : Nat) : x % 2 ^ BitVec.toNat (0 : Byte) = y % 2 ^ BitVec.toNat (0 : Byte) := by
  rw [show BitVec.toNat (0 : Byte) = 0 from rfl, Nat.pow_zero, Nat.mod_one, Nat.mod_one]

theorem witness_TagRf_addressed : ∀ q, q = ({ flags := 0x22, uid := (inField { conf := 1, seed := some [1], rid := some [1, 2, 3, 4, 5, 6, 7, 8] }).tag.ident, crc := true, reserve := true } : TagReq) →
    (inField { conf := 1, seed := some [1], rid := some [1, 2, 3, 4, 5, 6, 7, 8] }).tagHears q = true ∧ q.flags.getLsbD 5 = true ∧
    q.uid = (inField { conf := 1, seed := some [1], rid := some [1, 2, 3, 4, 5, 6, 7, 8] }).tag.ident ∧
    (inField { conf := 1, seed := some [1], rid := some [1, 2, 3, 4, 5, 6, 7, 8] }).tag.random = true := by
  rintro q rfl; exact ⟨by decide, by decide, rfl, by decide⟩

/-- The wire side with an ARG of MCORE. -/
def wireSide (g : TagSt) (arg : Word) : State :=
  { drawing with
    tag := g, aregs := [(akey 0x11 pTAG 0x104, arg)],
    rng := { drawing.rng with insts := [(9, { block := List.replicate 16 4 })] } }

theorem witness_TagWireSide : ∀ arg ∈ [0x7FF, 0x1FFF], lets (wireSide {} (wd arg)) mcore pTAG 0x100 = true ∧
    (fun t => t.tagBusy 0x11 = false ∧ t.tag.waits = [] ∧ t.tag.cycle = none ∧ classOf 0x11 = .sys ∧ fld (t.arg 0x11 pTAG 0x104) 0 11 = 2047 ∧
      (fld (t.arg 0x11 pTAG 0x104) 12 3 ≠ 0 ↔ arg = 0x1FFF) ∧ t.tag.locks.contains 2047 = false)
      (reach (wireSide {} (wd arg)) mcore pTAG 0x100) := by decide

theorem witness_TagWireSide_locked : lets (wireSide { locks := [2047] } 0x7FF) mcore pTAG 0x100 = true ∧
    (reach (wireSide { locks := [2047] } 0x7FF) mcore pTAG 0x100).tag.locks.contains 2047 = true := by decide

theorem witness_TagWireSide_busy : ∀ s, s = wireSide { waits := [{ agent := some 0x11, cmd := 1, arg := 0, data := 0 }] } 0 →
    lets s mcore pTAG 0x100 = true ∧ (reach s mcore pTAG 0x100).tagBusy 0x11 = true := by rintro s rfl; decide

theorem witness_TagWireSide_app : lets appPages core0 pTAG 0x100 = true ∧ (reach appPages core0 pTAG 0x100).tagBusy 0 = false ∧
    classOf core0.toNat ≠ .sys ∧ classOf core0.toNat ≠ .keyd := by decide +kernel

theorem witness_TagWireSide_seed : ∃ y k, (((reach (wireSide {} 0) mcore pTAG 0x100).setArg 0x11 pTAG 0x10C (wd (256 * 7 + 2 ^ 30))).modTag fun g =>
      { g with waits := [TagWire.mk (some 0x11) 7 0 0] }).wireDraw 9 16 = (y, 0, k) := draw_of (by decide +kernel) (by decide +kernel)

theorem witness_TagWireSide_own : ∀ s, s = wireSide { conf := 1 } 0 → s.tag.waits = [] ∧ s.tag.cycle = none ∧ s.tag.seedDue = true ∧
    s.rng.ready = true ∧ s.tag.conf.testBit 0 = true ∧ ∃ y k, s.wireDraw 9 16 = (y, 0, k) := by
  rintro s rfl; exact ⟨rfl, rfl, rfl, rfl, by decide, draw_of rfl (by decide +kernel)⟩

/-! ### Contact slots, SD slot, journal -/

/-- Slot `n` as given, its registers set: CFG, CLK, APDU_CTL, APDU_LEN and the first two words of TXBUF. -/
def cardIn (n : Nat) (c : CardSt) (cfg clk ctl len tx0 tx1 : Word) (bst : Bool := true) : State :=
  (([(0x10, 1), (0x100, cfg), (0x104, clk), (0x10C, ctl), (0x110, len), (0x400, tx0), (0x404, tx1)] : List (Nat × Word)).foldl
    (fun s p => s.setRg (pCARD n) p.1 p.2) { rdrOn 0 {} bst with rdrs := [], cards := [(n, c)] })

def cardAt (n : Nat) (s : State) : State := reach s mcore (pCARD n) 0x108

/-- A running APDU. -/
def apduRun : CardRun := { cmd := 2, cls := 1 }

theorem witness_ContactSlots_running : ∀ n ∈ [0, 3], ∀ u ∈ [apduRun, { apduRun with left := 2, jrn := true }],
    lets (cardIn n { st := 3, cls := 1, run := some u } 0 0 0 0 0 0) mcore (pCARD n) 0x108 = true ∧
    ((cardAt n (cardIn n { st := 3, cls := 1, run := some u } 0 0 0 0 0 0)).card n).run = some u ∧ u.cmd = 2 ∧ u.opened = false := by
  decide

theorem witness_ContactSlots_activate : ∀ n ∈ [0, 3], ∀ st ∈ [0, 1, 5], ∀ cfg ∈ [0, 1, 3], ∀ div ∈ [11, 12, 240, 241],
    lets (cardIn n { st := st } (wd cfg) (wd div) 0 0 0 0) mcore (pCARD n) 0x108 = true ∧
    (fun t => (t.card n).run = none ∧ (t.card n).st = st ∧ fld (t.rg (pCARD n) 0x100) 0 2 = cfg ∧
      fld (t.rg (pCARD n) 0x104) 0 8 = div ∧ t.classAHeld n = false ∧ t.bstUp = true)
      (cardAt n (cardIn n { st := st } (wd cfg) (wd div) 0 0 0 0)) := by decide +kernel

theorem witness_ContactSlots_noBoost : lets (cardIn 0 { st := 1 } 1 12 0 0 0 0 false) mcore (pCARD 0) 0x108 = true ∧
    (cardAt 0 (cardIn 0 { st := 1 } 1 12 0 0 0 0 false)).bstUp = false := by decide

/-- Wrong STATE, lengths 3 and 1025, a length that contradicts its body, an extended APDU on T=0, a journalled one with
a record open, and one that starts. -/
theorem witness_ContactSlots_apdu : ∀ p ∈ [((1 : Nat), (4 : Nat), (0 : Nat), false, (17 : Nat)), (3, 3, 0, false, 5), (3, 1025, 0, false, 5), (3, 6, 9, false, 6),
      (4, 7, 0, false, 2), (3, 4, 0, true, 16), (4, 4, 0, false, 0), (3, 4, 0, false, 0)],
    (fun s => lets s mcore (pCARD 0) 0x108 = true ∧ ((cardAt 0 s).card 0).run = none ∧
      p.2.2.2.2 = (fun t => if (t.card 0).st ≠ 3 ∧ (t.card 0).st ≠ 4 then 17 else if fld (t.rg (pCARD 0) 0x110) 0 11 < 4 ∨ 1024 < fld (t.rg (pCARD 0) 0x110) 0 11 then 5
        else if apduOk (t.cardTx 0) = false then 6 else if apduExtended (t.cardTx 0) = true ∧ t.cardT1 0 = false then 2
        else if t.rbit (pCARD 0) 0x10C 0 = true ∧ tfind t.jrnl.opens 0 ≠ none then 16 else 0) (cardAt 0 s))
      ({ cardIn 0 { st := p.1, cls := 1 } 0 0 (if p.2.2.2.1 then 1 else 0) (wd p.2.1) 0 (wd p.2.2.1) with jrnl := { ready := true, opens := [(0, 0x107C0010)] } }) := by
  decide +kernel

/-- An ATR of T=1 without TA1 of its own, and one that breaks off. -/
theorem witness_ContactSlots_atr : (fun s => ((s.card 0).run = some { cmd := 1, cls := 3 }) ∧ s.rbit (pCARD 0) 0x100 2 = false)
      (cardIn 0 { st := 2, cls := 3, run := some { cmd := 1, cls := 3 } } 0 12 0 0 0 0) ∧
    parseAtr [0x3B] = none ∧
    ((parseAtr [0x3B, 0x80, 0x01, 0x81]).map fun i => (i.ta2, i.ta1, i.proto.getD 0)) = some (none, 0x11, 1) ∧
    ((parseAtr [0x3B, 0x00]).map fun i => (i.ta2, i.ta1, i.proto.getD 0)) = some (none, 0x11, 0) := by decide +kernel

theorem witness_ContactSlots_answer : ∀ n ∈ [0, 3], ∀ u ∈ [apduRun, { apduRun with left := 2 }],
    (fun s => (s.card n).run = some u ∧ u.cmd = 2 ∧ u.jrn = false ∧ u.opened = false ∧ s.changes = [] ∧ s.cardT1 n = true ∧
      (s.card n).cls ≠ 0 ∧ s.pdOn 49 = true ∧ (s.card n).st ≠ 0)
      ((cardIn n { st := 3, cls := 1, run := some u } 0 0 0 0 0 0).setRg (pCARD n) 0x11C 0x100) ∧
    (List.replicate 1024 (0 : Byte)).length ≤ 1024 := by decide +kernel

theorem witness_ContactSlots_events : ∀ n ∈ [0, 3],
    (fun s => s.pdOn 49 = true ∧ (s.card n).st = 0) (cardIn n {} 0 0 0 0 0 0) ∧
    (fun s => (s.card n).st = 3 ∧ (s.card n).run = none ∧ s.rbit (pCARD n) 0x100 6 = true ∧ fld (s.rg (pCARD n) 0x11C) 11 2 ≠ 0)
      ((cardIn n { st := 3, cls := 1 } 0x40 0 0 0 0 0).setRg (pCARD n) 0x11C 0x800) := by decide

/-- The SD slot as given, with MODE or JRN, LBA and COUNT written and 0x10000 blocks on the card; block data at shared
SRAM. -/
def sdIn (c : SdSt) (ctl lba cnt : Word) : State :=
  ([(0x10, 1), (0x108, ctl), (0x10C, lba), (0x110, cnt), (0x114, 0x22000000), (0x124, 0x10000)] : List (Nat × Word)).foldl
    (fun s p => s.setRg pSDC p.1 p.2) { jobs (zeros 512) [] with sdc := c, jrnl := { ready := true } }

def sdAt (s : State) : State := reach s mcore pSDC 0x104

theorem witness_SdSlot_start : ∀ present ∈ [true, false], ∀ st ∈ [1, 4, 5], ∀ mode ∈ [0, 5],
    (fun s => lets s mcore pSDC 0x104 = true ∧ (sdAt s).sdc.run = none ∧ (sdAt s).sdc.present = present ∧ (sdAt s).sdc.st = st ∧
      fld ((sdAt s).rg pSDC 0x108) 0 3 = mode)
      (sdIn { st := st, present := present } (wd mode) 0 1) := by decide +kernel

/-- READ and WRITE: no blocks, 32 journalled blocks, the last block and one past it, a protected card, a record open. -/
theorem witness_SdSlot_codes : ∀ p ∈ [((0 : Nat), (0 : Nat), (0 : Nat), false, (2 : Nat), (5 : Nat)), (2 ^ 31, 0, 32, false, 3, 5), (0, 0xFFFF, 1, false, 2, 0), (0, 0x10000, 1, false, 2, 6),
      (0, 0, 1, true, 3, 7), (2 ^ 31, 0, 31, false, 3, 12), (0, 0, 1, false, 3, 0)],
    (fun s => lets s mcore pSDC 0x104 = true ∧ (sdAt s).sdc.run = none ∧ p.2.2.2.2.2 =
      (fun t => if t.sdc.st = 5 then 12 else if t.sdc.st ≠ 4 then 3
        else if fld (t.rg pSDC 0x110) 0 16 = 0 ∨ (bitAt (t.rg pSDC 0x108) 31 = true ∧ 31 < fld (t.rg pSDC 0x110) 0 16) then 5
        else if t.sdBlocks < (t.rg pSDC 0x10C).toNat + fld (t.rg pSDC 0x110) 0 16 then 6 else if p.2.2.2.2.1 = 3 ∧ t.sdc.wp = true then 7
        else if p.2.2.2.2.1 = 3 ∧ bitAt (t.rg pSDC 0x108) 31 = true ∧ tfind t.jrnl.opens 4 ≠ none then 12 else 0) (sdAt s))
      { sdIn { st := 4, present := true, wp := p.2.2.2.1 } (wd p.1) (wd p.2.1) (wd p.2.2.1) with jrnl := { ready := true, opens := [(4, 0x107C0010)] } } := by
  decide +kernel

/-- A running command of MCORE for the first block. -/
def sdRun (cmd stage : Nat) : SdRun := { cmd := cmd, agent := 0x11, stage := stage, mode := 5, count := 1, addr := 0x22000000 }

theorem witness_SdSlot_running : ∀ p ∈ [((1 : Nat), (0 : Nat)), (2, 0), (3, 0), (3, 2), (4, 0)],
    (fun s => lets s mcore pSDC 0x104 = true ∧ (sdAt s).sdc.run = some (sdRun p.1 p.2) ∧ (sdAt s).sdc.wait = none ∧ (sdAt s).sdc.restoring = false ∧
      s.tamp.halted = false ∧ s.sdc.run = some (sdRun p.1 p.2) ∧ s.sdc.wait = none ∧ s.sdc.restoring = false ∧ s.jrnl.ready = true ∧ s.sdc.present = true ∧
      s.pdOn 50 = true ∧ tfind s.jrnl.opens 4 = none ∧ fld (s.rg pSDC 0x100) 0 3 ≤ 5)
      (sdIn { st := 4, present := true, run := some (sdRun p.1 p.2) } 0 0 1) := by decide +kernel

theorem witness_SdSlot_data : (fun s => s.tamp.halted = false ∧ (fun w => w.st.sdc = (s.modSdRun fun r => { r with stage := 2 }).sdc ∧ w.st.held = s.held)
      ((s.modSdRun fun r => { r with stage := 2 }).engWrite 0x11 0x22000000 (fitTo 512 [1, 2]))) (sdIn { st := 4, present := true, run := some (sdRun 2 0) } 0 0 1) ∧
    (fun s => s.tamp.halted = false ∧ (fun m => m.st.sdc = (s.modSdRun fun r => { r with stage := 2 }).sdc ∧ m.fault = .none ∧ m.st.held = s.held)
      ((s.modSdRun fun r => { r with stage := 2 }).engRead 0x11 0x22000000 512)) (sdIn { st := 4, present := true, run := some (sdRun 3 0) } 0 0 1) := by
  decide +kernel

theorem witness_SdSlot_insertion : (fun s => s.pdOn 50 = true ∧ s.sdc.present = false ∧ s.rbit pSDC 0x100 6 = false) ((sdIn {} 0 0 0).setRg pSDC 0x100 0) := by decide

/-- A journalled WRITE of one block with sector 496 in use at its first record; it just fits at 0x3DB0 too. -/
theorem witness_Journal_open : ∀ pos ∈ [16, 0x4000 - 592], ∀ count ∈ [1],
    (fun s r => s.tamp.halted = false ∧ s.sdc.run = some r ∧ r.cmd = 3 ∧ r.jrn = true ∧ r.stage = 0 ∧ s.jrnl.ready = true ∧ s.jrnl.cur = some 496 ∧ r.count ≤ 31 ∧
      s.jrnl.pos + (80 + 512 * r.count) ≤ 0x4000 ∧ s.flashWaits (sectorBase 496 + s.jrnl.pos) = false)
      ({ sdIn { st := 4, present := true, run := some { sdRun 3 0 with jrn := true, count := count } } 0 0 1 with
        flash := { ({} : FlashSt) with scanned := true }, jrnl := { ready := true, cur := some 496, pos := pos } }) { sdRun 3 0 with jrn := true, count := count } := by decide

theorem witness_Journal_close :
    (fun s r => s.tamp.halted = false ∧ s.sdc.run = some r ∧ r.cmd = 3 ∧ r.jrn = true ∧ r.auto = false ∧ r.stage = 1 ∧ s.sdc.restoring = false ∧ s.sdc.wait = none ∧
      tfind s.jrnl.opens 4 = some 0x107C0010 ∧ s.flashWaits (0x107C0010 + 64) = false)
      ({ sdIn { st := 4, present := true, run := some { sdRun 3 1 with jrn := true } } 0 0 1 with
        flash := { ({} : FlashSt) with scanned := true }, jrnl := { ready := true, cur := some 496, pos := 608, opens := [(4, 0x107C0010)] } }) { sdRun 3 1 with jrn := true } := by decide

theorem witness_Journal_ack : ∀ a ∈ [mcore, kcore], ∀ k ∈ [0, 3, 4],
    (fun s => lets s a pJRNL 0x138 = true ∧ tfind (reach s a pJRNL 0x138).jrnl.opens k = some 0x107C0010 ∧ (reach s a pJRNL 0x138).flashWaits (0x107C0010 + 64) = false ∧
      tfind (reach s a pJRNL 0x138).jrnl.opens 2 = none)
      { (jobs [] []).setRg pJRNL 0x10 1 with flash := { ({} : FlashSt) with scanned := true }, jrnl := { ready := true, opens := [(k, 0x107C0010)] }, sdc := { st := 5, present := true } } :=
  each (by decide +kernel)

/-- A record without blocks, whose pre-image CRC is that of nothing: 0. -/
theorem witness_Journal_restore :
    (fun s => s.tamp.halted = false ∧ s.sdc.restoring = true ∧ s.sdc.run = some (sdRun 1 0) ∧ s.sdc.wait = none ∧ tfind s.jrnl.opens 4 = some 0x107C0010 ∧
      s.flashWaits (0x107C0010 + 64) = false ∧ s.sdc.wp = false ∧ leAt (s.flashBytes 0x107C0010 16) 5 1 = 0 ∧ crc32 (s.flashBytes 0x107C0060 0) = leAt (s.flashBytes 0x107C0030 16) 4 4 ∧
      ∀ w ∈ codeWords 0x107C0010 80, w ≠ (0x107C0050 - 0x10000000) / 16 → s.wordFlagged w = false)
      { sdIn { st := 3, present := true, run := some (sdRun 1 0), restoring := true } 0 0 0 with
        jrnl := { ready := true, cur := some 496, pos := 96, opens := [(4, 0x107C0010)] },
        mem := (State.reset.mem ++ [(0x107C0015, (0 : Byte)), (0x107C0034, 0), (0x107C0035, 0), (0x107C0036, 0), (0x107C0037, 0)]),
        flash := { ({} : FlashSt) with scanned := true, ws := [(0x7C001, 0), (0x7C003, 0)] } } := by decide +kernel

theorem witness_Journal_scan : (fun s => s.flash.scanned = true ∧ s.jrnl.ready = false ∧ ∀ i < 16, s.sectorHeader (496 + i) = none)
    { State.reset with flash := { ({} : FlashSt) with scanned := true } } := by decide +kernel


/-! ### Legal island -/

/-- The island as given with a request of a code, argument and length in MB_REQ; `ws` are programmed flash words. -/
def island (l : LegalSt) (code arg len : Nat) (mem : List Host.Cell := []) (ws : Tbl Nat := []) : State :=
  (({ jobs [] [] with legal := l, mem := mem, flash := { ({} : FlashSt) with scanned := true, ws := ws } }).setRg pLEGAL 0x128 (wd (code + at' arg 16))).setRg
    pLEGAL 0x12C (wd len)

/-- d and NKEY of an island that has its key. -/
def islandKey : (List Byte × List Byte) × (List Byte × List Byte) := ((zeros 32, zeros 31 ++ [1]), (zeros 32, zeros 32))

/-- Consecutive cells. -/
def cellsFrom (a : Nat) (bs : List Byte) : List Host.Cell := (List.range bs.length).zip bs |>.map fun p => (a + p.1, p.2)

theorem witness_LegalMailbox_post : ∀ a ∈ [mcore, kcore], ∀ mb ∈ [0, 1, 2],
    lets (island { mb := mb } 1 0 0) a pLEGAL 0x130 = true ∧ (reach (island { mb := mb } 1 0 0) a pLEGAL 0x130).legal.mb = mb :=
  each (by decide)

theorem witness_LegalMailbox_take : ∀ code ∈ [0, 1, 0x0E, 0x0F, 0x7F, 0x80, 0xFF], ∀ m ∈ [1, 5],
    (island { mb := 1, mstate := m } code 0 0).legal.mb = 1 ∧ (island { mb := 1, mstate := m } code 0 0).legal.mstate ≠ 0 ∧
    (island { mb := 1, mstate := m } code 0 0).mbCode = code := by decide

theorem witness_LegalMailbox_length : ∀ code ∈ [1, 2, 0x0E], (island { mb := 2 } code 0 1).mbCode = code ∧ (island { mb := 2 } code 0 1).mbLen = 1 := by decide

theorem witness_LegalMailbox_holds : ∀ p ∈ [((1 : Nat), (0 : Nat)), (2, 48), (3, 4), (4, 4), (5, 0), (6, 8), (7, 4), (8, 0), (9, 256), (0x0A, 0), (0x0B, 32), (0x0C, 0), (0x0D, 0), (0x0E, 0)],
    MbHolds (island { mb := 2 } p.1 0 p.2) p.1 p.2 := by
  have h : ∀ p ∈ [((1 : Nat), (0 : Nat)), (2, 48), (3, 4), (4, 4), (5, 0), (6, 8), (7, 4), (8, 0), (9, 256), (0x0A, 0), (0x0B, 32), (0x0C, 0), (0x0D, 0), (0x0E, 0)],
      (island { mb := 2 } p.1 0 p.2).legal.mb = 2 ∧ (island { mb := 2 } p.1 0 p.2).mbCode = p.1 ∧ (island { mb := 2 } p.1 0 p.2).mbLen = p.2 := by decide
  exact fun p hp => ⟨(h p hp).1, (h p hp).2.1, (h p hp).2.2⟩

/-- READING: every code it ends with. -/
theorem witness_LegalMailbox_reading : ∀ p ∈ [((0 : Nat), (1 : Nat), (0 : Nat), true, true, (3 : Nat)), (4, 1, 0, true, true, 3), (1, 5, 0, true, true, 5), (1, 1, 4, true, true, 6), (1, 1, 2, false, true, 12),
      (3, 1, 2, true, false, 13), (1, 1, 0, true, true, 0)],
    (fun s => MbHolds s 2 48 ∧ LflFree s ∧ p.2.2.2.2.2 = if s.mbArg = 0 ∨ 3 < s.mbArg then 3 else if s.legal.mstate ≠ 1 then 5 else if 2 < s.islandLc then 6
      else if s.legal.key = none then 12 else if p.2.2.2.2.1 = false then 13 else 0)
      { island { mb := 2, mstate := p.2.1, key := if p.2.2.2.1 then some islandKey else none } 2 p.1 48 with lc := { ({} : LcSt) with state := p.2.2.1 } } := by
  have h : ∀ p ∈ [((0 : Nat), (1 : Nat), (0 : Nat), true, true, (3 : Nat)), (4, 1, 0, true, true, 3), (1, 5, 0, true, true, 5), (1, 1, 4, true, true, 6), (1, 1, 2, false, true, 12),
      (3, 1, 2, true, false, 13), (1, 1, 0, true, true, 0)],
    (fun s => (s.legal.mb = 2 ∧ s.mbCode = 2 ∧ s.mbLen = 48) ∧ s.flashWaits 0x10380000 = false ∧ p.2.2.2.2.2 = if s.mbArg = 0 ∨ 3 < s.mbArg then 3 else if s.legal.mstate ≠ 1 then 5 else if 2 < s.islandLc then 6
      else if s.legal.key = none then 12 else if p.2.2.2.2.1 = false then 13 else 0)
      { island { mb := 2, mstate := p.2.1, key := if p.2.2.2.1 then some islandKey else none } 2 p.1 48 with lc := { ({} : LcSt) with state := p.2.2.1 } } := by decide
  exact fun p hp => ⟨⟨(h p hp).1.1, (h p hp).1.2.1, (h p hp).1.2.2⟩, (h p hp).2⟩

/-- Record 0 stands at the ring's first place. -/
theorem witness_LegalMailbox_record : ((island { mb := 2, recno := 1, recPos := 1 } 3 0 4 (cellsFrom (recordBase 0) [0x4C, 0x52, 0x01, 0, 0, 0, 0, 0])
      ((List.range 12).map fun i => ((recordBase 0 - 0x10000000) / 16 + i, 0))).recordAt 0).isSome = true ∧
    (island { mb := 2 } 3 0 4).recordAt 0 = none := by decide +kernel

theorem witness_LegalMailbox_book : ∀ n ∈ [1, 8], (island { mb := 2, bookNo := 8 } 4 n 4).mbArg = n ∧
    (fun i => i + n ≤ 8) (leNat ((island { mb := 2, bookNo := 8 } 4 n 4).mbReq 0 4)) ∧
    (island { mb := 2, bookNo := 0 } 4 n 4).legal.bookNo < leNat ((island { mb := 2, bookNo := 0 } 4 n 4).mbReq 0 4) + n := by decide +kernel

/-- SETTIME: sealed with the last free place, a full book, a full audit trail; unsealed within and beyond its limits. -/
theorem witness_LegalMailbox_settime : ∀ l ∈ [({ mb := 2, sealOn := true, bookNo := 4095, audit := 4095 } : LegalSt), { mb := 2, sealOn := true, bookNo := 4096 }, { mb := 2, sealOn := true, audit := 4096 },
      { mb := 2, bookNo := 4031, time := 30 * 65536 }, { mb := 2, time := 30 * 65536 + 1 }],
    (island l 6 0 8).legal = l ∧ (island l 6 0 8).flashWaits 0x10380000 = false ∧ leNat ((island l 6 0 8).mbReq 0 8) = 0 := by decide +kernel

theorem witness_LegalMailbox_param : ∀ p ∈ [((0x30 : Nat), true, (0 : Nat), (0 : Nat)), (0xFFFF, true, 0, 3), (0x30, false, 0, 4), (0x30, true, 4096, 8)],
    (fun s => s.flashWaits 0x10380000 = false ∧ p.2.2.2 = if s.mbArg ∉ paramIds then 3 else (s.auditRefuses true).getD 0)
      (island { mb := 2, sealOn := p.2.1, bookNo := p.2.2.1 } 7 p.1 4) ∧ (island {} 7 0x30 4).paramGoverning = none := by decide +kernel

theorem witness_LegalMailbox_update : ∀ p ∈ [((0 : Nat), true, (4 : Nat), (0 : Nat)), (255, true, 4, 0), (256, true, 4, 3), (0, false, 4, 4), (0, true, 1, 5), (1, true, 4, 10)],
    (fun s => s.flashWaits 0x10380000 = false ∧ p.2.2.2 = if s.legal.sealOn = false then 4 else if s.legal.mstate ≠ 4 then 5 else if 255 < s.mbArg then 3
      else if s.anyWritten (0x10380000 + 256 * s.mbArg) 256 = true then 10 else 0)
      (island { mb := 2, sealOn := p.2.1, mstate := p.2.2.1 } 9 p.1 256 [] [(0x38010, 0)]) := by decide +kernel

/-- An image of no bytes, whose CRC is 0. -/
def imageMem : List Host.Cell := cellsFrom 0x10380000 ([0x4C, 0x49, 0x01, 0, 7, 0, 0, 0] ++ zeros 56)
def imageWs : Tbl Nat := [(0x38000, 0), (0x38001, 0), (0x38002, 0), (0x38003, 0)]

theorem witness_LegalMailbox_updateEnd : ∀ q ∈ [(true, imageMem), (false, cellsFrom 0x10380000 ([0x4C, 0x49, 0x01, 0, 7, 0, 0, 0, 0, 0, 0, 0, 1] ++ zeros 51))],
    (fun s => s.flashWaits 0x10380000 = false ∧ s.legal.sealOn = true ∧ s.legal.mstate = 4 ∧ s.legal.bookNo < 4096 ∧ s.legal.audit < 4096 ∧
      (s.imageHead.map fun h => decide (s.imageCrc h.2.1 = h.2.2.1)) = some q.1)
      (island { mb := 2, sealOn := true, mstate := 4 } 0x0A 0 0 q.2 imageWs) := by decide +kernel

theorem witness_LegalMailbox_keygen : ∀ p ∈ [(true, (2 : Nat), false, ([] : List Bool), (6 : Nat)), (true, 1, true, [], 12), (true, 0, false, List.replicate 81 true, 11), (true, 1, false, List.replicate 80 true, 0)],
    (fun s => s.flashWaits 0x10380000 = false ∧ p.2.2.2.2 = match s.auditRefuses (s.islandLc ≤ 1) with
      | some c => c
      | none => if s.legal.key.isSome then 12 else if longRun p.2.2.2.1 none 0 then 11 else 0)
      { island { mb := 2, sealOn := p.1, key := if p.2.2.1 then some islandKey else none } 0x0B 0 32 with lc := { ({} : LcSt) with state := p.2.1 } } := by decide +kernel

theorem witness_LegalMailbox_rest : (∀ a ∈ [0, 7, 8], (island { mb := 2 } 0x0D a 0).mbArg = a) ∧
    (∀ c ∈ [8, 0x0C], ∀ b, (fun s => s.flashWaits 0x10380000 = false ∧ s.legal.sealOn = b) (island { mb := 2, sealOn := b } c 0 0)) ∧
    (fun s => s.auditRefuses (s.islandLc == 0) = none ∧ s.flashWaits 0x10380000 = false) (island { mb := 2, sealOn := true } 0x0E 0 0) ∧
    (fun s => s.auditRefuses (s.islandLc == 0) = some 6) ({ island { mb := 2, sealOn := true } 0x0E 0 0 with lc := { ({} : LcSt) with state := 1 } }) ∧
    0x80 ≤ (island { mb := 2 } 0x80 0 0).mbCode ∧ (island { mb := 2, key := some islandKey } 5 0 0).legal.key = some islandKey := by decide

theorem witness_LegalMeasuring : (island { dsp := true } 0 0 0).legal.dsp = true ∧ (island {} 0 0 0).legal.dsp = false ∧ (island {} 0 0 0).flashWaits 0x10380000 = false ∧
    (fun s => 0 < (s.rg pAFE 0x108).toNat * 2 ^ 32 ∧ (s.rg pAFE 0x108).toNat * 2 ^ 32 ≤ s.legal.pulseAcc) ((island { pulseAcc := 2 ^ 32 } 0 0 0).setRg pAFE 0x108 1) ∧
    (fun s => s.legal.pulseAcc < (s.rg pAFE 0x108).toNat * 2 ^ 32) ((island { pulseAcc := 2 ^ 32 - 1 } 0 0 0).setRg pAFE 0x108 1) ∧
    (fun s => s.flashWaits 0x10380000 = false ∧ s.legal.recint ≠ 0 ∧ s.legal.mstate = 1 ∧ s.islandLc ≤ 2 ∧ s.legal.key = some islandKey)
      ({ island { recint := 1, mstate := 1, key := some islandKey } 0 0 0 with lc := { ({} : LcSt) with state := 2 } }) ∧
    (∀ m ∈ [1, 5], (fun s => s.legal.mstate = m ∧ s.flashWaits 0x10380000 = false) (island { mstate := m, held := 1 } 0 0 0)) ∧
    (∀ b ∈ [true, false], (fun s => s.legal.sealOn = b ∧ s.flashWaits 0x10380000 = false) (island { sealOn := b } 0 0 0)) ∧
    (fun s => s.notices = 3 :: [4] ∧ s.flashWaits 0x10380000 = false) { island {} 0 0 0 with notices := [3, 4] } ∧
    (fun s => s.legal.lc ≠ s.islandLc ∧ s.flashWaits 0x10380000 = false) (island { lc := 1 } 0 0 0) ∧ (island {} 0 0 0).legal.lc = (island {} 0 0 0).islandLc := by decide

/-- LCORE running in its ROM, or in island SRAM. -/
def lcoreAt (rom : Bool) (l : LegalSt) : State :=
  (island l 0 0 0).modCore 10 fun c => { c with
    run := .run, agent := some 0x12, pc := if rom then 0x100 else 0x10100, segs := [(0, { codeSeg with base := 0x26000000, limit := 0x1FFFF })] }

theorem witness_LegalMeasuring_setcmd : ∀ rom ∈ [true, false], lets (lcoreAt rom {}) lcore pLRTC 0x110 = true ∧
    (reach (lcoreAt rom {}) lcore pLRTC 0x110).lcoreRom = rom ∧ lcore.toNat = aLCORE := by decide +kernel

theorem witness_LegalIsland_start : (island {} 0 0 0).flashWaits 0x10380000 = false ∧ (island {} 0 0 0 imageMem imageWs).flashWaits 0x10380000 = false ∧
    (island {} 0 0 0).imageHead = none ∧ (island {} 0 0 0).legal.mstate = 0 ∧ (island {} 0 0 0).paramCopy 228 = none ∧ (island {} 0 0 0).paramCopy 229 = none ∧
    (fun s => s.imageHead = some (7, 0, 0, 0) ∧ s.imageCrc 0 = 0) (island {} 0 0 0 imageMem imageWs) ∧
    (fun s => (s.core 10).run = .halted ∧ s.flashWaits 0x10380000 = false) ((lcoreAt true {}).modCore 10 fun c => { c with run := .halted }) := by decide +kernel

/-- LFL commands on the sectors at both ends of what the ROM reserves. -/
theorem witness_LegalIsland_lfl : ∀ sec ∈ [223, 224, 229, 230, 245, 246, 255, 256], ∀ rom ∈ [true, false],
    (fun s => lets s lcore pLEGAL 0x200 = true ∧ lets (s.vinReads true) lcore pLEGAL 0x200 = true ∧ lets (s.vinReads false) lcore pLEGAL 0x200 = true ∧
      fld ((reach s lcore pLEGAL 0x200).rg pLEGAL 0x204) 14 9 = sec ∧ (reach s lcore pLEGAL 0x200).lcoreRom = rom ∧ (reach s lcore pLEGAL 0x200).legal.lfl = none)
      ((lcoreAt rom {}).setRg pLEGAL 0x204 (wd (sec * 0x4000))) := by decide +kernel

/-- The island's flash request at its boundary: erased, programmed, misaligned and outside its sectors. -/
theorem witness_LegalIsland_request : ∀ cmd ∈ [1, 2, 3, 5], ∀ off ∈ [224 * 0x4000 - 16, 224 * 0x4000, 224 * 0x4000 + 4, 256 * 0x4000],
    (fun s => s.legal.lfl = some cmd ∧ s.flashWaits 0x10380000 = false ∧ fld (s.rg pLEGAL 0x204) 0 23 = off ∧ s.pwr.vinLow = false)
      ((island { lfl := some cmd } 0 0 0 [] [(0x38001, 0)]).setRg pLEGAL 0x204 (wd off)) := by decide

theorem witness_LegalIsland_blank : (∀ i < 1024, tget 3 (island {} 0 0 0).flash.ws (1024 * 224 + i) = 3) ∧
    tget 3 (island {} 0 0 0 [] [(1024 * 224 + 5, 0)]).flash.ws (1024 * 224 + 5) ≠ 3 ∧
    (∀ j < 5, tget 3 (island {} 0 0 0 [] [(1024 * 224 + 5, 0)]).flash.ws (1024 * 224 + j) = 3) := by decide +kernel


/-! ### Host interface and stream port -/

/-- A root with instance `n` as given; its registers may be set, BAR pages are reached by MCORE. -/
def hosted (h : HostSt) : State := ((jobs [] []).setRg pSYS 0x108 2 |> fun s => { s with host := h })

def medAt (s : State) (cmd : Nat) (xs : List Word) : State := reach (s.medFill mcore.toNat cmd xs) mcore pHOST 0x824

/-- A mediator's command reaches MED_DOOR, its words in place. -/
def medLets (s : State) (cmd : Nat) (xs : List Word) : Bool :=
  lets (s.medFill mcore.toNat cmd xs) mcore pHOST 0x824

theorem witness_HostInstances_busy : ∀ p ∈ [((1 : Nat), [(0 : Word), 0, 0, 0, 1, 0]), (2, [0]), (3, [0]), (4, [0])],
    medLets (hosted { med := some { cmd := 1 } }) p.1 p.2 = true ∧ (medAt (hosted { med := some { cmd := 1 } }) p.1 p.2).host.med ≠ none := by decide +kernel

/-- Instances in their states, one of them 63. -/
def instIn (n : Nat) (i : InstSt) (med : Option MedRun := none) (queue running : List DmaRun := []) : State :=
  hosted { insts := [(n, i)], link := some (3, 2), med := med, queue := queue, running := running }

/-- CREATE with 0, 1, 8 and 9 queues, with no manager, and with every instance in use. -/
theorem witness_HostInstances_create : ∀ p ∈ [((0 : Nat), hosted {}), (1, hosted {}), (8, hosted {}), (9, hosted {}), (1, (hosted {}).setRg pSYS 0x108 1),
      (1, instIn 0 { st := 2 })],
    (fun xs => medLets p.2 1 xs = true ∧ (medAt p.2 1 xs).rg pHOST 0x800 = wd 1 ∧ (∀ i < 6, (medAt p.2 1 xs).medArg i = xs.getD i 0) ∧
      (medAt p.2 1 xs).twinRepl = false ∧ (medAt p.2 1 xs).host.med = none ∧ (medAt p.2 1 xs).role = p.2.role ∧ fld (xs.getD 4 0) 0 4 = p.1)
      [5, 6, 7, 8, wd p.1, 9] := by decide +kernel

theorem witness_HostInstances_all : (∀ n < 64, ((hosted { insts := (List.range 64).map fun k => (k, { st := 2 }) }).inst n).st ≠ 0) ∧
    ((instIn 0 { st := 2 }).inst 1).st = 0 ∧ (∀ m < 1, ((instIn 0 { st := 2 }).inst m).st ≠ 0) := by decide +kernel

/-- What `Tears` asks. -/
def tearsB (u : State) (nn st : Nat) : Bool := (u.teardown nn st).held == u.held

theorem tears_of {u : State} {nn st : Nat} (h : tearsB u nn st = true) : Tears u nn st := by
  simpa [tearsB, Tears] using h

theorem witness_HostInstances_med : ∀ nn ∈ [0, 63], ∀ st ∈ [0, 1, 2, 3, 4], ∀ cmd ∈ [2, 3, 4],
    (fun s => medLets s cmd [wd nn] = true ∧ (medAt s cmd [wd nn]).rg pHOST 0x800 = wd cmd ∧ (medAt s cmd [wd nn]).medArg 0 = wd nn ∧
      (medAt s cmd [wd nn]).twinRepl = false ∧ (medAt s cmd [wd nn]).host.med = none ∧ ((medAt s cmd [wd nn]).inst nn).st = st ∧ fld (wd nn) 0 6 = nn ∧
      tearsB { medAt s cmd [wd nn] with host := { (medAt s cmd [wd nn]).host with med := some { cmd := cmd, inst := nn } } } nn (if cmd = 2 then 4 else 3) = true)
      (instIn nn { st := st }) := by decide +kernel

/-- Instance 63's registers: one queue pair of 16 entries, PASID 5 valid. -/
def ready63 (i : InstSt) (med : Option MedRun) (running : List DmaRun := []) : State :=
  ([(0x100, 1), (0x104, 0x80000005), (0x108, 0x22001000), (0x310, 0x80000404), (0x200, 1)] : List (Nat × Word)).foldl (fun s p => s.setRg (pINST 63) p.1 p.2)
    (instIn 63 i med [] running)

theorem witness_HostInstances_answer : ∀ code ∈ [0, 1, 3], ∀ st ∈ [1, 2], ∀ vd ∈ [true, false],
    (fun s => lets s mcore pHOST 0x10C = true ∧ (fun t => (t.inst 63).st = st ∧ t.twinRepl = false ∧ t.createOk 63 = vd ∧ t.host.med = some { cmd := 1, inst := 63 } ∧
          tearsB { t with host := { t.host with med := some { cmd := 1, inst := 63, code := if code = 1 then 1 else 2 } } } 63 4 = true)
        (reach s mcore pHOST 0x10C) ∧ fld (wd (code + 63 * 256)) 8 6 = 63 ∧ fld (wd (code + 63 * 256)) 0 2 = code ∧ classOf mcore.toNat = .sys)
      (if vd then ready63 { st := st } (some { cmd := 1, inst := 63 }) else instIn 63 { st := st } (some { cmd := 1, inst := 63 })) := by decide +kernel

/-- CORE0 reaches the instances' pages. -/
def instPages : State :=
  ((((appPages.setRg (pGATE 21) 0x10 1).setRg (pGATE 21) 0x400 0x301000).setRg (pGATE 21) 0x404 0x3013F0).setRg (pGATE 21) 0x408 0x8100061F)

theorem witness_HostInstances_srst : ∀ n ∈ [0, 63], ∀ st ∈ [1, 2], lets (instIn n { st := st }) mcore (pINST n) 0x10 = true ∧
    ((reach (instIn n { st := st }) mcore (pINST n) 0x10).inst n).st = st ∧ (reach (instIn n { st := st }) mcore (pINST n) 0x10).twinRepl = false ∧
    tearsB (reach (instIn n { st := st }) mcore (pINST n) 0x10) n 3 = true ∧ lets instPages core0 (pINST n) 0x10 = true ∧ instOf core0.toNat = none ∧ instOf mcore.toNat = none := by decide +kernel

theorem witness_HostInstances_events : ∀ n ∈ [0, 63], ∀ st ∈ [1, 3, 4],
    (fun s => s.twinRepl = false ∧ s.changes = [] ∧ s.host.med = some { cmd := 1, inst := n } ∧ (s.inst n).st = st ∧ (s.inst n).limit = false ∧
      (∀ d ∈ s.host.queue, d.inst ≠ n) ∧ (s.inst n).drained = true ∧ s.inflight n = 0 ∧ s.host.flr = false ∧
      tearsB { s with host := { s.host with med := some { cmd := 1, inst := n, code := 4 } } } n 4 = true ∧ (s.drainLimit n []).held = s.held ∧
      (st = 1 ∨ (((s.instBins n).inst n).binsDone = true ∧ ((s.instBins n).instResetDone n).held = s.held ∧
        ((s.instBins n).keyScrub).slotsGone (s.inst n).slots = true)))
      (instIn n { st := st, drained := true } (some { cmd := 1, inst := n })) ∧
    (fun s => s.inflight n ≠ 0 ∧ (st = 1 ∨ (((s.instBins n).inst n).binsDone = true ∧ ((s.instBins n).instResetDone n).held = s.held)))
      (instIn n { st := st, drained := true } none [] [{ addr := 0x22000000, agent := 0x11, desc := [0, 0, BitVec.ofNat 8 n, 0, 16] }]) := by decide +kernel

theorem witness_HostInstances_flr : (instIn 63 { st := 2 }).flr.held = (instIn 63 { st := 2 }).held ∧ (instIn 63 { st := 2 }).twinRepl = false ∧ (instIn 63 { st := 2 }).changes = [] ∧ ((instIn 63 { st := 2 }).inst 63).st ≠ 0 := by decide +kernel

theorem witness_HostQueues_doorbell : ∀ q ∈ [0, 7], ∀ tail ∈ [true, false], ∀ st ∈ [2, 3], ∀ w ∈ [15, 16],
    (fun s off => lets s mcore (pINST 63) off = true ∧ ((reach s mcore (pINST 63) off).inst 63).st = st ∧
      fld ((reach s mcore (pINST 63) off).rg (pINST 63) (0x310 + 0x20 * q)) (if tail then 0 else 8) 4 = 4 ∧ (wd w &&& 0xFFF) = wd w)
      ((instIn 63 { st := st }).setRg (pINST 63) (0x310 + 0x20 * q) 0x404) (0x200 + 8 * q + (if tail then 0 else 4)) := by decide +kernel

/-- Instances reach shared SRAM. -/
def instRule (s : State) : State :=
  (((s.setRg (pGATE 12) 0x10 1).setRg (pGATE 12) 0x400 0x220000).setRg (pGATE 12) 0x404 0x2207FF).setRg (pGATE 12) 0x408 0x80000620

theorem witness_HostQueues_fetch : (fun s => s.changes = [] ∧ s.twin.handover = false ∧ s.tamp.halted = false ∧ s.host.link = some (3, 2) ∧ s.sqNext = some 504 ∧ s.sqWork 63 0 = 1 ∧
      (fun u => u.2 = 1 ∧ wentB s u.1 = true) ((s.modHost fun h => { h with next := 505 }).sqStore 63 0 [zeros 64] 0))
      (instRule (ready63 { st := 2 } none)) ∧
    (instIn 63 { st := 1 }).sqNext = none ∧ (hosted {}).host.link = none := by decide +kernel

/-- A completion post: every code. -/
theorem witness_HostQueues_post : ∀ p ∈ [((1 : Nat), true, (0 : Nat), (0 : Word), (2 : Nat)), (2, false, 0, 0, 3), (2, true, 1, 0, 4), (2, true, 0, 1, 1), (2, true, 0, 0, 0)],
    (fun s => lets s mcore (pINST 63) 0x410 = true ∧ p.2.2.2.2 = (fun t => if (t.inst 63).st ≠ 2 then 2 else if t.host.link = none then 3
        else if fld (t.rg (pINST 63) 0x100) 0 4 ≤ p.2.2.1 then 4
        else if (fld (t.rg (pINST 63) (0x318 + 0x20 * p.2.2.1)) 0 12 + 1) % 2 ^ fld (t.rg (pINST 63) (0x310 + 0x20 * p.2.2.1)) 8 4 =
          (t.rg (pINST 63) (0x204 + 8 * p.2.2.1)).toNat % 2 ^ fld (t.rg (pINST 63) (0x310 + 0x20 * p.2.2.1)) 8 4 then 1 else 0)
        (reach s mcore (pINST 63) 0x410))
      ((ready63 { st := p.1 } none).setRg (pINST 63) 0x204 p.2.2.2.1 |> fun s => { s with host := { s.host with link := if p.2.1 then some (3, 2) else none } }) := by
  decide +kernel

/-- The interface and the instances reach their pages. -/
def barIn : State :=
  ([(pGATE 19, 0x10, 1), (pGATE 19, 0x400, 0x300000), (pGATE 19, 0x404, 0x3FFFFF), (pGATE 19, 0x408, 0x8000067F), (pGATE 21, 0x10, 1), (pGATE 21, 0x400, 0x301000),
    (pGATE 21, 0x404, 0x3013FF), (pGATE 21, 0x408, 0x8000067F)] : List (Nat × Nat × Word)).foldl (fun s p => s.setRg p.1 p.2.1 p.2.2)
    { hosted { insts := [(0, { st := 2 }), (63, { st := 2 })], link := some (3, 2) } with flightNo := 4 }

theorem witness_PlainRegisters_instance : ∀ off ∈ [0x24, 0x2C, 0x30], lets barIn 0x7F (pINST 63) off = true ∧
    pageKind (pINST 63) = some (.inst 63) ∧ (instOf (0x7F : AgentId).toNat).isSome = true := by decide +kernel

/-- A BAR access is answered at once, refused by its gate, or waits behind an earlier access of its agent. -/
theorem witness_HostQueues_barAccess : ∀ write ∈ [true, false],
    ∀ p ∈ [((0x80 : Nat), pHOST, (0x800 : Nat)), (0x80, pHOST, 0xBFC), (0x40, pINST 0, 0), (0x7F, pINST 63, 0xFFC)],
    (∀ q ∈ [(barIn, BusFault.none), (instIn 63 { st := 2 }, .gate)], (fun s => (fun r => r.flight = none ∧ r.ans.fault = q.2 ∧ r.ans.st.held = s.held)
      (s.access p.1 (pageBase p.2.1 + p.2.2) 4 (if write then .write else .read) (leBytes 4 5) 0 .none)) q.1) ∧
    (fun s => (fun r => r.flight.isSome = true ∧ r.ans.st.held = s.held) (s.access p.1 (pageBase p.2.1 + p.2.2) 4 (if write then .write else .read) (leBytes 4 5) 0 .none))
      { barIn with flights := [{ id := 3, agent := p.1, gate := 21, epoch := 0, addr := pageBase p.2.1 + p.2.2, size := 4, write := true, fetch := false, data := zeros 4, cache := 0, order := 1, issued := 1, second := true, timedOut := false }] } := by
  decide +kernel

/-- A DMA descriptor: direction, flags, instance and length, host address 0x1000, shared SRAM at 0x22000100. -/
def dmaDesc (dir fl inst len : Byte) : List Byte :=
  [dir, fl, inst, 0, len, 0, 0, 0, 0, 0x10, 0, 0, 0, 0, 0, 0, 0, 1, 0, 0x22, 0, 0, 0, 0, 0, 0, 0, 0, 0, 0, 0, 0]

/-- The descriptor stands at 0x22000000 and is submitted by MCORE; a link is up. -/
def dmaState (desc : List Byte) (st : Nat) (running queue : List DmaRun) : State :=
  instRule ({ (jobs desc []).setRg pSYS 0x108 2 |>.setRg pHOST 0x10 1 with
    host := { insts := [(63, { st := st })], link := some (3, 2), running := running, queue := queue } })

def dmaRun (desc : List Byte) (squashed : Bool) : DmaRun := { addr := 0x22000000, agent := 0x11, desc := desc, squashed := squashed }

theorem witness_HostQueues_submit : ∀ p ∈ [(dmaDesc 2 0 0x7F 16, (1 : Nat)), (dmaDesc 0 0 63 16, 2), (dmaDesc 0 2 0x7F 16, 0), (dmaDesc 1 1 0x7F 16, 0)],
    (fun s => lets s mcore pHOST 0x114 = true ∧ (fun y => y.tamp.halted = false ∧ y.en pHOST = true ∧ y.host.queue.length < 256 ∧
      (fun m d => m.fault = .none ∧ m.st.tamp.halted = false ∧ d.desc = m.data ∧ wentB y m.st = true ∧ m.st.host.queue = [] ∧ m.st.host.link ≠ none ∧ m.st.host.running.length < 16 ∧
        wentB y (m.st.dmaResult d 1 0) = true ∧ p.2 = if d.bad then 1 else if d.inst < 64 ∧ (m.st.inst d.inst).st ≠ 2 then 2 else 0)
        (((reach s mcore pHOST 0x114).setArg 0x11 pHOST 0x118 0x80000000).engRead 0x11 0x22000000 32) (dmaRun p.1 false)) (reach s mcore pHOST 0x114))
      (dmaState p.1 1 [] []) := by decide +kernel

theorem witness_HostQueues_submitFull : 16 ≤ ((dmaState [] 1 (List.replicate 16 (dmaRun (dmaDesc 0 0 0x7F 16) false)) []).host.running.filter fun r => !r.squashed).length ∧
    256 ≤ (dmaState [] 1 [] (List.replicate 256 (dmaRun (dmaDesc 0 0 0x7F 16) false))).host.queue.length ∧ fld (1 : Word) 0 5 ≠ 0 ∧
    ((dmaState [] 1 [] []).setRg pHOST 0x10 0).en pHOST = false ∧ ((dmaState [] 1 [] []).engRead 0x11 0x26F00000 32).fault ≠ .none ∧
    wentB (dmaState [] 1 [] []) ((dmaState [] 1 [] []).engRead 0x11 0x26F00000 32).st = true := by decide +kernel

theorem witness_HostQueues_complete : ∀ sq ∈ [true, false], ∀ dir ∈ [(0 : Byte), 1], ∀ d, d = dmaRun (dmaDesc dir 1 0x7F 16) sq →
    (fun s => s.tamp.halted = false ∧ s.host.running[0]? = some d ∧ s.host.queue = [] ∧ s.changes = [] ∧ d.squashed = sq ∧
      (fun y => (fun m => m.fault = .none ∧ wentB s (m.st.dmaResult d 0 16) = true) (y.engWrite d.side (leAt d.desc 16 5) (zeros 16)) ∧
        (fun m => m.fault = .none ∧ wentB s ((m.st.hostPost none (leAt d.desc 8 8) m.data).dmaResult d 0 d.len) = true) (y.engRead d.side (leAt d.desc 16 5) d.len) ∧
        wentB s (y.dmaResult d 6 0) = true)
        (s.modHost fun h => { h with running := h.running.eraseIdx 0 }))
      (dmaState [] 2 [d] []) := by intro sq hq dir hd d e; subst e; revert sq dir; decide +kernel

theorem witness_HostQueues_bars : (hosted {}).host.link = none ∧ (instIn 63 {}).host.link = some (3, 2) ∧ (instIn 63 {}).tamp.halted = false ∧
    (∀ o ∈ [0x400, 0xFFC], (BitVec.ofNat 18 o).toNat % 4 = 0 ∧ 0x400 ≤ (BitVec.ofNat 18 o).toNat ∧ (BitVec.ofNat 18 o).toNat < 0x1000) ∧
    (∀ o ∈ [0, 0x10FC], (BitVec.ofNat 18 o).toNat < 0x1100) ∧ (BitVec.ofNat 18 0x10FC).toNat / 4 % 4 = 3 := by decide

theorem witness_HostQueues_link : (instIn 63 {}).changes = [] ∧ (instIn 63 {}).host.running = [] ∧ (hosted {}).pdOn 36 = true ∧
    (fun s d => s.host.running = [d] ∧ d.squashed = false ∧ wentB s ((s.modHost fun h => { h with link := none, running := [] }).dmaResult d 7 0) = true)
      (dmaState [] 2 [dmaRun (dmaDesc 0 0 63 16) false] []) (dmaRun (dmaDesc 0 0 63 16) false) := by decide +kernel

/-- The stream port as given, EN set, bin 5 of the base, MCORE's FLOW registers written. -/
def strmIn (t : StrmSt) (n c0 c1 : Word) : State :=
  { (jobs [] []).setRg pSTRM 0x10 1 with
    strm := t, bin := { ({} : BinSt) with ready := true, bins := [(5, { st := .hot, inst := 0x7F, pins := 1, vis := zeros 160 }), (6, {})] },
    aregs := [(akey 0x11 pSTRM 0x108, n), (akey 0x11 pSTRM 0x10C, c0), (akey 0x11 pSTRM 0x110, c1)] }

def aFlow : StrmFlow := { mode := 1, unit := 0, inst := 0x7F, key := 40, bin := 5, rflow := 7, agent := 0x11 }

theorem witness_StreamPort_link : (fun s => s.changes = [] ∧ s.en pSTRM = true ∧ s.strm.up = false ∧ s.pdOn 37 = true) (strmIn {} 0 0 0) ∧
    (fun s => s.strm.removing = [] ∧ ∀ u, (s.unit u).wants = [] ∧ ∀ g ∈ (s.unit u).segs, g.own = none) (strmIn { up := true } 0 0 0) := by
  exact ⟨by decide, by decide, fun u => ⟨rfl, fun g hg => absurd hg (List.not_mem_nil (a := g))⟩⟩

/-- ADD: a flow that is there, MODE 0, a reserved bit, a free bin, and one that is taken. -/
theorem witness_StreamPort_add : ∀ p ∈ [((3 : Nat), (0x287F01 : Nat), (5 : Nat), (1 : Nat)), (4, 0x287F00, 5, 6), (4, 0x287F05, 5, 6), (4, 0x287F01, 6, 3), (4095, 0x287F01, 0x70005, 0)],
    (fun s => lets s mcore pSTRM 0x114 = true ∧ (fun t => t.strm.adds = [] ∧ t.strm.removing = [] ∧ (t.binRec 5).st = .hot ∧ (t.binRec 5).pins < 255 ∧
        t.pinWaits 5 0x7F = false ∧ t.twinRepl = false ∧ (t.flowRefuses p.1 (wd p.2.1) (wd p.2.2.1)).getD 0 = p.2.2.2 ∧
        fld (t.arg 0x11 pSTRM 0x108) 0 12 = p.1) (reach s mcore pSTRM 0x114))
      (strmIn { flows := [(3, aFlow)] } (wd p.1) (wd p.2.1) (wd p.2.2.1)) := by decide +kernel

theorem witness_StreamPort_limit : fld ((strmIn {} 0 0 0).rg pSTRM 0x200) 0 13 ≤ (strmIn { flows := List.replicate 8192 (9, { aFlow with inst := 0 }) } 0 0 0).strm.used 0 ∧
    classOf core0.toNat ≠ .sys ∧ classOf core0.toNat ≠ .keyd ∧ lets (appPages.setRg pSTRM 0x10 1) core0 pSTRM 0x114 = true := by decide +kernel

theorem witness_StreamPort_waiting : ∀ t ∈ [({ adds := [{ agent := 0x11, flow := 9, cfg0 := 0x287F01, cfg1 := 5 }] } : StrmSt), { removing := [(0x11, 3, aFlow)] }],
    lets (strmIn t 0 0 0) mcore pSTRM 0x114 = true ∧ ((reach (strmIn t 0 0 0) mcore pSTRM 0x114).strm.adds.any (fun x => x.agent == 0x11) ||
      (reach (strmIn t 0 0 0) mcore pSTRM 0x114).strm.removing.any (fun e => e.1 == 0x11)) = true := by decide +kernel

theorem witness_StreamPort_remove : lets (strmIn { flows := [(3, aFlow)] } 3 0 0) mcore pSTRM 0x114 = true ∧
    (fun t => tfind t.strm.flows 3 = some aFlow ∧ tfind t.strm.flows 4 = none ∧ t.twinRepl = false ∧ t.strm.frames = [] ∧ t.strm.removing = [] ∧ (t.binRec 5).st ≠ .free)
      (reach (strmIn { flows := [(3, aFlow)] } 3 0 0) mcore pSTRM 0x114) := by decide +kernel

theorem witness_StreamPort_granted : (fun s p => s.changes = [] ∧ s.twinRepl = false ∧ s.strm.adds = [p] ∧ s.flowPinReady (flowOf p.agent p.cfg0 p.cfg1) = true ∧
      s.flowRefuses p.flow p.cfg0 p.cfg1 = none ∧ s.bin.waits = [])
      (strmIn { adds := [{ agent := 0x11, flow := 9, cfg0 := 0x287F01, cfg1 := 5 }] } 0 0 0) { agent := 0x11, flow := 9, cfg0 := 0x287F01, cfg1 := 5 } ∧
    (strmIn {} 0 0 0).strm.adds.find? (fun x => (strmIn {} 0 0 0).flowPinReady (flowOf x.agent x.cfg0 x.cfg1)) = none := by decide

/-- Data frames on flow 3 that carry two credits: to be sealed, of another bin, too long for its field, and of no flow. -/
theorem witness_StreamPort_frames : ∀ p ∈ [((3 : Nat), (5 : Nat), true, (none : Option Nat)), (3, 6, true, some 2), (4, 5, false, none)],
    (fun b s => s.changes = [] ∧ s.strm.up = true ∧ s.strm.frames = [] ∧ s.strm.errs = [] ∧ (b.length + 255) / 256 ≤ s.strm.granted ∧ 
      leAt b 28 4 = crc32 (b.take 28) ∧ (tfind s.strm.flows (leAt b 2 2)).isSome = p.2.2.1 ∧ (p.2.2.1 = true → frameRefuses aFlow b = p.2.2.2) ∧
      (max 64 ((leAt b 16 2 + 16) + 36) + 255) / 256 ≤ s.strm.credits + leAt b 18 2 ∧ s.twinRepl = false ∧
      s.binCounter 5 0 ≠ 2 ^ 64 - 1 ∧ 40 ≤ (s.binRec 5).vis.length)
      (mkFrame 1 1 p.1 p.2.1 0 2 [1, 2, 3]) (strmIn { up := true, flows := [(3, aFlow)], granted := 1 } 0 0 0) := by decide +kernel

theorem witness_StreamPort_frameBad : (strmIn { up := true } 0 0 0).strm.granted < ((zeros 64).length + 255) / 256 ∧
    (leAt (zeros 64) 28 4 ≠ crc32 ((zeros 64).take 28)) ∧
    (fun b => leAt b 28 4 = crc32 (b.take 28) ∧ frameRefuses aFlow b = none ∧ (0 : Nat) + leAt b 18 2 < (max 64 ((leAt b 16 2 + 16) + 36) + 255) / 256)
      (mkFrame 1 1 3 5 0 0 [1, 2, 3]) := by decide +kernel

/-- The frame in service: good, its FCS wrong, its key gone. -/
theorem witness_StreamPort_end : ∀ p ∈ [(mkFrame 1 1 3 5 0 2 [1, 2, 3], (40 : Nat), (0 : Nat)), (mkFrame 1 1 3 5 0 2 [1, 2, 3] |> fun b => b.set 40 7, 40, 8), (mkFrame 1 1 3 5 0 2 [1, 2, 3], 77, 6)],
    ∀ f, f = { aFlow with key := p.2.1 } →
    (fun s b => s.tamp.halted = false ∧ s.changes = [] ∧ s.twinRepl = false ∧ s.strm.frames = [{ bytes := b, stage := 2, flow := some f, need := 1, seq := 1 }] ∧ leAt b 2 2 = 3 ∧
      s.strm.removing = [] ∧ s.strm.errs = [] ∧ 0 < s.strm.credits ∧ f.unit < 2 ∧ f.mode = 1 ∧ ownRunsB s (.flow 3) (2 + f.unit) 13 0 = true ∧
      s.tamp.vin = true ∧ s.respOf 23 < 4 ∧ (s.clearDraw (2 + f.unit)).2 = true ∧
      p.2.2 = if b.length ≠ leAt b 4 2 then 1 else if leAt b (leAt b 4 2 - 4) 4 ≠ crc32 (b.take (leAt b 4 2 - 4)) then 8
        else if s.strmKey f ≠ .ok then 6 else if (s.binRec 5).st = .lost then 10 else 0)
      { strmIn { up := true, flows := [(3, f)], credits := 1, frames := [{ bytes := p.1, stage := 2, flow := some f, need := 1, seq := 1 }] } 0 0 0 with
        rng := { ({} : RngSt) with fault := true } } p.1 := by
  intro p hp f e; subst e; revert p; decide +kernel

theorem witness_StreamPort_credit : leAt (mkFrame 2 0 0 0 0 9 []) 28 4 = crc32 ((mkFrame 2 0 0 0 0 9 []).take 28) ∧ (strmIn { up := true } 0 0 0).strm.errs = [] := by
  decide +kernel

theorem witness_StreamPort_start : ∀ c ∈ [0, 1], ∀ x, x = ({ bytes := mkFrame 1 2 3 5 9 0 (zeros 20), stage := 1, flow := some { aFlow with mode := 2 } } : StrmFrame) →
    (fun s => s.changes = [] ∧ s.twinRepl = false ∧ s.strm.frames = [x] ∧ (max 64 ((leAt x.bytes 16 2 - 16) + 36) + 255) / 256 = 1 ∧ s.strm.credits = c ∧
      s.strm.frames.any (fun y => y.stage == 1) = true)
      (strmIn { up := true, credits := c, frames := [x] } 0 0 0) := by intro c hc x e; subst e; revert c; decide +kernel

theorem witness_StreamPort_return : ∀ p ∈ [((1 : Nat), true), (16, false), (65535, false)], (strmIn { up := true, owed := p.1 } 0 0 0).strm.up = true ∧
    0 < p.1 ∧ p.1 < 65536 ∧ (p.2 = true ∨ 16 ≤ p.1) := by decide


/-! ### Vine and system time -/

/-- ROLE, VINE.ID, the mode and LINK of ports 0 and 5, and the ports' and the block's state. -/
def vineIn (role : Word) (id : Word) (mode : Word) (link : Word) (v : VineSt) : State :=
  ([(pSYS, 0x108, role), (pVINE, 0x10, 1), (pVINE, 0x100, id), (pVPORT 0, 0x100, mode), (pVPORT 0, 0x104, link), (pVPORT 5, 0x100, mode), (pVPORT 5, 0x104, link)] :
    List (Nat × Nat × Word)).foldl (fun s p => s.setRg p.1 p.2.1 p.2.2) { jobs [] [] with vine := v }

/-- Member 9 at depth 1 whose upstream port is 5, and the root. -/
def memberId : Word := 9 + 0x10000 + 0x1000000 + 0x50000000
def rootId : Word := 0x30000

def vArr (s : State) (n : Nat) (k : VPkt) : Bool :=
  s.vUp n && s.vMode n == 1 && ((s.vport n).state != 4 || k.body.onRedundant) && (s.vTake n k true).2 && (s.vTake n k true).1.changes.isEmpty

def vTook (s : State) (n : Nat) (k : VPkt) : State := (s.vTake n k true).1

theorem varrives_of {s : State} {n : Nat} {k : VPkt} (h : vArr s n k = true) : VArrives s (vTook s n k) n k := by
  simp only [vArr, Bool.and_eq_true, Bool.or_eq_true, bne_iff_ne, beq_iff_eq, List.isEmpty_iff] at h
  exact ⟨h.1.1.1, h.1.1.2, Prod.ext rfl h.1.2, h.2⟩

theorem witness_VineTree_mode : ∀ n ∈ [0, 5], ∀ p ∈ [((3 : Nat), (1 : Nat)), (1, 1), (2, 1), (0, 1), (1, 0)],
    (fun s => lets s mcore (pVPORT n) 0x100 = true ∧ (fun t => t.twinPoll = t ∧ t.vMode n = p.2 ∧ t.role = 2 ∧ t.vUp n = false ∧ t.twin.key = [] ∧
      (∀ k < 6, k ≠ n → t.vMode k ≠ 2)) (reach s mcore (pVPORT n) 0x100)) (vineIn 2 rootId (wd p.2) 0 {}) := by decide +kernel

theorem witness_VineTree_link : ∀ n ∈ [0, 5], ∀ m ∈ [1, 2], (fun s => s.vineRun = true ∧ s.vMode n ≠ 0 ∧ s.vUp n = false) (vineIn 1 0 (wd m) 0 {}) ∧
    (vineIn 0 0 (wd m) 0 {}).vineRun = false ∧ (vineIn 1 memberId (wd m) 15 {}).vUp n = true ∧ (vineIn 1 memberId (wd m) 15 {}).changes = [] := by decide

theorem witness_VineTree_down : (vineIn 1 memberId 1 15 {}).vUpPort = some 5 ∧ (vineIn 2 rootId 1 15 {}).vUpPort ≠ some 5 ∧ (vineIn 2 rootId 1 15 {}).vRoot = true ∧
    (7, 0) ∈ (vineIn 2 rootId 1 15 { routes := [(7, 0)], members := [(7, 77)] }).vine.routes ∧
    tfind (vineIn 2 rootId 1 15 { routes := [(7, 0)], members := [(7, 77)] }).vine.members 7 = some 77 := by decide

/-- A message towards member 12 at member 9: broken, out of its order, in its order. -/
theorem witness_VineTree_take : ∀ l ∈ [0, 255, 256],
    (fun s => s.twin.handover = false ∧ s.vUp 0 = true ∧ s.changes = [] ∧ s.vMode 0 = 1 ∧
      (decide (l % 256 = tget 0 (s.vport 0).rxSeq (VBody.cls (.msg 1 2 3 [])))) = decide (l % 256 = 0)) (vineIn 1 memberId 1 15 { routes := [(12, 0)] }) ∧
    VBody.cls (.msg 1 2 3 []) ≠ 0 := by decide

theorem witness_VineTree_forward : ∀ b ∈ [VBody.msg 1 2 3 [], .rread 1 2 4], VArrives (vineIn 1 memberId 1 15 {}) (vTook (vineIn 1 memberId 1 15 {}) 0 { dst := 77, src := 12, body := b }) 0 { dst := 77, src := 12, body := b } ∧
    (b.cls = 1 ∨ b.cls = 3) ∧ (fun t => t.vMember = true ∧ (77 : Nat) ≠ t.vId ∧ t.vNext 77 = some 5 ∧ VOpen t 5) (vTook (vineIn 1 memberId 1 15 {}) 0 { dst := 77, src := 12, body := b }) := by
  have h : ∀ b ∈ [VBody.msg 1 2 3 [], .rread 1 2 4], vArr (vineIn 1 memberId 1 15 {}) 0 { dst := 77, src := 12, body := b } = true ∧ (b.cls = 1 ∨ b.cls = 3) ∧
      (fun t => t.vMember = true ∧ (77 : Nat) ≠ t.vId ∧ t.vNext 77 = some 5 ∧ (t.vUp 5 = true ∧ (t.vport 5).state ≠ 4)) (vTook (vineIn 1 memberId 1 15 {}) 0 { dst := 77, src := 12, body := b }) := by
    decide
  exact fun b hb => ⟨varrives_of (h b hb).1, (h b hb).2.1, (h b hb).2.2⟩

theorem witness_VineTree_settles : ∀ b ∈ [VBody.msg 1 2 3 [], .rread 1 2 4, .time 0], (fun s t => (t.vTree 0 { dst := 12, src := 9, body := b }).settle.held = s.held ∧ s.vMode 0 = 1)
    (vineIn 1 memberId 1 15 { routes := [(12, 0)] }) (vTook (vineIn 1 memberId 1 15 { routes := [(12, 0)] }) 0 { dst := 12, src := 9, body := b }) := by decide

/-- Everything that travels the tree arrives at port 0 of the member and at port 5. -/
theorem witness_VineTree_arrives : ∀ n ∈ [0, 5], ∀ b ∈ [VBody.hello 7 9 1 true true, .join 7 0x8009 0 0, .join 7 0 0 7, .assign 9 0 0 0, .assign 9 6 5 1, .leave 12, .time 0, .snap 1 2, .snapreq,
      .credit 1 2 3 (some (1, 255)) none, .credit 0 0 0 none (some (3, 0)), .rresp 3 0 0, .msgack 1 0],
    vArr (vineIn 1 memberId 1 15 {}) n { body := b } = true ∧ vArr (vineIn 2 rootId 1 15 {}) n { body := b } = true ∧
    vArr (vineIn 1 0 1 15 { ports := [(0, { state := 5 })] }) n { body := b } = true := by decide

theorem witness_VineTree_hello : (fun t => t.vUpPort = some 5 ∧ t.vMember = true ∧ (t.vport 0).wait = []) (vTook (vineIn 1 memberId 1 15 {}) 5 { body := .hello 7 9 1 true true }) ∧
    (fun t => t.vMember = false ∧ t.role ≠ 2 ∧ (∀ k < 6, (t.vport k).state ≠ 5) ∧ (t.vport 5).state = 1 ∧ t.vUp 5 = true ∧
      (t.modVport 5 fun p => { p with nid := 9, nmember := true, ndepth := 1, nserial := 7, nup := true }).vBest = some 5)
      (vTook (vineIn 1 0 1 15 { ports := [(5, { state := 1 })] }) 5 { body := .hello 7 9 1 true true }) ∧
    (vineIn 1 0 1 15 {}).vineRun = true ∧ (vineIn 0 0 1 15 {}).vineRun = false := by decide

/-- Joins at a device that is no member, at depth 6, at a member, and at the root with its table full, with approval and its
line full, and with an ID to give. -/
theorem witness_VineTree_join : (vineIn 1 0 1 15 {}).vMember = false ∧ (fun t => t.vMember = true ∧ t.vDepth = 6 ∧ t.vUp 0 = true ∧ (t.vport 0).state ≠ 4) (vineIn 1 (memberId + 0x5000000) 1 15 {}) ∧
    (fun t => t.vDepth ≠ 6 ∧ t.vRoot = false ∧ t.vUpPort = some 5) (vineIn 1 memberId 1 15 {}) ∧
    (fun t => t.vMember = true ∧ t.vRoot = true ∧ t.vDepth = 0 ∧ t.rbit pVINE 0x104 0 = false ∧ 1024 ≤ t.vine.members.length + t.vine.held.length)
      (vineIn 2 rootId 1 15 { members := (List.range 1024).map fun i => (i, i) }) ∧
    (∀ k ∈ [15, 16], (fun t => t.vine.members.length + t.vine.held.length < 1024 ∧ t.rbit pVINE 0x104 0 = true ∧ t.vine.joins.length = k)
      ((vineIn 2 rootId 1 15 { joins := List.replicate k { serial := 1, pref := 0, tag := 0, hops := 0, port := 0 } }).setRg pVINE 0x104 1)) ∧
    (∀ p ∈ [(0x8009, true), (0x8007, true), (0, false)], (fun t => (if (BitVec.ofNat 16 p.1).getLsbD 15 = true ∧ t.vTaken (p.1 % 1024) = false then some (p.1 % 1024)
        else (firstBelow 1023 fun i => !t.vTaken (i + 1)).map (· + 1)).isSome = true)
      (vineIn 2 rootId 1 15 { members := [(0, 1), (1, 2)], held := [(7, 8)] })) ∧
    ((vineIn 2 rootId 1 15 { members := [(0, 1)], held := [(7, 8)] }).vine.held.find? (fun e => e.2 == 8)) = some (7, 8) := by decide +kernel

theorem witness_VineTree_assign : (nfld 5 0 3 = 5 ∧ (vTook (vineIn 1 memberId 1 15 {}) 0 { body := .assign 12 0 5 1 }).vUp 5 = true) ∧
    ((vTook (vineIn 1 0 1 15 { ports := [(0, { state := 5, ndepth := 7 })] }) 0 { body := .assign 12 0 0 0 }).vport 0).state = 5 := by decide

theorem witness_VineTree_leave : (fun t => t.vRoot = true ∧ tfind t.vine.members 12 = some 77) (vTook (vineIn 2 rootId 1 15 { members := [(12, 77)] }) 0 { body := .leave 12 }) ∧
    (fun t => t.vRoot = false ∧ t.vUpPort = some 5 ∧ t.vUp 5 = true ∧ (t.vport 5).state ≠ 4) (vTook (vineIn 1 memberId 1 15 {}) 0 { body := .leave 12 }) := by decide

theorem witness_VineTree_answer : (∀ v ∈ [(0 : Nat), 0x1000C, 0x10007, 0x10008],
    (fun s => lets s mcore pVINE 0x128 = true ∧ (fun t => t.vine.joins = [{ serial := 8, pref := 0, tag := 0, hops := 0, port := 0 }] ∧ t.vUp 0 = true ∧ (t.vport 0).state ≠ 4) (reach s mcore pVINE 0x128))
      (vineIn 2 rootId 1 15 { joins := [{ serial := 8, pref := 0, tag := 0, hops := 0, port := 0 }], members := [(8, 1)], held := [(7, 8)] }) ∧ v < 2 ^ 32) ∧
    lets appPages core0 pVINE 0x128 = true := by decide +kernel

theorem witness_VineTree_retry : ∀ st ∈ [6, 9], (fun s => (s.vport 0).state = st ∧ s.vUp 0 = true ∧ s.vMember = false) (vineIn 1 0 1 15 { ports := [(0, { state := st })] }) := by decide

/-- A register access from outside, refused, and admitted by REMOTE. -/
theorem witness_VineRequests_access : ∀ write ∈ [true, false], ∀ en ∈ [0, 2], ∀ src ∈ [0, 12],
    ∀ k, k = { dst := 9, src := src, body := if write then .rwrite 3 0x1F100 4 5 else .rread 3 0x1F100 4 } →
    (fun s => vArr s 0 k = true ∧ (fun t => t.vMember = true ∧ t.vId = 9 ∧ src ≠ t.vId ∧
        (fun u => (fun r => (src = 0 ∨ t.rbit pVINE 0x104 1 = true → r.flight = none) ∧
            (fun v => v.vNext src = some 5 ∧ v.vId = t.vId ∧ v.vUp 5 = true ∧ (v.vport 5).state ≠ 4 ∧ wentB s v = true)
              (if src ≠ 0 ∧ t.rbit pVINE 0x104 1 = false then u.cnt pVINE 0x174 else r.ans.st))
          ((u.setRg pVINE 0x170 (wd src)).access 0x90 0x3001F100 4 (if write then .write else .read) (leBytes 4 (if write then 5 else 0)) 0 .none)) (t.vReturn (some 0) k))
        (vTook s 0 k)) ((vineIn 1 memberId 1 15 {}).setRg pVINE 0x104 (wd en)) := by
  intro w hw e he src hs k hk; subst hk; revert src e w; decide +kernel

/-- A remote access of MCORE under way. -/
def remoteOut : Flight := { id := 3, agent := 0x11, gate := 22, epoch := 0, addr := 0x40C00000, size := 4, write := false, fetch := false, data := [], cache := 0, order := 0, issued := 0, second := true, timedOut := false }

theorem witness_VineRequests_rresp : ∀ st ∈ [0, 2, 3], (fun s => vArr s 5 { dst := 9, src := 12, body := .rresp 3 st 7 } = true ∧
    (fun t => t.vId = 9 ∧ (t.flights.find? fun g => g.id == 3 && !g.timedOut) = some remoteOut ∧ t.rbit pVINE 0x16C 31 = false) (vTook s 5 { dst := 9, src := 12, body := .rresp 3 st 7 }))
    { vineIn 1 memberId 1 15 { remotes := [{ flight := 3, sent := true }] } with flights := [remoteOut] } := by decide

/-- A message of 0, 1, 1024 and 1025 bytes, to itself, and one that leaves. -/
theorem witness_VineRequests_send : ∀ p ∈ [((0 : Nat), (12 : Nat)), (1, 12), (1024, 12), (1025, 12), (1, 9)],
    (fun s => lets s mcore pVINE 0x13C = true ∧ (fun t => fld (t.arg 0x11 pVINE 0x130) 0 11 = p.1 ∧ fld (t.arg 0x11 pVINE 0x12C) 0 10 = p.2 ∧ t.vine.sends = [] ∧ t.vMember = true ∧ t.vId = 9 ∧
      (fun r => r.fault = .none ∧ r.st.vine = t.vine ∧ wentB t r.st = true ∧ r.st.vNext p.2 = some 5 ∧ r.st.vUp 5 = true ∧ (r.st.vport 5).state ≠ 4 ∧ r.st.aregs = t.aregs ∧
        r.st.rg pVINE 0x100 = t.rg pVINE 0x100) (t.engRead 0x11 0x22000000 (min 1 p.1))) (reach s mcore pVINE 0x13C))
      { vineIn 1 memberId 1 15 {} with mem := [(0x22000000, 5)], aregs := [(akey 0x11 pVINE 0x12C, wd p.2), (akey 0x11 pVINE 0x130, wd p.1), (akey 0x11 pVINE 0x134, 0x22000000)] } := by
  decide +kernel

theorem witness_VineRequests_fault : ((vineIn 1 memberId 1 15 {}).engRead 0x11 0x26F00000 4).fault ≠ .none ∧ ((vineIn 1 memberId 1 15 {}).engRead 0x11 0x26F00000 4).st.vine = (vineIn 1 memberId 1 15 {}).vine ∧
    wentB (vineIn 1 memberId 1 15 {}) ((vineIn 1 memberId 1 15 {}).engRead 0x11 0x26F00000 4).st = true ∧
    (∃ m ∈ (vineIn 1 memberId 1 15 { sends := [{ agent := 0x11, dst := 12, tag := 1 }] }).vine.sends, m.agent = 0x11) := by
  exact ⟨by decide +kernel, by decide +kernel, by decide +kernel, _, List.mem_cons_self, rfl⟩

/-- A message for this device: a ring of 16 entries in shared SRAM that agent 0x38 reaches, one with no room and none. -/
theorem witness_VineRequests_msg : ∀ p ∈ [((0 : Nat), (0 : Nat), (0 : Nat), (5 : Nat)), (2, 0, 1, 5), (2, 0, 0, 0)], ∀ k, k = ({ dst := 9, src := 12, body := .msg 1 2 3 [1, 2] } : VPkt) →
    (fun s => vArr s 0 k = true ∧ (fun u => (fun r => p.2.2.2 = (if fld (u.rg pVINE 0x14C) 0 12 = 0 ∨ (fld (u.rg pVINE 0x150) 0 12 + 1) % fld (u.rg pVINE 0x14C) 0 12 = fld (u.rg pVINE 0x154) 0 12 % fld (u.rg pVINE 0x14C) 0 12 then 5
          else if r.fault = .none then 0 else 6) ∧
        r.st.vine = u.vine ∧ r.st.regs = u.regs ∧ wentB s r.st = true ∧ u.vNext 12 = some 5 ∧ u.vUp 5 = true ∧ (u.vport 5).state ≠ 4)
        (u.engWrite 0x38 ((u.rg pVINE 0x144).toNat + 1056 * fld (u.rg pVINE 0x150) 0 12) (leBytes 2 12 ++ [2, 0] ++ leBytes 2 2 ++ [0, 0] ++ leBytes 4 3 ++ List.replicate 4 0 ++ leBytes 8 u.now ++ List.replicate 8 0 ++ [1, 2])))
        ((vTook s 0 k).vReturn (some 0) k))
      ([(0x144, 0x22000000), (0x14C, wd p.1), (0x150, wd p.2.1), (0x154, wd p.2.2.1)].foldl (fun (s : State) (q : Nat × Word) => s.setRg pVINE q.1 q.2)
        ((((vineIn 1 memberId 1 15 {}).setRg (pGATE 12) 0x10 1).setRg (pGATE 12) 0x404 0x2207FF |>.setRg (pGATE 12) 0x400 0x220000).setRg (pGATE 12) 0x408 0x80000610)) := by
  intro p hp k hk; subst hk; revert p; decide +kernel

theorem witness_VineRequests_ack : (fun s => vArr s 5 { dst := 9, src := 12, body := .msgack 1 0 } = true ∧
    (fun t => t.vId = 9 ∧ (t.vine.sends.find? fun y => y.tag == 1) = some { agent := 0x11, dst := 12, tag := 1 }) (vTook s 5 { dst := 9, src := 12, body := .msgack 1 0 }))
    (vineIn 1 memberId 1 15 { sends := [{ agent := 0x11, dst := 12, tag := 1 }] }) := by decide

/-- A member with TIME as given and its clock at one second. -/
def timed (t : TimeSt) : State := { vineIn 1 memberId 1 15 {} with time := t, now := 1000000000 }

/-- Offsets at each boundary of R418. -/
theorem witness_TimeAndSnapshot_offsets : ∀ off ∈ [(-2147483648 : Int), -1001, -1000, -51, -50, -11, -10, 0, 10, 11, 50, 51, 1000, 1001, 2147483647], ∀ now, now = (3000000000 + off).toNat →
    (fun s => vArr s 5 { body := .time now } = true ∧ (fun t => t.vUpPort = some 5 ∧ off = (now : Int) + ((fld (t.rg (pVPORT 5) 0x10C) 0 24 / 1000 : Nat) : Int) - (t.now : Int)) (vTook s 5 { body := .time now }))
      { timed { good := 15, armed := 0xFFFF } with now := 3000000000 } := by intro off ho now e; subst e; revert off; decide

theorem witness_TimeAndSnapshot_sync : (vineIn 1 memberId 1 15 { ports := [(5, { state := 2 }), (0, { state := 3 })] }).vUp 5 = true ∧ (timed {}).time.run = false ∧ (timed { run := true }).time.run = true := by decide

theorem witness_TimeAndSnapshot_setcmd : (∀ id ∈ [0, 0x51010009, 0x30000], lets (vineIn 2 (wd id) 1 0 {}) mcore pTIME 0x110 = true ∧
    (fun t => t.vMember = (id != 0) ∧ t.vRoot = (id == 0x30000)) (reach (vineIn 2 (wd id) 1 0 {}) mcore pTIME 0x110)) ∧ lets appPages core0 pTIME 0x110 = true ∧
    lets (timed {}) mcore pTIME 0x100 .read = true ∧ (∀ n ∈ [0, 15], lets (timed {}) mcore pTIME (0x204 + 8 * n) = true) := by decide +kernel

theorem witness_TimeAndSnapshot_fire : ∀ n ∈ [0, 15], (timed { armed := 2 ^ n }).time.armed.testBit n = true ∧ (timed {}).cmpOf n ≤ (timed {}).now ∧ (timed {}).time.armed.testBit n = false := by decide

theorem witness_TimeAndSnapshot_snapFire : (∀ k ∈ [0, 3], lets (vineIn 2 rootId 1 15 { targets := List.replicate k 9 }) mcore pVINE 0x158 = true ∧
      (fun t => t.vRoot = true ∧ t.vine.targets.length = k) (reach (vineIn 2 rootId 1 15 { targets := List.replicate k 9 }) mcore pVINE 0x158)) ∧
    lets (vineIn 1 memberId 1 15 {}) mcore pVINE 0x158 = true ∧ (fun t => t.vRoot = false ∧ t.vUpPort = some 5 ∧ t.vUp 5 = true ∧ (t.vport 5).state ≠ 4) (reach (vineIn 1 memberId 1 15 {}) mcore pVINE 0x158) ∧
    lets (appPages.setRg pVINE 0x100 rootId) core0 pVINE 0x158 = true := by decide +kernel

theorem witness_TimeAndSnapshot_snapreq : ∀ en ∈ [0, 4], (fun s => vArr s 0 { body := .snapreq } = true ∧ (fun t => t.vRoot = true ∧ t.rbit pVINE 0x104 2 = (en == 4) ∧ t.vine.targets.length < 4) (vTook s 0 { body := .snapreq }))
    ((vineIn 2 rootId 1 15 { targets := [1, 2, 3] }).setRg pVINE 0x104 (wd en)) := by decide

/-- A SNAP late, on time with room, and on time with four targets pending. -/
theorem witness_TimeAndSnapshot_snap : ∀ p ∈ [((999999999 : Nat), (3 : Nat)), (1000000000, 3), (1000000000, 4)],
    (fun s => vArr s 5 { body := .snap 1 p.1 } = true ∧ (fun t => t.vUpPort = some 5 ∧ t.time.locked = true ∧ t.vine.targets.length = p.2 ∧ (t.now ≤ p.1 ↔ 1000000000 ≤ p.1)) (vTook s 5 { body := .snap 1 p.1 }))
      { timed { locked := true } with vine := { targets := List.replicate p.2 2000000000 } } ∧
    (∃ q ∈ [(1000000000 : Nat), 2000000000], q ≤ (timed {}).now) ∧ ∀ q ∈ [(2000000000 : Nat)], (timed {}).now < q := by decide


/-! ### Twin -/

/-- A manager with its TWIN port at 5 and its link up, TWIN.CTRL.EN set, a pair key, and the ring in shared SRAM that agent
0x38 reaches. -/
def twinIn (t : TwinSt) (repl : Bool) : State :=
  ([(pSYS, 0x108, 2), (pVINE, 0x10, 1), (pVINE, 0x100, rootId), (pVPORT 5, 0x100, 2), (pVPORT 5, 0x104, 15), (pTWIN, 0x10, 1), (pTWIN, 0x108, 0x22000000), (pTWIN, 0x114, 0x22001000),
    (pTWIN, 0x11C, 16), (pGATE 12, 0x10, 1), (pGATE 12, 0x400, 0x220000), (pGATE 12, 0x404, 0x2207FF), (pGATE 12, 0x408, 0x80000610)] :
    List (Nat × Nat × Word)).foldl (fun s p => s.setRg p.1 p.2.1 p.2.2) { jobs [] [] with twin := t, twinRepl := repl }

def aPair : TwinSt := { key := zeros 32, pserial := zeros 8 }

/-- A valid heartbeat of the partner, and its 8-byte code, which is not evaluated. -/
def beat (st fl : Byte) : List Byte :=
  ([st, fl, 0, 0, 1, 0, 0, 0] ++ zeros 16) ++ (cmacOf (zeros 32) (([st, fl, 0, 0, 1, 0, 0, 0] ++ zeros 16) ++ zeros 8)).take 8

theorem beat_code : ∀ st ∈ [1, 2, 3, 4, 5], ∀ fl ∈ [0, 1, 4], ((cmacOf (zeros 32) (([BitVec.ofNat 8 st, BitVec.ofNat 8 fl, 0, 0, 1, 0, 0, 0] ++ zeros 16) ++ zeros 8)).take 8).length = 8 := by
  decide +kernel

theorem beat_valid {s : State} {st fl : Byte} (hk : s.twin.key = zeros 32) (hp : s.twin.pserial = zeros 8) (hi : s.twin.hbIn = 0)
    (hl : ((cmacOf (zeros 32) (([st, fl, 0, 0, 1, 0, 0, 0] ++ zeros 16) ++ zeros 8)).take 8).length = 8) : s.heartbeatValid (beat st fl) = true := by
  have h24 : (beat st fl).take 24 = [st, fl, 0, 0, 1, 0, 0, 0] ++ zeros 16 := by unfold beat; exact List.take_left' (by simp [zeros])
  have hd : (beat st fl).drop 24 = (cmacOf (zeros 32) (([st, fl, 0, 0, 1, 0, 0, 0] ++ zeros 16) ++ zeros 8)).take 8 := by
    unfold beat; exact List.drop_left' (by simp [zeros])
  have hlen : (beat st fl).length = 32 := by unfold beat; rw [List.length_append, hl]; simp [zeros]
  have hc : leAt (beat st fl) 4 4 = 1 := by unfold beat; rfl
  have hz : (zeros 32 : List Byte) ≠ [] := by decide
  simp [State.heartbeatValid, hk, hp, hi, hlen, h24, hd, hc, hz]

def tArr (s : State) (n : Nat) (k : VPkt) : Bool :=
  s.vUp n && s.vMode n == 2 && (s.vTake n k true).2 && ((s.vTake n k true).1.vReturn (some n) k).changes.isEmpty

def tTook (s : State) (n : Nat) (k : VPkt) : State := (s.vTake n k true).1.vReturn (some n) k

theorem twinArrives_of {s : State} {n : Nat} {k : VPkt} (h : tArr s n k = true) : TwinArrives s (tTook s n k) n k := by
  simp only [tArr, Bool.and_eq_true, beq_iff_eq, List.isEmpty_iff] at h
  exact ⟨h.1.1, ⟨_, Prod.ext rfl h.1.2, rfl⟩, h.2⟩

/-- Heartbeats of every STATE arrive in every STATE, and one that is not 32 bytes. -/
theorem witness_Twin_heartbeat : ∀ st ∈ [1, 2, 3, 5], ∀ peer ∈ [1, 2, 3, 4, 5], ∀ fl ∈ [0, 1, 4], ∀ k, k = ({ body := .twin 2 0 (beat (BitVec.ofNat 8 peer) (BitVec.ofNat 8 fl)) } : VPkt) →
    (fun s => tArr s 5 k = true ∧ (fun t => t.twin.state = st ∧ t.twin.state ≠ 0 ∧ t.twin.state ≠ 6 ∧ t.twin.key = zeros 32 ∧ t.twin.pserial = zeros 8 ∧ t.twin.hbIn = 0 ∧
      t.twinRepl = (st != 1) ∧ t.twin.bulk = none ∧ t.heartbeatValid [] = false) (tTook s 5 k)) (twinIn { aPair with state := st } (st != 1)) ∧
    ((cmacOf (zeros 32) (([BitVec.ofNat 8 peer, BitVec.ofNat 8 fl, 0, 0, 1, 0, 0, 0] ++ zeros 16) ++ zeros 8)).take 8).length = 8 := by
  intro st h1 peer h2 fl h3 k h4; subst h4; revert fl peer st; decide +kernel

theorem witness_Twin_first : ((twinIn { aPair with state := 1 } false).setRg pTWIN 0x100 1).firstActive false = true ∧ (twinIn { aPair with state := 1 } false).firstActive true = false := by decide

theorem witness_Twin_pair : ∀ st ∈ [0, 3], letsPair (twinIn { state := st } false) mcore pTWIN 0x10 ((twinIn { state := st } false).ctrlPlus pTWIN 0x100) = true ∧ mcore.toNat = aMCORE ∧
    bitAt ((twinIn { state := st } false).ctrlPlus pTWIN 0x100) 9 = false ∧
    (fun u => u.twin.state = st ∧ u.twin.key = [] ∧
      (fun r => r.fault = .none ∧ r.st.twin = u.twin ∧ wentB u r.st = true ∧ pairBlobBad (r.data.take 24) = true) (((u.setRg pTWIN 0x10 1).ownDrop .pair).engRead 0x38 0x22000000 92))
      (pairEnd (twinIn { state := st } false) mcore pTWIN 0x10 ((twinIn { state := st } false).ctrlPlus pTWIN 0x100)) := by decide +kernel

/-- A blob whose head is in order, slot 1020 filled, and PRESS0 with its places free or taken. -/
def pairing (full : Bool) : State :=
  { twinIn {} false with
    mem := (List.range 92).zip ([0x4B, 0x42, 1, 2, 0x30, 0, 40, 0] ++ (zeros 8 ++ [0x7F, 2] ++ zeros 74)) |>.map fun p => (0x22000000 + p.1, p.2),
    key := { keyBase.key with slots := keyBase.key.slots ++ [(1020, { typ := 3, len := 32, usage := 1, owner := 1, inst := 0x7F, mat := zeros 32 })] },
    units := if full then [(0, { ctxs := (List.range 16).map fun k => (k, {}) })] else [] }

/-- What the code of such a blob opens to is `witness_EngineContexts_opens`; a blob whose read is refused. -/
theorem witness_Twin_pairGood : (∀ full, letsPair (pairing full) mcore pTWIN 0x10 ((pairing full).ctrlPlus pTWIN 0x100) = true ∧
      (fun u => u.twin.state = 0 ∧ (fun r => r.fault = .none ∧ wentB u r.st = true ∧ pairBlobBad (r.data.take 24) = false ∧
        (fun t => (full = true → (t.unit 0).freePlace = none ∧ t.ownAt .pair = none) ∧
          (full = false → ownRunsB t .pair 0 13 40 = true ∧ (t.slot 1020).isSome = true)) (r.st.keyDomain 13 (pPRESS 0)))
        (((u.setRg pTWIN 0x10 1).ownDrop .pair).engRead 0x38 0x22000000 92))
      (pairEnd (pairing full) mcore pTWIN 0x10 ((pairing full).ctrlPlus pTWIN 0x100))) ∧
    (fun s => (fun r => r.fault ≠ .none ∧ r.st.twin = s.twin ∧ wentB s r.st = true) (s.engRead 0x38 0x26F00000 92)) (twinIn {} false) := by decide +kernel

theorem witness_Twin_timeout : (fun s => s.changes = [] ∧ s.twin.state = 1 ∧ s.rbit pTWIN 0x100 0 = true ∧ s.twin.hbIn = 0) ((twinIn { aPair with state := 1 } false).setRg pTWIN 0x100 1) ∧
    ((twinIn { aPair with state := 2 } true).twin.state ≠ 1) := by decide

theorem witness_Twin_send : ∀ st ∈ [1, 2, 3, 4, 5], ∀ w ∈ [0, 3], (fun s => s.changes = [] ∧ s.twinPort = some 5 ∧ s.vUp 5 = true ∧ (s.vport 5).state ≠ 4 ∧ s.twin.state = st ∧ s.tamp.twinWait = w)
    { twinIn { aPair with state := st } false with tamp := { ({} : TampSt) with twinWait := w } } := by decide

/-- Missed windows: the first, the third as active and as standby, and one with a heartbeat. -/
theorem witness_Twin_miss : ∀ p ∈ [((2 : Nat), (0 : Nat), false), (2, 2, false), (4, 2, false), (5, 2, false), (5, 2, true)],
    (fun s => s.changes = [] ∧ s.twin.state = p.1 ∧ s.twin.miss = p.2.1 ∧ s.twin.heard = p.2.2) (twinIn { aPair with state := p.1, miss := p.2.1, heard := p.2.2, waits := [(0x11, 4)] } true) := by decide

theorem witness_Twin_takeover : ∀ r ∈ [0, 1, 2, 3], ∀ well ∈ [true, false], (fun s => s.changes = [] ∧ s.twin.due = some r ∧ s.twin.first = some r ∧ s.twin.taking = some r ∧ r < 4 ∧ s.twin.state = 5 ∧ s.twin.well = well)
    (twinIn { aPair with state := 5, due := some r, first := some r, taking := some r, well := well } false) := by decide

theorem witness_Twin_fence : ∀ st ∈ [2, 3, 5], ∀ f ∈ [0, 2], (fun s => s.changes = [] ∧ s.rbit pTWIN 0x100 1 = (f == 2) ∧ s.twin.state = st ∧ s.twinFence.held = s.held) ((twinIn { aPair with state := st } true).setRg pTWIN 0x100 (wd f)) := by decide

theorem witness_Twin_handover : (fun s => letsPair s mcore pTWIN 0x10 (s.ctrlPlus pTWIN 0x200) = true ∧ bitAt (s.ctrlPlus pTWIN 0x200) 8 = false ∧
      (fun u => u.twin.state = 2 ∧ (u.setRg pTWIN 0x10 (s.ctrlPlus pTWIN 0x200 &&& 1)).twinPoll = u.setRg pTWIN 0x10 (s.ctrlPlus pTWIN 0x200 &&& 1)) (pairEnd s mcore pTWIN 0x10 (s.ctrlPlus pTWIN 0x200)))
      (twinIn { aPair with state := 2 } true) ∧
    (fun s => s.twin.handover = true ∧ s.changes = [] ∧ s.twin.ack = s.twinSeq ∧ s.twinPort = some 5) (twinIn { aPair with state := 2, handover := true } true) := by decide +kernel

/-- A record: its header for counter 3, a body of eight bytes whose code holds or does not. -/
def recHead (seq : Nat) : List Byte := [0x54, 0x52, 4, 0] ++ leBytes 2 8 ++ leBytes 2 3 ++ leBytes 8 seq ++ zeros 16

def recGood (seq : Nat) : List Byte :=
  recHead seq ++ (zeros 8 ++ gcmTag (zeros 32) (leBytes 8 seq ++ List.replicate 4 0) (recHead seq) (zeros 8))

theorem witness_Twin_record : ∀ st ∈ [4, 5], ∀ seq ∈ [1, 2], (fun s => tArr s 5 { body := .twin 3 seq (recHead seq) } = true ∧ leAt (recHead seq) 8 4 = seq ∧
    (fun t h => t.twin.state = st ∧ h.take 2 = [0x54, 0x52] ∧ (leAt h 8 8 = t.twin.ack + 1 ↔ seq = 1) ∧ leAt h 4 2 = 8 ∧ byteAt h 2 = 4 ∧ byteAt h 3 = 0 ∧ (byteAt h 3).getLsbD 3 = false ∧
      t.twin.frag = none ∧ t.twinPort = some 5 ∧ t.vUp 5 = true ∧ (t.vport 5).state ≠ 4 ∧ tget 0 t.twin.applied (4 * 65536 + leAt h 6 2) < 5)
      (tTook s 5 { body := .twin 3 seq (recHead seq) }) ((recHead seq).take 32)) (twinIn { aPair with state := st } false) := by decide +kernel

theorem witness_Twin_recordOpens (seq : Nat) : (gcmOpen (zeros 32) (leBytes 8 seq ++ List.replicate 4 0) (recHead seq) (zeros 8)
    (gcmTag (zeros 32) (leBytes 8 seq ++ List.replicate 4 0) (recHead seq) (zeros 8))).isSome = true := witness_EngineContexts_opens _ _ _ _

theorem witness_Twin_rack : ∀ seq ∈ [3, 4, 9], (fun s => tArr s 5 { body := .twin 4 seq (leBytes 8 seq) } = true ∧ seq % 2 ^ 32 = seq ∧
    (fun t => t.twinRepl = true ∧ t.seqWritten = 4 ∧ t.twin.ack = 3 ∧ t.twin.waits = [(0x11, 4)]) (tTook s 5 { body := .twin 4 seq (leBytes 8 seq) }))
    { twinIn { aPair with state := 2, ack := 3, waits := [(0x11, 4)] } true with twinSeq := 4 } := by decide +kernel

theorem witness_Twin_lag : (fun s => s.changes ≠ [] ∧ s.ringFull = true) { twinIn { aPair with state := 2, ack := 0 } true with twinSeq := 17, changes := [{ seq := 17, kind := 4, target := 0, body := [], flags := 0 }] } := by decide

/-- A resync that begins, one that sends a counter, and one at its end. -/
theorem witness_Twin_resync : ∀ b ∈ [none, some (0, [(4, 3)]), some (0, [])], (fun s => s.changes = [] ∧ s.twin.peer = 4 ∧ s.twin.state = 3 ∧ s.twin.bulk = b ∧ s.twinRepl = b.isSome ∧ s.ringFull = false ∧
      s.twinPort = some 5 ∧ s.vUp 5 = true ∧ (s.vport 5).state ≠ 4) (twinIn { aPair with state := 3, peer := 4, bulk := b } b.isSome) := by decide

theorem witness_Twin_resyncHeld : ∀ b ∈ [(0, [(4, 3)]), (0, ([] : List (Nat × Nat)))], ∀ c ∈ [TwinChange.mk 1 5 0 (leBytes 8 0) 1, TwinChange.mk 1 4 3 (leBytes 8 0) 1],
    (fun s => (({ s with twinSeq := s.twinSeq + 1, twin := { s.twin with bulk := none } } : State).writeRecord c).held = s.held)
      (twinIn { aPair with state := 3, peer := 4, bulk := some b } true) := by decide +kernel

theorem witness_Twin_health : ∀ st ∈ [2, 3, 4, 5], ∀ well ∈ [true, false], (fun s => s.changes = [] ∧ s.twinPort = some 5 ∧ s.vUp 5 = true ∧ (s.vport 5).state ≠ 4 ∧ s.twin.state = st ∧
      tArr s 5 { body := .twin 5 0 (zeros 32) } = true ∧ (tTook s 5 { body := .twin 5 0 (zeros 32) }).twin.peerWell = well ∧ (tTook s 5 { body := .twin 5 0 (zeros 32) }).twin.state = st)
    (twinIn { aPair with state := st, peerWell := well } false) := by decide +kernel

/-- An increment by 1 at the counter's top, below it, and by an agent that may not. -/
theorem witness_Twin_count : ∀ p ∈ [((2 ^ 64 - 1 : Nat), (2 ^ 64 : Nat)), (2 ^ 64 - 2, 2 ^ 64 - 1)], ∀ r ∈ [true, false], (fun s => lets s mcore pTWIN 0x15C = true ∧
    (fun t => fld (t.arg 0x11 pTWIN 0x150) 0 4 = 15 ∧ tget 0 t.twin.counters 15 + (t.arg 0x11 pTWIN 0x154).toNat + (t.arg 0x11 pTWIN 0x158).toNat * 2 ^ 32 = p.2 ∧ t.twinRepl = r ∧ t.twin.state = 2)
      (reach s mcore pTWIN 0x15C))
    { twinIn { aPair with state := 2, counters := [(15, p.1)] } r with aregs := [(akey 0x11 pTWIN 0x150, 15), (akey 0x11 pTWIN 0x154, 1)] } ∧ lets appPages core0 pTWIN 0x15C = true := by decide +kernel


/-! ### Alarms, backup domain, life cycle, debug port, resets, power and clocks -/

/-- A number below 2^29 is the map of the sources that a raise takes up. -/
theorem raises_of {s : State} {src : Word} {lits : BitVec 64} {m : Nat} (hm : m < 2 ^ 29)
    (h : ∀ i < 29, m.testBit i = (decide (i < 29) && !bitAt (s.rg pTAMP 0x184) i && (if i = 8 then lits &&& ~~~(if s.lc.state = 0 then s.rg pTAMP 0x1A8 ++ s.rg pTAMP 0x1A4 else 0) != 0 else bitAt src i))) :
    ∀ i, m.testBit i = (decide (i < 29) && !bitAt (s.rg pTAMP 0x184) i && (if i = 8 then lits &&& ~~~(if s.lc.state = 0 then s.rg pTAMP 0x1A8 ++ s.rg pTAMP 0x1A4 else 0) != 0 else bitAt src i)) := by
  intro i
  by_cases hi : i < 29
  · exact h i hi
  · rw [Nat.testBit_lt_two_pow (Nat.lt_of_lt_of_le hm (Nat.pow_le_pow_right (by decide) (Nat.le_of_not_lt hi)))]
    simp [hi]

/-- Sources 0, 15 and 28; a lit sensor; one that is masked in MAKER, where its mask holds. -/
theorem witness_TamperAndBackup_raise : ∀ p ∈ [((0x10008001 : Nat), (0 : Nat), (0 : Nat), (0x10008001 : Nat)), (0, 4, 0, 0x100), (0, 4, 4, 0)],
    (fun s => s.tamp.vin = true ∧ s.changes = [] ∧ p.2.2.2 < 2 ^ 29 ∧
      ∀ i < 29, p.2.2.2.testBit i = (decide (i < 29) && !bitAt (s.rg pTAMP 0x184) i && (if i = 8 then BitVec.ofNat 64 p.2.1 &&& ~~~(if s.lc.state = 0 then s.rg pTAMP 0x1A8 ++ s.rg pTAMP 0x1A4 else 0) != 0 else bitAt (wd p.1) i)))
      (lit.setRg pTAMP 0x1A4 (wd p.2.2.1)) := by decide +kernel

/-- VIN is gone: the loops are cut on VBAT. -/
def onVbat : State := { (lit.setRg pBKP 0x12C 0xF0000000).setRg pBKP 0x130 0x55 with tamp := { ({} : TampSt) with vin := false } }

theorem witness_TamperAndBackup_vbat : onVbat.tamp.vin = false ∧ onVbat.changes = [] ∧ (∀ i ∈ [0, 1, 9], bitAt (onVbat.rg pTAMP 0x184) i = false) ∧
    (∀ n ∈ [0, 3], bitAt (onVbat.rg pBKP 0x12C) (28 + n) = true ∧ fld (onVbat.rg pBKP 0x130) (2 * n) 2 ≠ 0) ∧ bitAt (lit.rg pBKP 0x12C) 28 = false := by decide

/-- Loops in every mode, open, shorted and broken. -/
theorem witness_TamperAndBackup_loops : ∀ n ∈ [0, 3], ∀ mode ∈ [0, 1, 2, 3], (fun s => s.changes = [] ∧ fld (s.rg pTAMP 0x198) (2 * n) 2 = mode ∧ s.tamp.vin = true ∧ bitAt (s.rg pTAMP 0x184) (10 + n) = false)
    (lit.setRg pTAMP 0x198 (wd (mode * 4 ^ n))) ∧ bitAt ((lit.setRg pTAMP 0x184 (wd (2 ^ (10 + n)))).rg pTAMP 0x184) (10 + n) = true := by decide

theorem witness_TamperAndBackup_mesh : ∀ n ∈ [0, 7], bitAt ((lit.setRg pTAMP 0x194 0x81).rg pTAMP 0x194) n = true ∧ bitAt ((lit.setRg pTAMP 0x194 0).rg pTAMP 0x194) n = false ∧ bitAt (lit.rg pTAMP 0x184) 9 = false ∧
    bitAt (lit.rg pTAMP 0x184) 1 = false := by decide

/-- MCORE and KCORE run. -/
def chip : State := jobs [] []

theorem witness_TamperAndBackup_dual : ({ lit with tamp := { ({} : TampSt) with first := some (2, 3) } } : State).tamp.first = some (2, 3) ∧ (3 : Nat) < (5 : Fin 6).val ∧ lit.tamp.first = none ∧
    bitAt (lit.rg pTAMP 0x1AC) 31 = false ∧ lit.tamp.vin = true := by decide

/-- Nothing waits in the DMA queue when the pair is complete, and HALT is in force. -/
theorem witness_TamperAndBackup_resume : ∀ a ∈ [0x11, 0x10], (fun s => s.tamp.halted = true ∧ s.changes = [] ∧ (pairEnd s (BitVec.ofNat 8 a) pTAMP 0x10 (s.ctrlPlus pTAMP 0x100)).host.queue = [])
    ({ chip with tamp := { ({} : TampSt) with halted := true, resp := 2 } } : State) ∧ letsPair { chip with tamp := { ({} : TampSt) with halted := true, resp := 2 } } (BitVec.ofNat 8 a) pTAMP 0x10
    (State.ctrlPlus { chip with tamp := { ({} : TampSt) with halted := true, resp := 2 } } pTAMP 0x100) = true := by decide +kernel

theorem witness_TamperAndBackup_write : ∀ lock ∈ [0, 1, 3], ∀ off ∈ [0x100, 0x154, 0x170, 0x198], lets (chip.setRg pTAMP 0x30 (wd lock)) mcore pTAMP off = true ∧
    fld ((reach (chip.setRg pTAMP 0x30 (wd lock)) mcore pTAMP off).rg pTAMP 0x30) 0 2 = lock ∧ lets chip kcore pTAMP off = true := by decide +kernel

theorem witness_TamperAndBackup_zeroizing : ∀ b, ({ chip with tamp := { ({} : TampSt) with zeroizing := b } } : State).tamp.zeroizing = b := by decide

theorem witness_TamperAndBackup_fuse : ∀ st ∈ [0, 1, 2], lets { chip with lc := { ({} : LcSt) with state := st } } mcore pTAMP 0x1B4 = true ∧
    (reach { chip with lc := { ({} : LcSt) with state := st } } mcore pTAMP 0x1B4).lc.state = st ∧ lets chip kcore pTAMP 0x1B4 = true ∧ lets chip mcore pBKP 0x100 = true ∧ lets chip kcore pBKP 0x100 = true := by decide +kernel

theorem witness_TamperAndBackup_power : ∀ n ∈ [254, 255], (fun s => s.changes = [] ∧ s.tamp.vin = true ∧ s.tamp.epochFuses = n ∧ s.twin.state ≠ 2 ∧ s.tamp.twinWait = 0)
    { chip with tamp := { ({} : TampSt) with epochFuses := n } } := by decide

/-- Life cycle: every target with the root secret blown or not, in every state. -/
theorem witness_LifeCycleAndDebug_transition : ∀ p ∈ [((0 : Nat), (1 : Nat), true, (2 : Nat)), (0, 1, false, 0), (0, 0, false, 1), (0, 2, false, 1), (0, 5, false, 1), (0, 4, false, 0), (2, 3, false, 3), (1, 2, false, 0), (3, 4, false, 0)],
    (fun s => letsPair s mcore pLC 0x104 (wd p.2.1) = true ∧ (fun u => fld (wd p.2.1) 0 3 = p.2.1 ∧ p.2.1 - 1 < s.lc.groups.length ∧ (p.2.1 - 1 = 3 → s.lc.groups.getD 3 0 = 0) ∧
      p.2.2.2 = (if p.2.1 = 0 ∨ 4 < p.2.1 ∨ p.2.1 = u.lc.state then 1
      else if u.lc.partialGrp = true ∧ p.2.1 ≠ u.lc.state + 1 ∧ p.2.1 ≠ 4 then 1
      else if p.2.1 = 4 then 0 else if p.2.1 ≠ u.lc.state + 1 then 1
      else if p.2.1 = 1 then (if u.key.root = none then 2 else 0)
      else if p.2.1 = 3 then (if u.lc.grant.testBit 5 then 0 else 3) else 0)) (pairEnd s mcore pLC 0x104 (wd p.2.1)))
      { chip with
        lc := { ({} : LcSt) with state := p.1, grant := 0 },
        key := { ({} : KeySt) with root := if p.2.2.1 then none else some (zeros 32, zeros 32) } } ∨ p.2.1 = 5 := by decide +kernel


theorem witness_LifeCycleAndDebug_stuck : (fun s => letsPair s mcore pLC 0x104 2 = true ∧ s.lc.groups.getD (2 - 1) 0 = 0 ∧ 2 - 1 < s.lc.groups.length ∧ (pairEnd s mcore pLC 0x104 2).lc.state = 1)
      { chip with lc := { ({} : LcSt) with state := 1, groups := [0xA5C3, 0, 0, 0] } } ∧ lets chip kcore pLC 0x104 = true := by decide +kernel

theorem witness_LifeCycleAndDebug_revoke : (∀ r ∈ [0, 14, 7], (fun s => lets s mcore pLC 0x11C = true ∧ (reach s mcore pLC 0x11C).lc.pkRevoke = r ∧ (r ||| fld (wd 1) 0 4 = 15 ↔ r = 14)) { chip with lc := { ({} : LcSt) with pkRevoke := r } }) ∧
    lets chip kcore pLC 0x11C = true := by decide +kernel

/-- The debug tool at the chip, MCORE and KCORE; a device in SCRAP, one with 16 failed responses, and one with 15. -/
theorem witness_LifeCycleAndDebug_challenge : ∀ p ∈ [((4 : Nat), (0 : Nat)), (2, 16), (2, 15)], (fun s => lets s mcore pDBG 0x104 = true ∧ lets s kcore pDBG 0x104 = true ∧ lets s dbgAgent pDBG 0x104 = true ∧
    (fun t => t.lc.state = p.1 ∧ t.lc.failed = p.2) (reach s dbgAgent pDBG 0x104)) { chip with lc := { ({} : LcSt) with state := p.1, failed := p.2 } } := by decide +kernel

/-- A response of 128 bytes over a held challenge. -/
theorem witness_LifeCycleAndDebug_response : ∀ l ∈ [({} : LcSt), { challenge := some (zeros 64, 3) }, { verify := some (0, 3) }, { verify := some (5, 0), failed := 15 }],
    lets { chip with lc := l } dbgAgent pDBG 0x200 = true ∧ (reach { chip with lc := l } dbgAgent pDBG 0x200).lc = l ∧ lets { chip with lc := l } mcore pDBG 0x20C = true ∧
    lets { chip with lc := l } kcore pDBG 0x20C = true := by decide +kernel

theorem witness_LifeCycleAndDebug_verified : ({ chip with lc := { ({} : LcSt) with verify := some (0, 64) }, tamp := { ({} : TampSt) with lockdown := true } } : State).lc.verify = some (0, 64) ∧ Nat.testBit 64 6 = true := by decide

/-- Granted core 0 but not KCORE; then both. -/
theorem witness_LifeCycleAndDebug_halt : ∀ g ∈ [1, 9], (fun s => lets s dbgAgent pDBG 0x300 = true ∧ lets s dbgAgent pDBG 0x308 = true ∧ lets s dbgAgent pDBG 0x30C = true ∧
    (reach s dbgAgent pDBG 0x300).lc.grant = g) { chip with lc := { ({} : LcSt) with grant := g } } ∧
    (fun s => bitAt (s.rg pDBG 0x300) 8 = true ∧ (s.core 8).dbgHalt = false ∧ awake s 8 = true ∧ (s.core 8).closed = false) (chip.setRg pDBG 0x300 0x100) := by decide +kernel

theorem witness_LifeCycleAndDebug_cdata : ∀ r ∈ [0, 1, 31, 32, 39, 40, 47], ∀ h ∈ [true, false], (fun s => lets s dbgAgent pDBG 0x314 = true ∧ lets s dbgAgent pDBG 0x314 .read = true ∧
    (fun t => fld (t.rg pDBG 0x310) 0 4 = 8 ∧ fld (t.rg pDBG 0x310) 8 6 = r ∧ (t.core 8).dbgHalt = h) (reach s dbgAgent pDBG 0x314) ∧
    (fun t => fld (t.rg pDBG 0x310) 0 4 = 8 ∧ fld (t.rg pDBG 0x310) 8 6 = r ∧ (t.core 8).dbgHalt = h) (reach s dbgAgent pDBG 0x314 .read))
    ((chip.setRg pDBG 0x310 (wd (8 + 256 * r))).modCore 8 fun c => { c with dbgHalt := h }) := by decide +kernel

/-- A trace record of core 0 goes to shared SRAM, or where nothing is. -/
theorem witness_LifeCycleAndDebug_trace : ∀ base ∈ [0x22000, 0x26F00], ∀ en ∈ [0, 1], (fun s => s.traceQ = [(0, 1, 0x20000010, 5)] ∧ s.traceLost = false ∧ bitAt (s.rg pTRACE 0x100) 0 = (en == 1) ∧
      (fun y => ((y.fault == .none) = (base == 0x22000)) ∧ y.st.held = s.held) (({ s with traceQ := [] } : State).engWrite1 aDEBUG (base * 0x1000) (zeros 8)))
    { ((((chip.setRg pTRACE 0x100 (wd (en + 12 * 65536))).setRg pTRACE 0x104 (wd (base * 0x1000))).setRg (pGATE 12) 0x10 1).setRg (pGATE 12) 0x400 0x220000).setRg (pGATE 12) 0x404 0x2207FF |>.setRg (pGATE 12) 0x408 0x80000700 with
      traceQ := [(0, 1, 0x20000010, 5)] } := by decide +kernel

/-- Resets asked for, alone and together; every group row of R455. -/
theorem witness_ResetsAndStart_asked : ∀ asked ∈ [0, 1, 2, 4, 8, 16, 0x1F0, 0x3FF, 0x200, 0x10000], (fun s => s.changes = [] ∧ s.tamp.vin = true ∧ s.rst.asked = asked ∧ s.rg pTAMP 0x184 = 0 ∧ s.tamp.lockdown = false ∧
      s.tamp.resetsEnd = false ∧ s.tamp.resetsLow + 1 < 2 ^ 24 ∧ s.rst.nrstLow = false ∧ s.tamp.zeroizing = false ∧ s.pwr.switching = none)
    { chip with rst := { ({} : RstSt) with asked := asked } } := by decide

theorem witness_ResetsAndStart_kinds : (1 % 16 ≠ 0) ∧ (16 % 16 = 0 ∧ 16 / 16 % 32 ≠ 0) ∧ (0x200 % 512 = 0 ∧ Nat.testBit 0x200 9 = true) ∧ Nat.testBit 0x10000 16 = true ∧
    (∀ k < 5, ((List.range 4).map fun i => if i < k then [0xA5C3, 0x5A3C, 0x96E1, 0x69D2].getD i 0 else 0).length = 4) ∧
    (([0xA5C3, 0xFFFF, 0, 0] : List Nat).getD 3 0 = 0 ∧ ([0xA5C3, 0xFFFF, 0, 0] : List Nat).getD 1 0 &&& [0xA5C3, 0x5A3C, 0x96E1].getD 1 0 ≠ ([0xA5C3, 0xFFFF, 0, 0] : List Nat).getD 1 0) ∧
    ((0x5A00 : Nat) ≠ 0 ∧ (0x5A00 : Nat) ≠ 0x5A3C ∧ (0x5A00 : Nat) &&& 0x5A3C = 0x5A00) := by decide

theorem witness_ResetsAndStart_pins : ({ chip with rst := { ({} : RstSt) with nrstLow := true } } : State).rst.nrstLow = true ∧ ((chip.modCore 9 fun c => { c with run := .reset }).core 9).run = .reset ∧ (chip.core 9).run ≠ .reset := by decide

theorem witness_ResetsAndStart_writes : letsPair chip mcore pRST 0x104 1 = true ∧ letsPair chip mcore pRST 0x10C 1 = true ∧ lets chip kcore pRST 0x104 = true ∧ lets chip kcore pRST 0x10C = true ∧
    (fun s => letsPair s dbgAgent pRST 0x104 1 = true ∧ (fun u => u.lc.grant.testBit 1 = true ∧ u.lc.grant.testBit 3 = true) (pairEnd s dbgAgent pRST 0x104 1)) chip ∧
    (fun s => lets s dbgAgent pRST 0x104 = true ∧ lets s dbgAgent pRST 0x10C = true ∧ (reach s dbgAgent pRST 0x104).lc.grant.testBit 1 = true ∧ (reach s dbgAgent pRST 0x104).lc.grant.testBit 3 = false)
      { chip with lc := { ({} : LcSt) with grant := 7 } } := by decide +kernel

theorem witness_ResetsAndStart_wdog : ∀ en ∈ [0, 1], (fun s => letsPair s mcore pWDOG 0x10 (s.ctrlPlus pWDOG 1) = true ∧ (pairEnd s mcore pWDOG 0x10 (s.ctrlPlus pWDOG 1)).en pWDOG = (en == 1) ∧ lets s mcore pWDOG 0x104 = true ∧
      s.en pWDOG = (en == 1) ∧ fld (s.rg pWDOG 0x10C) 0 16 = 5 ∧ s.rst.wdogCount = 6) { (chip.setRg pWDOG 0x10 (wd en)).setRg pWDOG 0x10C 5 with rst := { ({} : RstSt) with wdogCount := 6 } } := by decide +kernel

/-- MCORE's ROM at a step, and what each failing step finds. -/
def bootAt (step : Nat) (tamper : Bool) : State := (chip.setRg pRST 0x114 (wd (256 * step))).setRg pRST 0x100 (if tamper then 0x200 else 1)

theorem witness_ResetsAndStart_boot : (∀ step ∈ [0, 1, 2, 3, 4, 12], ∀ tm ∈ [true, false], (fun s => s.changes = [] ∧ s.booting = true ∧ s.bootStep = step ∧ s.tamperStart = tm) (bootAt step tm)) ∧
    ({ bootAt 1 false with lc := { ({} : LcSt) with state := 4 } } : State).lc.state = 4 ∧ (bootAt 2 false).onBits.testBit 23 = true ∧ (fun s => s.rng.ready = false ∧ s.rng.fault = true) { bootAt 2 false with rng := { ({} : RngSt) with fault := true } } ∧
    ({ bootAt 3 false with key := {} } : State).key.classReady = false ∧ bitAt (((bootAt 4 false).setRg pSRAM 0x1C 0x20000).rg pSRAM 0x1C) 17 = true ∧ (bootAt 4 true).sramKeyed = false ∧
    ((bootAt 4 false).setRg pRST 0x114 0x40000000).booting = false := by decide +kernel

theorem witness_PowerAndClocks_domains : ∀ p ∈ [((56 : Nat), true, (4 : Nat)), (36, true, 0), (0, false, 1), (23, false, 1), (53, true, 0), (36, false, 9)], (fun s => lets s mcore pPWR 0x108 = true ∧ lets s kcore pPWR 0x108 = true ∧
    (fun t => t.pwr.switching = none ∧ p.2.2 = (if 55 < p.1 then some 4
        else if t.onBits.testBit p.1 = p.2.1 then some 0
        else if p.1 ∈ [0, 1, 2, 11, 12, 30, 48, 52] ∨ (p.1 = 23 ∧ p.2.1 = false) then some 1
        else if (if p.2.1 then (pdNeeds p.1).any (fun e => !t.pdOn e) else (List.range 56).any (fun e => pdNeeds e == some p.1 && t.onBits.testBit e)) then some 3
        else if p.2.1 = false ∧ t.pdMayStop p.1 = false then some 2 else none).getD 9) (reach s mcore pPWR 0x108)) chip := by decide +kernel

/-- A domain that another needs, one that needs another, and one that is busy. -/
theorem witness_PowerAndClocks_order : (fun t => (pdNeeds 3).any (fun e => !t.pdOn e) = true ∧ t.onBits.testBit 3 = false) { chip with pwr := { ({} : PwrSt) with on := 0 } } ∧
    (fun t => (List.range 56).any (fun e => pdNeeds e == some 24 && t.onBits.testBit e) = true ∧ t.onBits.testBit 24 = true) chip ∧
    (chip.modCore 0 fun c => { c with run := .run }).pdMayStop 3 = false := by decide +kernel

theorem witness_PowerAndClocks_switch : ∀ d ∈ [3, 22, 55], ∀ on ∈ [true, false], (fun s => s.pwr.switching = some (d, on) ∧ (∀ f ∈ s.flights, addrDomain f.addr ≠ some d) ∧ s.pwrDone.held = s.held) { chip with pwr := { ({} : PwrSt) with switching := some (d, on) } } := by decide

theorem witness_PowerAndClocks_flight : (addrDomain remoteOut.addr).isSome = true ∨ (addrDomain 0x20000000).isSome = true := by decide +kernel

/-- RAILCTL.BST switched on, off with a field on, and off with none; and the DRAM rails. -/
theorem witness_PowerAndClocks_rails : ∀ p ∈ [((0 : Nat), true), (1, false)], ∀ lv ∈ [0, 2], (fun s => letsPair s mcore pPWR 0x120 (putBitW (s.rg pPWR 0x120) 0 p.2) = true ∧
    (fun u => bitAt (u.rg pPWR 0x120) 0 = !p.2 ∧ u.rdrs = [(0, { level := lv })] ∧ u.cards = []) (pairEnd s mcore pPWR 0x120 (putBitW (s.rg pPWR 0x120) 0 p.2)))
    { chip.setRg pPWR 0x120 (wd p.1) with rdrs := [(0, { level := lv })] } := by decide +kernel

theorem witness_PowerAndClocks_dram : (fun s => letsPair s mcore pPWR 0x120 (putBitW (s.rg pPWR 0x120) 1 true) = true ∧ (fun u => bitAt (u.rg pPWR 0x120) 1 = false ∧ u.pwr.dramUp = false ∧ u.pwr.dramBusy = false ∧ u.pdOn 32 = true ∧ u.pdOn 33 = true)
      (pairEnd s mcore pPWR 0x120 (putBitW (s.rg pPWR 0x120) 1 true))) chip ∧
    (∀ m ∈ [0, 1, 3], (fun s => letsPair s mcore pPWR 0x120 (putBitW (s.rg pPWR 0x120) 1 false) = true ∧ (fun u => bitAt (u.rg pPWR 0x120) 1 = true ∧ u.pwr.dramUp = true ∧ u.ddr.mode = m)
      (pairEnd s mcore pPWR 0x120 (putBitW (s.rg pPWR 0x120) 1 false))) { chip.setRg pPWR 0x120 2 with pwr := { chip.pwr with dramUp := true }, ddr := { ({} : DdrSt) with mode := m } }) ∧
    lets chip kcore pPWR 0x120 = true ∧ ({ chip with pwr := { chip.pwr with dramBusy := true } } : State).pwr.dramBusy = true := by decide +kernel

theorem witness_PowerAndClocks_clocks : lets chip mcore pCLK 0x100 = true ∧ bitAt ((reach chip mcore pCLK 0x100).rg pCLK 0x30) 0 = false ∧ lets chip kcore pCLK 0x100 = true ∧
    (∀ k ∈ [0, 1, 4], (fun s => s.changes = [] ∧ s.pwr.pllLocked.testBit k = true ∧ s.pwr.pllLost.testBit k = true ∧ bitAt (s.rg pTAMP 0x184) 6 = false ∧ s.sdc.wait = none ∧ ((s.pllLoss k).settle).held = s.held)
      { chip with pwr := { chip.pwr with pllLocked := 31, pllLost := 31 } }) ∧ onVbat.tamp.vin = false ∧ bitAt (chip.rg pTAMP 0x184) 4 = false ∧ chip.tamp.twinWait = 0 := by decide +kernel


/-! ### Worked examples of the spec -/

/-- What MCORE reads at an offset of a page. -/
def sees (s : State) (pg off : Nat) : Word := wd (leNat (s.access 0x11 (pageBase pg + off) 4 .read [] (issuedOrder 0x11) .none).ans.data)

/-- Writes of registers ahead of an example. -/
def regsSet (s : State) (l : List (Nat × Nat × Word)) : State := l.foldl (fun s p => s.setRg p.1 p.2.1 p.2.2) s

/-- s0–s7 of CORE1, from descriptors 0, 1, 2, 12, 4, 5, 6 and 7. -/
def towerSegs : Tbl Seg :=
  [(0, { codeSeg with sel := 0, base := 0x20040000 }), (1, { dataSeg with sel := 1 }), (2, { dataSeg with sel := 2, base := 0x20040000, limit := 0xFFFF }),
        (3, { dataSeg with sel := 12, base := 0x22004000, limit := 0x1FD }), (4, { dataSeg with sel := 4 }), (5, { dataSeg with sel := 5 }), (6, { dataSeg with sel := 6 }), (7, { dataSeg with sel := 7 })]

/-- 04_exceptions.md: the door controller's CORE1 at its loop end. -/
def towerSouth : State :=
  { regsSet sramOn [(pSYS, 0x100, 0x80000000), (pCORE 1, 0x100, 0x20042000), (pCORE 1, 0x108, 8), (pCORE 1, 0x124, 0x20040100)] with
    mem := memPuts {} (memPuts {} [] 0x20040130 [0, 0x0C, 0, 0, 0, 0, 0, 0x80]) 0x20042000 [0, 0, 4, 0x20, 0, 5, 0, 0x80, 0xFF, 0xFF, 0, 0, 2, 0, 0, 0],
    cores := [(1, { run := .run, agent := some 1, pc := 0x490, la1 := true, lstart1 := 0x484, lend1 := 0x490, lcount1 := 12, g := [(6, 0x1FC), (30, 0x2000)], segs := towerSegs })] }

def frameWord (s : State) (off : Nat) : Nat := leNat ((List.range 4).map fun i => memByte s.ddr s.mem (0x20041FA0 + off + i))


/-- The state an outcome answers, for an example that goes on. -/
def nx (o : Host.Outcome State Fault Refusal) : State := match o with | .next x => x | _ => State.reset

/-- 04_exceptions.md: the LDW at the loop's end pushes the frame of the table, and the handler starts. -/
theorem test_loop_end_frame :
    (let x := nx (exec (.ldw 1 5 6 3 0 .none) towerSouth)
     ((List.range 17).map (fun i => frameWord x (4 * i)) =
        [0x490, 0x490, 0x10, 0x1822, 0x1FC, 0x43, 0, 0, 0, 0x484, 0x490, 0xC, 0x10000, 0xC0002, 0x50004, 0x70006, 0]) ∧
      (x.core 1).gr 30 = 0x1FA0 ∧ (x.core 1).pc = 0xC00 ∧ (x.core 1).xdepth = 1 ∧ (x.core 1).lcount1 = 12) := by
  decide +kernel

/-- 25_power_clocks_package.md: gate unit G-14 with the domains of the example on. -/
def g14 : State := { jobs [] [] with pwr := { ({} : PwrSt) with on := 0x00EB304FF3A2787F }, rdrs := [(2, { level := 1 }), (3, { level := 1 })] }

/-- 25_power_clocks_package.md: PD14 is switched off, and PD45, needed, is refused. -/
theorem test_power_switch :
    (let x := nx (exec (.pwrDomainOff mcore 14) g14)
     let y := nx (exec .pwrSwitchDone x)
     let z := nx (exec (.pwrDomainOff mcore 45) y)
     sees g14 pPWR 0x100 = 0xF3A2787F ∧ sees g14 pPWR 0x104 = 0x00EB304F ∧ sees x pPWR 0x10C = 0x40000E00 ∧
      sees y pPWR 0x10C = 0x80000E00 ∧ sees y pPWR 0x100 = 0xF3A2387F ∧ sees z pPWR 0x10C = 0x80002D02 ∧
      sees z pPWR 0x11C = 1) := by
  decide +kernel

/-- 18_host_instances.md: instances 8–13 of the quay are active. -/
def quay : State :=
  { (jobs [] []).setRg pSYS 0x108 2 with host := { insts := (List.range 6).map fun i => (8 + i, { st := 2 }), link := some (3, 4) } }

/-- 18_host_instances.md: instance 12 is removed. -/
theorem test_instance_removed :
    (let x := nx (exec (.medRemove mcore 12) quay)
     sees quay pHOST 0x144 = 0x222222 ∧ sees x pHOST 0x828 = 0x40000200 ∧ sees x (pINST 12) 0x18 = 0x402 ∧
      sees x pHOST 0x144 = 0x242222) := by
  decide +kernel

/-- 20_vine_link.md: a worker of the concourse, with a neighbour at port 0 that is a member. -/
def concourse : State :=
  { regsSet (jobs [] []) [(pSYS, 0x108, 1), (pVINE, 0x10, 1), (pVPORT 0, 0x100, 1), (pVPORT 0, 0x104, 15)] with
    vine := { ports := [(0, { state := 5, nid := 0x1C0, nmember := true, ndepth := 3 })] } }

/-- 20_vine_link.md: the worker takes ID 0x1D3. -/
theorem test_vine_assigned :
    (let x := nx (exec (.vineAssign 0 0 0x1D3 0 0 0 true) concourse)
     sees x pVINE 0x100 = 0x040101D3 ∧ sees x pVINE 0x108 = 0x81D3 ∧ sees x (pVPORT 0) 0x108 = 0x81C00002 ∧
      sees x pVINE 0x20 = 8) := by
  decide +kernel

/-- 19_stream_port.md: the header words of the example's DATA frame, and an ERROR frame's first. -/
theorem test_frame_header :
    (mkFrame 1 0x81 0x123 0xA000 0x1F3A8 4 (List.replicate 1004 0)).take 8 = leBytes 4 0x01238111 ++ leBytes 4 0xA0000410 ∧
      (mkFrame 3 1 0x123 0xA000 0x1F3A8 0 []).take 4 = leBytes 4 0x01230113 := by
  decide +kernel

/-- 22_tamper_and_backup.md: DS-12 on backup power with loop 0 configured, and its log at 0x117. -/
def ds12 : State :=
  { regsSet (jobs [] []) [(pTAMP, 0x128, 4), (pTAMP, 0x198, 0x101), (pBKP, 0x12C, 0x10004000), (pBKP, 0x130, 1)] with
    tamp := { ({} : TampSt) with vin := false, logSeq := 0x117, btime := 0x00029F3C8000 } }

/-- 22_tamper_and_backup.md: loop 0 found open on backup power is logged, and its response deferred. -/
theorem test_backup_loop_open :
    (let x := nx (exec (.tampLoopCheck 0 true false) ds12)
     x.tamp.log = [(0, [0x0117340A, 0x9F3C8000, 2, 0])] ∧ x.rg pBKP 0x100 = 0x400 ∧ x.rg pBKP 0x104 = 0x80000004) := by
  decide +kernel

/-- 23_life_cycle_debug.md: a FIELDED device with one grant and the twelve resets of the example. -/
def fielded : State :=
  { (jobs [] []).setRg pSYS 0x100 0x80000004 with lc := { ({} : LcSt) with state := 2, grant := 1 }, tamp := { ({} : TampSt) with resetsLow := 0xA1F } }

/-- 23_life_cycle_debug.md: the challenge shows the device and its resets; a halt request of the KEY
domain's CORE2 is refused. -/
theorem test_debug_limits :
    (let x := nx (exec (.dbgChallenge dbgAgent) (fielded.setRg pDBG 0x100 3))
     let y := nx (exec (.dbgHaltReq dbgAgent 5) fielded)
     sees x pDBG 0x114 = 3 ∧ sees x pDBG 0x118 = 0xA1F ∧ sees x pDBG 0x11C = 1 ∧ y.rg pDBG 0x300 = 1 ∧ y.rg pDBG 0x1C = 0x10000) := by
  decide +kernel

/-- 06_memory_and_seal.md: the manager's sealed window, opened with 0x20 and 5. -/
def mgrA : State :=
  nx <| execMsealInit mcore
    { regsSet (jobs [] []) [(pDDR, 0x108, 0x1000), (pDDR, 0x100, 2), (pMSEAL, 0x100, 0x20), (pMSEAL, 0x104, 5)] with
      ddr := { ({} : DdrSt) with mode := 2, trained := true, keyed := true } }

/-- 06_memory_and_seal.md: where the window's metadata reserve begins. -/
theorem test_sealed_window :
    mgrA.winBase = 0x180000000 ∧ mgrA.winBase + mgrA.winSize = 0x1C0000000 ∧ sees mgrA pMSEAL 0x108 = 0xF6D ∧
      mgrA.inReserve 0x1F6D00000 4 = true ∧ mgrA.inReserve 0x1F6CFFFFC 4 = false := by
  decide +kernel

/-- 13_bin_store.md: the bin 0xA31 pinned with a card's 338 taps in COUNTER1. -/
def g14bin : State :=
  let s := ((jobs [] []).setRg pBIN 0x100 256).setRg pDDR 0x108 0x400
  { s with
    bin := { ({} : BinSt) with ready := true, bins := [(0xA31, { st := .hot, inst := 0x7F, pins := 1, vis := overlay (zeros 160) 40 [0x52, 1] })] },
    aregs := [(akey 0x11 pBIN 0x10C, 0x047F0A31), (akey 0x11 pBIN 0x118, 1)] }

/-- 13_bin_store.md: INCR of the card's counter answers its 339th tap. -/
theorem test_bin_incr :
    (let x := nx (exec (.binIncr mcore) g14bin)
     sees x pBIN 0x124 = 0x80000600 ∧ sees x pBIN 0x118 = 0x153) := by
  decide +kernel
end Sys2Proof.Tests
end

section
/-!
PROOFS. Accesses to register pages: which widths a page takes (R3), and what complement partners read as (R7).
-/
namespace Sys2Proof.Machine

open Sys2Proof.Safety

section Access

variable {s t : State} {a : AgentId} {pg off : Nat} {v : Word} {kd : PageKind}

/-! ### Commands that reach a page -/

/-- Every address of the register map is an offset into its page. -/
theorem pageBase_add_offset {addr : Nat} (h : pageOfAddr addr = some pg) : pageBase pg + addr % 0x1000 = addr := by
  unfold pageOfAddr at h
  split at h
  · next hr =>
    simp only [Bool.and_eq_true, decide_eq_true_eq] at hr
    cases h
    simp only [pageBase]
    omega
  · cases h

@[simp] theorem State.countDefault_held (s : State) (g : Nat) (d : Bool) : (s.countDefault g d).held = s.held := by
  cases d <;> rfl

/-- A register write that leaves no change for the twin's ring and holds no access back is answered at once. -/
theorem State.regCmd_eq_answered (hp : pg < 0x140) (ho : off < 0x1000) (hal : off % 4 = 0) (h : Writes s t a pg off)
    (hc : (t.pageWrite a.toNat pg off v).changes = t.changes) (hh : (t.pageWrite a.toNat pg off v).held = t.held) :
    s.regCmd a.toNat pg off v = answered (t.pageWrite a.toNat pg off v) a := by
  have hheld : (answered (t.pageWrite a.toNat pg off v) a).held = s.held := hh.trans (admitted_held h.pass)
  rw [State.regCmd_of_writes hp ho hal h v, State.settle_of_none (hc.trans h.ring), State.orHeld_of_eq hheld]

/-- A register read without effect is answered at once, and changes nothing but the agent's port. -/
theorem State.readCmd_eq_setPort {w : Word} (hp : pg < 0x140) (ho : off < 0x1000) (hal : off % 4 = 0)
    (h : Reads s t a pg off) (hr : t.pageRead a.toNat pg off = (t, w)) :
    s.readCmd a.toNat pg off = t.setPort a.toNat { data := w.toNat } := by
  have hheld : (t.setPort a.toNat { data := w.toNat }).held = s.held := by
    rw [State.setPort_held, admitted_held h.pass]
  rw [State.readCmd_of_reads hp ho hal h, hr, State.settle_of_none h.ring, State.orHeld_of_eq hheld]

/-! ### Widths and alignments (R3) -/

/-- REGISTER_WRITE of four bytes at an aligned offset is the agent's register write. -/
theorem exec_registerWrite_word (s : State) (a : AgentId) (v : Word) (hp : pg < 0x140) (ho : off < 0x1000) :
    exec (.registerWrite a (BitVec.ofNat 40 (pageBase pg + off)) 4 v) s = .next (s.regCmd a.toNat pg off v) := by
  have haddr : (BitVec.ofNat 40 (pageBase pg + off)).toNat = pageBase pg + off := by
    simp only [BitVec.toNat_ofNat, pageBase]
    omega
  change Host.Outcome.next (s.portAccess a.toNat (BitVec.ofNat 40 (pageBase pg + off)).toNat 4 .write
    (leBytes 4 v.toNat)) = _
  rw [haddr, State.regCmd]

/-- IRQ_EN takes the value written, save from an INST agent at a page of the INST kind. -/
theorem State.pageWrite_irqEn (t : State) (a : Nat) (v : Word) (hk : pageKind pg = some kd)
    (hi : ∀ n, kd = .inst n → instOf a = none) : t.pageWrite a pg 0x24 v = t.setRg pg 0x24 v := by
  cases kd with
  | inst n => simp [State.pageWrite, hk, hi n rfl]
  | _ => simp [State.pageWrite, hk]

/-- A page refuses an access of another width or alignment, and only its ERR notes it. -/
theorem State.pageAccess_of_misfit {addr n : Nat} (t : State) (a : Nat) (k : AccKind) (w : Word) (u : Upset)
    (ha : pageOfAddr addr = some pg) (hn : n ≠ 4 ∨ addr % 4 ≠ 0) :
    t.pageAccess a addr n k w u = { st := t.err pg 4, fault := .access } := by
  have hmisfit : (n ≠ 4 || addr % 4 ≠ 0 || k = .fetch) = true := by simpa [or_assoc] using Or.inl hn
  simp only [State.pageAccess, hmisfit, ha, Option.getD_some, if_true]

/-- An admitted write of another width or alignment is answered with ACCESS. -/
theorem State.portAccess_of_misfit {addr n c o : Nat} {d : Bool} {a : Nat} (hp : pg < 0x140)
    (ha : pageOfAddr addr = some pg) (hi : s.issues a = true)
    (hb : s.busAdmits a addr n .write (issuedOrder a) .none = .yes t c o d false false .none)
    (hw : s.pageWaits a addr .write = false) (hn : n ≠ 4 ∨ addr % 4 ≠ 0) (bs : List Byte) :
    s.portAccess a addr n .write bs = (t.err pg 4).setPort a { fault := .access } := by
  have ho : addr % 0x1000 < 0x1000 := Nat.mod_lt _ (by decide)
  have hreg : regionOf addr = some (.page pg) := pageBase_add_offset ha ▸ regionOf_base hp ho
  have hgate : (gateOf addr).getD 0 ≠ 22 := pageBase_add_offset ha ▸ gateOf_base hp ho
  have hheld : ((t.err pg 4).setPort a { fault := .access }).held = s.held := by simp [State.admit_yes hb]
  simp [State.portAccess, hi, ha, State.access, hb, hgate, hw, State.atTarget, isMemory, hreg,
    State.pageAccess_of_misfit t a .write _ _ ha hn, State.orHeld_of_eq hheld]

theorem bitAt_setBitW_self (w : Word) {i : Nat} (hi : i < 32) : bitAt (setBitW w i) i = true := by
  change (w ||| BitVec.ofNat 32 (2 ^ i)).getLsbD i = true
  simp only [BitVec.getLsbD_or, BitVec.getLsbD_ofNat, Nat.testBit_two_pow_self, hi, decide_true, Bool.and_self,
    Bool.or_true]

/-- An ERR bit that is set reads 1. -/
theorem State.bitAt_err (s : State) (pg : Nat) {i : Nat} (hi : i < 32) : bitAt ((s.err pg i).rg pg 0x1C) i = true := by
  simp [State.err, bitAt_setBitW_self _ hi]

/-- ERR alone differs. -/
theorem State.rg_err_ne (s : State) (pg i : Nat) {q o : Nat} (h : rkey q o ≠ rkey pg 0x1C) :
    (s.err pg i).rg q o = s.rg q o := by
  rw [State.err, State.rg_modRg, if_neg h]

/-! ### Complement partners (R7) -/

/-- The block-specific offsets of a page's complement partners. -/
def partnerOffsets : PageKind → List Nat
  | .sys => [0x104, 0x10C]
  | .pwr => [0x124]
  | .rst => [0x108, 0x110]
  | .gate _ | .lc => [0x108]
  | .key => [0x104]
  | _ => []

/-- Block-specific rows begin behind the common registers (R27). -/
theorem regRows_lo (kd : PageKind) : ((regRows kd).all fun r => 0x100 ≤ r.lo) = true := by
  cases kd <;> rfl

/-- The rows of code RWP_N are one word wide and stand at the partner offsets. -/
theorem regRows_partners (kd : PageKind) : ((regRows kd).all fun r =>
    r.acc != .rwpN || (r.hi == r.lo && (partnerOffsets kd).contains r.lo)) = true := by
  cases kd <;> rfl

/-- A common offset has no row. -/
theorem findRow_of_common (kd : PageKind) (ho : off < 0x100) : findRow kd off = none := by
  refine List.find?_eq_none.2 fun r hr hin => ?_
  have hlo := List.all_eq_true.1 (regRows_lo kd) r hr
  simp only [decide_eq_true_eq, Bool.and_eq_true] at hlo hin
  omega

/-- An offset of code RWP_N is a partner offset. -/
theorem mem_partnerOffsets {r : RegRow} (h : findRow kd off = some r) (hr : r.acc = .rwpN) :
    off ∈ partnerOffsets kd := by
  have hrow := List.all_eq_true.1 (regRows_partners kd) r (List.mem_of_find?_eq_some h)
  have hin := List.find?_some h
  simp only [hr, bne_self_eq_false, Bool.false_or, Bool.and_eq_true, beq_iff_eq, List.contains_iff_mem,
    decide_eq_true_eq] at hrow hin
  obtain ⟨hone, hmem⟩ := hrow
  have hoff : off = r.lo := by omega
  exact hoff ▸ hmem

/-- The rows of a partner and of its primary, one word below it, of which there is one copy for all agents. -/
structure PartnerRows (kd : PageKind) (off : Nat) : Prop where
  aligned : off % 4 = 0
  above : 0x104 ≤ off
  below : off < 0xE00
  partner : ∃ r, findRow kd off = some r ∧ r.acc = .rwpN
  primary : ∃ r, findRow kd (off - 4) = some r ∧ r.acc = .rwp ∧ r.perAgent = false

theorem partnerRows (h : off ∈ partnerOffsets kd) : PartnerRows kd off := by
  cases kd with
  | sys | rst =>
    simp only [partnerOffsets, List.mem_cons, List.not_mem_nil, or_false] at h
    obtain rfl | rfl := h
    all_goals exact ⟨rfl, by decide, by decide, ⟨_, rfl, rfl⟩, ⟨_, rfl, rfl, rfl⟩⟩
  | pwr | gate | lc | key =>
    obtain rfl := List.mem_singleton.1 h
    exact ⟨rfl, by decide, by decide, ⟨_, rfl, rfl⟩, ⟨_, rfl, rfl, rfl⟩⟩
  | _ => cases h

/-- Neither half of a pair is a register that the machine computes. -/
theorem State.derived_of_partner (s : State) (a pg : Nat) (h : off ∈ partnerOffsets kd) :
    s.derived a kd pg off = none ∧ s.derived a kd pg (off - 4) = none := by
  cases kd with
  | sys | rst => exact ⟨rfl, rfl⟩
  | pwr | gate | lc | key =>
    obtain rfl := List.mem_singleton.1 h
    exact ⟨rfl, rfl⟩
  | _ => cases h

/-- What a block-specific offset shows is said by its row. -/
theorem State.regView_eq_blockView (s : State) (a : Nat) (hk : pageKind pg = some kd) (hlo : 0x100 ≤ off)
    (hhi : off < 0xE00) : s.regView a pg off = s.blockView a kd pg off := by
  have hne (n : Nat) (hn : n < 0x100) : off ≠ n := by omega
  simp [State.regView, hk, hne, hhi, Nat.not_lt.2 hlo]

/-- A block-specific partner shows the complement of what its primary shows. -/
theorem State.regView_of_partner (s : State) (a : Nat) (hk : pageKind pg = some kd) (h : off ∈ partnerOffsets kd) :
    s.regView a pg off = ~~~ s.regView a pg (off - 4) := by
  obtain ⟨_, hlo, hhi, ⟨rN, hrN, haccN⟩, ⟨r, hr, hacc, hone⟩⟩ := partnerRows h
  obtain ⟨hdN, hd⟩ := s.derived_of_partner a pg h
  rw [s.regView_eq_blockView a hk (by omega) hhi, s.regView_eq_blockView a hk (by omega) (by omega)]
  simp [State.blockView, hrN, hdN, haccN, hr, hd, hacc, hone]

/-- CTRL_N shows the complement of what a paired CTRL shows (R28). -/
theorem State.regView_ctrlN (s : State) (a : Nat) (hk : pageKind pg = some kd) (hp : ctrlPaired kd = true) :
    s.regView a pg 0x14 = ~~~ s.regView a pg 0x10 := by
  cases kd with
  | inst n => cases hp
  | _ => simp [State.regView, hk, hp]

/-- The pages on which a read may do more than answer or clear what it read. -/
def readActs : PageKind → Bool
  | .time | .rng | .bkp | .dbg | .legal | .lcore => true
  | _ => false

theorem readActs_of_partner (h : off ∈ partnerOffsets kd) : readActs kd = false := by
  cases kd with
  | sys | pwr | rst | gate | lc | key => rfl
  | _ => cases h

/-- A read that neither clears nor acts answers what the register shows, without effect. -/
theorem State.pageRead_eq_regView (s : State) (a : Nat) (hk : pageKind pg = some kd) (hc : readClears kd off = false)
    (hq : off < 0x100 ∨ readActs kd = false) : s.pageRead a pg off = (s, s.regView a pg off) := by
  rcases hq with ho | hq
  · have hne (n : Nat) (hn : 0x100 ≤ n) : off ≠ n := by omega
    have hlt : ¬ 0x200 ≤ off := by omega
    simp [State.pageRead, hk, hc, hne, hlt]
  · cases kd with
    | time | rng | bkp | dbg | legal | lcore => cases hq
    | _ => simp [State.pageRead, hk, hc]

/-- A partner's read clears nothing: its row has another code. -/
theorem readClears_of_partner (h : off ∈ partnerOffsets kd) : readClears kd off = false := by
  obtain ⟨_, hlo, _, ⟨r, hr, hacc⟩, _⟩ := partnerRows h
  have hne : off ≠ 0x34 := by omega
  simp [readClears, hne, hr, hacc]

theorem readClears_ctrlN (kd : PageKind) : readClears kd 0x14 = false := by
  simp [readClears, findRow_of_common]

/-- A read of a complement partner, of CTRL or of a block-specific register, gives the complement of what its primary
shows, and has no effect. -/
theorem State.pageRead_of_partner (s : State) (a : Nat) (hk : pageKind pg = some kd)
    (h : (off = 0x14 ∧ ctrlPaired kd = true) ∨ off ∈ partnerOffsets kd) :
    off % 4 = 0 ∧ readClears kd off = false ∧ s.pageRead a pg off = (s, ~~~ s.regView a pg (off - 4)) := by
  rcases h with ⟨rfl, hp⟩ | h
  · have hc := readClears_ctrlN kd
    exact ⟨rfl, hc, by rw [s.pageRead_eq_regView a hk hc (.inl (by decide)), s.regView_ctrlN a hk hp]⟩
  · have hc := readClears_of_partner h
    exact ⟨(partnerRows h).aligned, hc,
      by rw [s.pageRead_eq_regView a hk hc (.inr (readActs_of_partner h)), s.regView_of_partner a hk h]⟩

/-- READ_CLEAR of an offset that no read clears is a read. -/
theorem exec_readClear_of_keeps {pg : Fin 320} {off : Fin 4096} (s : State) (a : AgentId) (hw : Word)
    (hk : pageKind pg = some kd) (hc : readClears kd off = false) :
    exec (.readClear a pg off hw) s = .next (s.readCmd a.toNat pg off) := by
  change execReadClear a pg off hw s = _
  simp [execReadClear, hk, hc]

end Access

/-! ### The statements -/

/-- Settles O7: an aligned word is stored in IRQ_EN; anything else is refused, and noted in ERR alone. -/
theorem registerWidth : Obligations.RegisterWidth := by
  unfold Obligations.RegisterWidth
  refine fun s a v pg => ⟨fun t h hkind hinst => ?_, fun addr size c o d t ha hi hb hw hmisfit => ?_⟩
  · obtain ⟨kd, hk⟩ := Option.isSome_iff_exists.1 hkind
    have hstore := t.pageWrite_irqEn a.toNat v hk fun n hn => hinst n (hn ▸ hk)
    refine ⟨_, exec_registerWrite_word s a v pg.isLt (by decide), ?_⟩
    rw [State.regCmd_eq_answered pg.isLt (by decide) rfl h (by simp [hstore]) (by simp [hstore]), hstore]
    simp [answered]
  · have hn : size.toNat ≠ 4 ∨ addr.toNat % 4 ≠ 0 := hmisfit.imp_left fun h e => h (BitVec.eq_of_toNat_eq e)
    refine ⟨(t.err pg 4).setPort a.toNat { fault := .access },
      congrArg Host.Outcome.next (State.portAccess_of_misfit pg.isLt ha hi hb hw hn _), ?_, ?_, rfl, ?_⟩
    · simp
    · exact t.bitAt_err pg (by decide)
    · exact fun q off hne => t.rg_err_ne pg 4 hne

/-- Settles O11: neither CTRL_N nor a row of code RWP_N is cleared or acted on by a read, and both show the complement of
the register one word below. -/
theorem partnerReads : Obligations.PartnerReads := by
  unfold Obligations.PartnerReads
  intro s t a hw pg off kd hk hpartner hreads
  have hoff : (off.val = 0x14 ∧ ctrlPaired kd = true) ∨ off.val ∈ partnerOffsets kd :=
    hpartner.imp (fun ⟨ho, hp⟩ => ⟨congrArg Fin.val ho, hp⟩) fun ⟨_, _, _, hr, hacc⟩ => mem_partnerOffsets hr hacc
  obtain ⟨hal, hc, hread⟩ := t.pageRead_of_partner a.toNat hk hoff
  refine ⟨_, exec_readClear_of_keeps s a hw hk hc, ?_⟩
  rw [State.readCmd_eq_setPort pg.isLt off.isLt hal hreads hread]
  exact ⟨by simp, by simp, rfl⟩

end Sys2Proof.Machine
end

section
/-!
PROOFS. Alarms: what carrying out a response leaves alone (R442–R444), what the raise of one source leaves (R441, R446,
R449), and the writes of SYS that only MCORE may make (R14).
-/
namespace Sys2Proof.Machine

open Sys2Proof.Safety

section Alarms

variable {s t u : State} {q off : Nat}

/-! ### What a response leaves alone (R442–R444) -/

/-- The pages of the Staves, whose registers count the commands that a halt discards (R235, R245). -/
def stavePages : List Nat := (List.range 5).map fun n => pSTAVE n

/-- What every response keeps: the registers of all pages but the Staves', the pending paired writes, the changes for
the twin, the access that waits, and the alarm log's sequence. -/
structure ResponseKeeps (s t : State) : Prop where
  rg : ∀ {q off : Nat}, q ∉ stavePages → off < 0x1000 → t.rg q off = s.rg q off
  pairs : t.pairs = s.pairs
  changes : t.changes = s.changes
  held : t.held = s.held
  logSeq : t.tamp.logSeq = s.tamp.logSeq

namespace ResponseKeeps

theorem refl (s : State) : ResponseKeeps s s := ⟨fun _ _ => rfl, rfl, rfl, rfl, rfl⟩

theorem trans (h : ResponseKeeps s t) (k : ResponseKeeps t u) : ResponseKeeps s u :=
  ⟨fun hq ho => (k.rg hq ho).trans (h.rg hq ho), k.pairs.trans h.pairs, k.changes.trans h.changes, k.held.trans h.held,
    k.logSeq.trans h.logSeq⟩

theorem foldl {β : Type} {f : State → β → State} {l : List β} (h : ∀ x ∈ l, ∀ t, ResponseKeeps t (f t x)) (s : State) :
    ResponseKeeps s (l.foldl f s) := by
  induction l generalizing s with
  | nil => exact refl s
  | cons x l ih =>
    have hx := h x (by simp) s
    exact hx.trans (ih (fun y hy => h y (by simp [hy])) _)

theorem ite {c : Prop} {_ : Decidable c} (ht : ResponseKeeps s t) (hu : ResponseKeeps s u) :
    ResponseKeeps s (if c then t else u) := by
  split
  · exact ht
  · exact hu

end ResponseKeeps

/-- Registers of different pages have different keys. -/
theorem rkey_ne_of_page_ne {p o : Nat} (h : q ≠ p) (ho : o < 0x1000) (hoff : off < 0x1000) : rkey q off ≠ rkey p o := by
  simp only [rkey]
  omega

/-- A register changed on one page is read on no other. -/
theorem State.rg_modRg_of_page_ne {p o : Nat} (s : State) (f : Word → Word) (h : q ≠ p) (ho : o < 0x1000)
    (hoff : off < 0x1000) : (s.modRg p o f).rg q off = s.rg q off := by
  rw [State.rg_modRg, if_neg (rkey_ne_of_page_ne h ho hoff)]

theorem State.modRg_stave_keeps {n o : Nat} (s : State) (f : Word → Word) (hn : n < 5) (ho : o < 0x1000) :
    ResponseKeeps s (s.modRg (pSTAVE n) o f) := by
  have hmem : pSTAVE n ∈ stavePages := List.mem_map.2 ⟨n, List.mem_range.2 hn, rfl⟩
  exact ⟨fun hq hoff => s.rg_modRg_of_page_ne f (fun e => hq (e ▸ hmem)) ho hoff, rfl, rfl, rfl, rfl⟩

theorem State.staveDone_keeps {n : Nat} (s : State) (ran : Bool) (hn : n < 5) : ResponseKeeps s (s.staveDone n ran) := by
  have hseq := s.modRg_stave_keeps (fun v => v + 1) hn (o := 0x120) (by decide)
  have hmark (t : State) : ResponseKeeps t (t.irq (pSTAVE n) 0) := t.modRg_stave_keeps _ hn (o := 0x20) (by decide)
  have hcount (t : State) : ResponseKeeps t (t.cnt (pSTAVE n) 0x138) := t.modRg_stave_keeps _ hn (by decide)
  unfold State.staveDone
  extract_lets _ s1 s2
  have hmarked : ResponseKeeps s s2 := .ite (hseq.trans (hmark _)) hseq
  exact .ite (hmarked.trans (hcount _)) hmarked

theorem State.staveStartClear_keeps {n : Nat} (s : State) (ending running : Bool) (hn : n < 5) :
    ResponseKeeps s (s.staveStartClear n ending running) := by
  have hset (x : StaveSt) : ResponseKeeps s (s.setStave n x) := ⟨fun _ _ => rfl, rfl, rfl, rfl, rfl⟩
  unfold State.staveStartClear
  exact .ite (.refl s) ((hset _).trans (.foldl (fun _ _ t => t.staveDone_keeps false hn) _))

theorem State.endClaims_keeps (s : State) (a : Nat) : ResponseKeeps s (s.endClaims a) :=
  .foldl (fun _ hn t => .ite (t.staveStartClear_keeps true false (List.mem_range.1 hn)) (.refl t)) s

theorem State.setCore_keeps (s : State) (n : Nat) (c : CoreSt) : ResponseKeeps s (s.setCore n c) :=
  ⟨fun _ _ => rfl, rfl, rfl, rfl, rfl⟩

theorem State.setTamp_keeps (s : State) (x : TampSt) (h : x.logSeq = s.tamp.logSeq := by rfl) :
    ResponseKeeps s { s with tamp := x } :=
  ⟨fun _ _ => rfl, rfl, rfl, rfl, h⟩

theorem State.haltCore_keeps (s : State) (n : Nat) : ResponseKeeps s (s.haltCore n) := by
  have hcore := s.setCore_keeps n { s.core n with run := .halted }
  unfold State.haltCore
  dsimp only
  split
  · exact hcore.trans (State.endClaims_keeps _ _)
  · exact hcore

theorem State.alarmCore_keeps (s : State) (n : Nat) : ResponseKeeps s (s.alarmCore n) :=
  .ite (s.setCore_keeps n _) (.refl s)

theorem State.alarmCores_keeps (s : State) : ResponseKeeps s s.alarmCores :=
  .foldl (fun n _ t => .ite (t.alarmCore_keeps n) (.refl t)) s

theorem State.tampHalt_keeps (s : State) : ResponseKeeps s s.tampHalt := by
  unfold State.tampHalt
  extract_lets s1 _
  have hcores : ResponseKeeps s s1 := .foldl (fun n _ t => .ite (t.haltCore_keeps n) (.refl t)) s
  clear_value s1
  exact hcores.trans (s1.setTamp_keeps _)

theorem State.zeroize_keeps (s : State) : ResponseKeeps s s.zeroize := ⟨fun _ _ => rfl, rfl, rfl, rfl, rfl⟩

/-- A response carries out its parts in the order of their severity, IRQ first and LOCKDOWN last (R442). -/
theorem State.respond_keeps (s : State) (r : Nat) : ResponseKeeps s (s.respond r) := by
  unfold State.respond
  refine .ite (.refl s) (.ite (.ite s.alarmCores_keeps (.refl s)) (.ite (.refl s) ?_))
  extract_lets s0 _ s1 s2 _ s3 s4 _
  have h1 : ResponseKeeps s s1 := (s.alarmCore_keeps 9).trans (s0.setTamp_keeps _)
  have h2 : ResponseKeeps s s2 := .ite (h1.trans s1.tampHalt_keeps) h1
  have h3 : ResponseKeeps s s3 := .ite (h2.trans ⟨fun _ _ => rfl, rfl, rfl, rfl, rfl⟩) h2
  have h4 : ResponseKeeps s s4 := .ite (h3.trans s3.zeroize_keeps) h3
  exact .ite (h4.trans (s4.setTamp_keeps _)) h4

theorem State.respondOrWait_keeps (s : State) (r : Nat) : ResponseKeeps s (s.respondOrWait r) :=
  .ite (s.setTamp_keeps _) (s.respond_keeps r)

/-! ### The raise of one source (R441, R446, R449) -/

/-- The pages whose registers the raise of a source may change. -/
def alarmPages : List Nat := pTAMP :: pBKP :: stavePages

theorem not_mem_alarmPages : q ∉ alarmPages ↔ q ≠ pTAMP ∧ q ≠ pBKP ∧ q ∉ stavePages := by
  simp only [alarmPages, List.mem_cons, not_or]

/-- Source `i` has been raised: its flag is set, the log has one more entry, and the registers of the other pages, the
pending paired writes, the changes for the twin and the access that waits are as they were. -/
structure AlarmRaised (i : Nat) (s t : State) : Prop where
  rg : ∀ {q off : Nat}, q ∉ alarmPages → off < 0x1000 → t.rg q off = s.rg q off
  pairs : t.pairs = s.pairs
  changes : t.changes = s.changes
  held : t.held = s.held
  flag : bitAt (t.rg pBKP 0x100) i = true
  logSeq : t.tamp.logSeq = (s.tamp.logSeq + 1) % 0x10000

theorem AlarmRaised.respond {i : Nat} (h : AlarmRaised i s t) (k : ResponseKeeps t u) : AlarmRaised i s u where
  rg hq ho := (k.rg (not_mem_alarmPages.1 hq).2.2 ho).trans (h.rg hq ho)
  pairs := k.pairs.trans h.pairs
  changes := k.changes.trans h.changes
  held := k.held.trans h.held
  flag := k.rg (q := pBKP) (off := 0x100) (by decide) (by decide) ▸ h.flag
  logSeq := k.logSeq.trans h.logSeq

theorem srcsOf_two_pow : ∀ i < 32, srcsOf (2 ^ i) = [i] := by decide

/-- The rest of a raise stores registers of TAMP and BKP, none of them the flags. -/
theorem AlarmRaised.setRg {i p o : Nat} (h : AlarmRaised i s t) (v : Word) (hp : p = pTAMP ∨ p = pBKP) (ho : o < 0x1000)
    (hne : rkey pBKP 0x100 ≠ rkey p o) : AlarmRaised i s (t.setRg p o v) where
  rg {q off} hq hoff := by
    obtain ⟨htamp, hbkp, _⟩ := not_mem_alarmPages.1 hq
    have hpage : q ≠ p := by rcases hp with rfl | rfl <;> assumption
    rw [t.rg_setRg_ne _ _ _ _ _ (rkey_ne_of_page_ne hpage ho hoff), h.rg hq hoff]
  pairs := h.pairs
  changes := h.changes
  held := h.held
  flag := by rw [t.rg_setRg_ne _ _ _ _ _ hne, h.flag]
  logSeq := h.logSeq

/-- A source that is noted in the flags and then logged has been raised. -/
theorem AlarmRaised.of_logAlarm {i : Nat} (hi : i < 32)
    (h : ResponseKeeps (s.modRg pBKP 0x100 fun v => v ||| wd (2 ^ i)) t) (resp : Nat) (defer vbat : Bool) (seq : Word) :
    AlarmRaised i s (t.logAlarm i resp defer vbat seq) := by
  have hnoted : t.rg pBKP 0x100 = s.rg pBKP 0x100 ||| wd (2 ^ i) := by
    rw [h.rg (by decide) (by decide), State.rg_modRg_self]
  have hne {q off : Nat} (hk : rkey q off ≠ rkey pBKP 0x118) : (t.logAlarm i resp defer vbat seq).rg q off = t.rg q off :=
    State.rg_setRg_ne _ _ _ _ _ _ hk
  constructor
  case rg =>
    intro q off hq ho
    obtain ⟨_, hbkp, hstave⟩ := not_mem_alarmPages.1 hq
    rw [hne (rkey_ne_of_page_ne hbkp (by decide) ho), h.rg hstave ho, s.rg_modRg_of_page_ne _ hbkp (by decide) ho]
  case pairs => exact h.pairs
  case changes => exact h.changes
  case held => exact h.held
  case flag => rw [hne (by decide), hnoted]; exact bitAt_setBitW_self _ hi
  case logSeq => exact congrArg (fun n => (n + 1) % 0x10000) h.logSeq

theorem State.alarmNotice_keeps (s : State) (n : Nat) : ResponseKeeps s (s.alarmNotice n) :=
  ⟨fun _ _ => rfl, rfl, rfl, rfl, rfl⟩

/-- A dispatch while VIN is present (R441, R442). -/
theorem State.dispatch_raises {i : Nat} (hi : i < 32) (s : State) (r : Nat) :
    AlarmRaised i s (s.dispatch (2 ^ i) r) := by
  unfold State.dispatch
  rw [srcsOf_two_pow i hi]
  extract_lets s1 _ s2 s3 final s4 s5
  have h3 : ResponseKeeps s1 s3 := (s1.setTamp_keeps _).trans ⟨fun _ _ => rfl, rfl, rfl, rfl, rfl⟩
  have h4 : AlarmRaised i s s4 := .of_logAlarm hi h3 final false false _
  have h5 : AlarmRaised i s s5 := ((h4.setRg _ (.inl rfl) (by decide) (by decide)).setRg _ (.inl rfl) (by decide)
    (by decide)).setRg _ (.inl rfl) (by decide) (by decide)
  exact (h5.respond (s5.alarmNotice_keeps _)).respond (State.respondOrWait_keeps _ r)

/-- A dispatch on VBAT (R446). -/
theorem State.dispatchVbat_raises {i : Nat} (hi : i < 32) (s : State) (r : Nat) :
    AlarmRaised i s (s.dispatchVbat (2 ^ i) r) := by
  unfold State.dispatchVbat
  rw [srcsOf_two_pow i hi]
  extract_lets s1 _ s2 s3 s4 _ s5
  have h3 : AlarmRaised i s s3 := .of_logAlarm hi (s1.setTamp_keeps _) r _ true 0
  have h34 : ResponseKeeps s3 s4 := .ite ⟨fun _ _ => rfl, rfl, rfl, rfl, rfl⟩ (.refl s3)
  have h5 : AlarmRaised i s s5 := h3.respond (h34.trans (.ite (s4.setTamp_keeps _) (.refl s4)))
  split
  · exact h5.setRg _ (.inr rfl) (by decide) (by decide)
  · exact h5

theorem State.alarmRaised_of_alarm {i : Nat} (hi : i < 32) (s : State) (least : Nat) : AlarmRaised i s (s.alarm (2 ^ i) least) := by
  have hne : 2 ^ i ≠ 0 := Nat.ne_of_gt (Nat.two_pow_pos i)
  unfold State.alarm
  rw [if_neg hne]
  dsimp only
  split
  · exact s.dispatch_raises hi _
  · exact s.dispatchVbat_raises hi _

/-- PROTOCOL is source 28 (R436). -/
theorem State.logProtocol_raises (s : State) : AlarmRaised 28 s s.logProtocol := s.alarmRaised_of_alarm (by decide) 0

end Alarms

/-! ### Writes that SYS takes from MCORE alone (R14) -/

/-- An agent other than MCORE that writes one of the four offsets only sets ERR.AGENT and raises PROTOCOL. -/
theorem State.pageWrite_sys_of_foreign {a off : Nat} (t : State) (v : Word) (ha : a ≠ aMCORE)
    (hoff : off = 0x100 ∨ off = 0x104 ∨ off = 0x108 ∨ off = 0x10C) :
    t.pageWrite a pSYS off v = (t.err pSYS 3).logProtocol := by
  have hkind : pageKind pSYS = some .sys := rfl
  rcases hoff with rfl | rfl | rfl | rfl <;> simp [State.pageWrite, hkind, State.blockWrite, State.sysWrite, ha]

/-- The write is answered without a fault. -/
theorem exec_pairedWritePrimary_sys_of_foreign {s t : State} {a : AgentId} {off : Fin 4096} (v : Word)
    (ha : a.toNat ≠ aMCORE) (hoff : off = 0x100 ∨ off = 0x104 ∨ off = 0x108 ∨ off = 0x10C) (h : Writes s t a pSYS off) :
    exec (.pairedWritePrimary a 0 off v) s = .next (answered (t.err pSYS 3).logProtocol a) := by
  have hval : off.val = 0x100 ∨ off.val = 0x104 ∨ off.val = 0x108 ∨ off.val = 0x10C := by
    rcases hoff with rfl | rfl | rfl | rfl <;> decide
  have hpage := t.pageWrite_sys_of_foreign v ha hval
  have hraised := (t.err pSYS 3).logProtocol_raises
  change Host.Outcome.next (s.regCmd a.toNat pSYS off v) = _
  rw [State.regCmd_eq_answered (by decide) off.isLt (by omega) h (by rw [hpage, hraised.changes]; rfl)
    (by rw [hpage, hraised.held]; rfl), hpage]

/-- Settles O10: the write reaches SYS only to set ERR.AGENT and to raise PROTOCOL, which touches no register of SYS and
no pending paired write. -/
theorem sysAdmitsMcore : Obligations.SysAdmitsMcore := by
  unfold Obligations.SysAdmitsMcore
  intro s t a v off ha hoff h
  have hraised := (t.err pSYS 3).logProtocol_raises
  have hsys {o : Nat} (ho : o < 0x1000) : (t.err pSYS 3).logProtocol.rg pSYS o = (t.err pSYS 3).rg pSYS o :=
    hraised.rg (by decide) ho
  refine ⟨_, exec_pairedWritePrimary_sys_of_foreign v ha hoff h, ?_, ?_, hraised.pairs, ?_, hraised.flag, hraised.logSeq⟩
  · exact (hsys (by decide)).trans (t.rg_err_ne pSYS 3 (by decide))
  · exact (hsys (by decide)).trans (t.rg_err_ne pSYS 3 (by decide))
  · exact (congrArg (bitAt · 3) (hsys (by decide))).trans (t.bitAt_err pSYS (by decide))

end Sys2Proof.Machine
end

section
/-!
PROOFS. The core: what an instruction that writes one register leaves of its core (R42, R43, R46, R49, R59, R81), and
parity and bit reversal (R62).
-/
namespace Sys2Proof.Machine

open Sys2Proof.Safety

section OneRegister

variable {s t : State} {n : Nat}

/-! ### Instructions that a core takes (R43, R77) -/

/-- Where no access is held back, the command's result stands. -/
theorem State.orHeld_of_none (s : State) (h : t.held = none) : s.orHeld t = t := by
  cases hs : s.held <;> simp [State.orHeld, hs, h]

/-- A legal instruction of the plain kind is executed wherever the core takes it: R47 and R52 refuse it nowhere. -/
theorem State.instr_plain_of_issues (h : Issues s t n) (f : State → State × Res) :
    s.instr n .plain true f = s.orHeld (t.execute n .plain f) := by
  obtain ⟨hlive, hfree, hfirst, hawake, hbreak, hfetch, -, -⟩ := h
  simp [State.instr, State.issue, State.judged, CoreSt.loopEndBad, Kind.slotBad, Kind.endBad, hlive, hfree, hfirst, hawake,
    hbreak, hfetch]

/-- An instruction whose effect is one change of its core makes that change and then completes. -/
theorem State.onCore_of_issues (h : Issues s t n) (f : CoreSt → CoreSt) (hrun : (f (t.core n)).run = (t.core n).run) :
    s.onCore n true f = (t.modCore n f).modCore n fun c => c.complete (t.core n) .plain .seq := by
  have hreset : (f (t.core n)).run ≠ .reset := by rw [hrun, h.running]; decide
  have hdone : t.execute n .plain (fun t => (t.modCore n f, .ok .seq)) =
      (t.modCore n f).modCore n fun c => c.complete (t.core n) .plain .seq := by
    simp [State.execute, State.finish, hreset]
  rw [State.onCore, State.instr_plain_of_issues h, hdone]
  exact State.orHeld_of_none s h.unheld

/-- Changes of one core leave the rest of the state alone. -/
theorem State.modCore_modCore_coreOnly (t : State) (n : Nat) (f g : CoreSt → CoreSt) :
    coreOnly t ((t.modCore n f).modCore n g) n :=
  ⟨rfl, fun m hm => by rw [State.core_modCore_ne _ _ _ _ hm, State.core_modCore_ne _ _ _ _ hm]⟩

/-! ### The end of an instruction (R46, R49, R81) -/

section Completion

variable (c : CoreSt) (k : Kind)

/-- The loops decide nothing but their own counts and activity, and the PC. -/
theorem CoreSt.decide_eq (pc next : Word) : ∃ la0 la1 k0 k1 p,
    c.decide pc next = { c with la0 := la0, la1 := la1, lcount0 := k0, lcount1 := k1, pc := p } := by
  unfold CoreSt.decide
  dsimp only
  split
  · split <;> exact ⟨_, _, _, _, _, rfl⟩
  · split <;> exact ⟨_, _, _, _, _, rfl⟩

/-- Where no loop ends, the successor stands. -/
theorem CoreSt.decide_of_loopAt_none {pc : Word} (next : Word) (h : c.loopAt pc = none) :
    c.decide pc next = { c with pc := next } := by
  unfold CoreSt.loopAt at h
  split at h
  · cases h
  · next h1 =>
    split at h
    · cases h
    · next h0 => simp [CoreSt.decide, h1, h0]

@[simp] theorem CoreSt.complete_g (b : CoreSt) : (c.complete b k .seq).g = c.g := by
  cases hslot : b.slot with
  | some x => simp only [CoreSt.complete, hslot]
  | none =>
    obtain ⟨_, _, _, _, _, hdecide⟩ := c.decide_eq b.pc (b.kept.getD (b.pc + 4))
    simp only [CoreSt.complete, hslot, hdecide]

@[simp] theorem CoreSt.gr_complete (b : CoreSt) (i : Nat) : (c.complete b k .seq).gr i = c.gr i := by
  simp [CoreSt.gr]

/-- The completion itself changes nothing but where the core runs. -/
theorem CoreSt.complete_regsOnly (b : CoreSt) : regsOnly c (c.complete b k .seq) := by
  cases hslot : b.slot with
  | some x => simp only [regsOnly, CoreSt.complete, hslot]
  | none =>
    obtain ⟨_, _, _, _, _, hdecide⟩ := c.decide_eq b.pc (b.kept.getD (b.pc + 4))
    simp only [regsOnly, CoreSt.complete, hslot, hdecide]

/-- An instruction that left the loops as they were passes to the delay slot's target or to its successor. -/
theorem CoreSt.complete_passed {b : CoreSt} (hloop : c.loopAt b.pc = b.loopAt b.pc) (hslot : c.slot = b.slot) :
    Passed b (c.complete b k .seq) where
  slot x hx := by simp only [CoreSt.complete, hx, and_self]
  next hnone hloops := by
    have hdecide := c.decide_of_loopAt_none (b.kept.getD (b.pc + 4)) (hloop.trans hloops)
    simp only [CoreSt.complete, hnone, hdecide, hslot, and_self]

end Completion

/-! ### Instructions that write one register (R42, R59) -/

section Register

variable (c : CoreSt) (d : BitVec 5) (v : Word)

/-- A register write changes the general registers alone. -/
theorem CoreSt.setReg_eq : ∃ g, c.setReg d v = { c with g := g } := by
  unfold CoreSt.setReg CoreSt.setGr
  split <;> exact ⟨_, rfl⟩

theorem CoreSt.gr_setReg_self : (c.setReg d v).gr d.toNat = if d = 0 then 0 else v := by
  have hzero : d.toNat = 0 ↔ d = 0 := BitVec.toNat_inj (y := 0)
  simp only [CoreSt.setReg, CoreSt.gr_setGr, Nat.mod_eq_of_lt d.isLt, hzero, if_true]

theorem CoreSt.gr_setReg_ne {r : Nat} (hr : r < 32) (h : r ≠ d.toNat) : (c.setReg d v).gr r = c.gr r := by
  rw [CoreSt.setReg, CoreSt.gr_setGr, Nat.mod_eq_of_lt hr, Nat.mod_eq_of_lt d.isLt, if_neg h]
  split
  · next hzero => rw [hzero, CoreSt.gr_zero]
  · rfl

/-- A legal instruction of R59 writes its register and nothing else wherever the core takes it. -/
theorem State.wrote_alu (h : Issues s t n) (d : BitVec 5) (f : CoreSt → Word) :
    Wrote t (s.alu n d true f) n d (f (t.core n)) := by
  obtain ⟨g, hg⟩ := (t.core n).setReg_eq d (f (t.core n))
  have hcore : (s.alu n d true f).core n = ((t.core n).setReg d (f (t.core n))).complete (t.core n) .plain .seq := by
    rw [State.alu, State.onCore_of_issues h _ (by rw [hg]), State.core_modCore_self, State.core_modCore_self]
  constructor
  case value => rw [hcore, CoreSt.gr_complete, CoreSt.gr_setReg_self]
  case others => intro r hr hne; rw [hcore, CoreSt.gr_complete, CoreSt.gr_setReg_ne _ _ _ hr hne]
  case rest => rw [hcore, hg]; exact CoreSt.complete_regsOnly { t.core n with g := g } .plain (t.core n)
  case passed => rw [hcore, hg]; exact CoreSt.complete_passed _ .plain rfl rfl
  case frame =>
    rw [State.alu, State.onCore_of_issues h _ (by rw [hg])]
    exact t.modCore_modCore_coreOnly n _ _

/-- An instruction that is one register write of `f`, and legal, computes every `v` that agrees with `f`. -/
theorem computes_of_alu {f v : CoreSt → Word} {d : BitVec 5} {i : Instr} (hfv : ∀ c, f c = v c)
    (hi : ∀ s, exec i s = .next (s.alu n d true f)) : Computes n d v i :=
  fun s t h => ⟨_, hi s, hfv (t.core n) ▸ State.wrote_alu h d f⟩

end Register

end OneRegister

/-! ### Parity and reversal bit by bit (R62) -/

/-- `popcount` counts the bits that are set. -/
theorem popcount_eq_countP (w : Nat) : ∀ x, popcount x w = (List.range w).countP x.testBit := by
  induction w with
  | zero => intro x; rfl
  | succ w ih =>
    intro x
    have htail : x.testBit ∘ Nat.succ = (x / 2).testBit := funext fun i => Nat.testBit_succ x i
    rw [popcount, ih, List.range_succ_eq_map, List.countP_cons, List.countP_map, htail, Nat.add_comm]
    rcases Nat.mod_two_eq_zero_or_one x with h | h <;> simp [h]

/-- The parity that PAR computes is that of the number of ones. -/
theorem wd_popcount_mod_two (x : Word) : wd (popcount x.toNat 32 % 2) =
    if ((List.range 32).filter fun i => x.getLsbD i).length % 2 = 1 then 1 else 0 := by
  rw [popcount_eq_countP, List.countP_eq_length_filter]
  change wd (((List.range 32).filter fun i => x.getLsbD i).length % 2) = _
  rcases Nat.mod_two_eq_zero_or_one ((List.range 32).filter fun i => x.getLsbD i).length with h | h <;> rw [h] <;> rfl

theorem revBits_lt (n : Nat) : ∀ x, revBits n x < 2 ^ n := by
  induction n with
  | zero => intro x; simp [revBits]
  | succ n ih =>
    intro x
    have hrest := ih (x / 2)
    rcases Nat.mod_two_eq_zero_or_one x with h | h <;> simp only [revBits, h, Nat.pow_succ] <;> omega

/-- Bit `i` of the reversed number is bit `n - 1 - i` of the number. -/
theorem testBit_revBits {n i : Nat} (hi : i < n) : ∀ x, (revBits n x).testBit i = x.testBit (n - 1 - i) := by
  induction n with
  | zero => omega
  | succ n ih =>
    intro x
    rw [revBits, Nat.mul_comm, Nat.testBit_two_pow_mul_add _ (revBits_lt n _)]
    by_cases h : i < n
    · have hindex : n + 1 - 1 - i = n - 1 - i + 1 := by omega
      rw [if_pos h, ih h, hindex, Nat.testBit_succ]
    · have hlast : i = n := by omega
      simp [hlast]

/-- Bit `i` of a little-endian number is bit `i % 8` of byte `i / 8`. -/
theorem testBit_leNat (bs : List Byte) : ∀ i, (leNat bs).testBit i = (byteAt bs (i / 8)).getLsbD (i % 8) := by
  induction bs with
  | nil => intro i; simp [leNat, byteAt]
  | cons b bs ih =>
    intro i
    rw [leNat, Nat.add_comm, show 256 = 2 ^ 8 from rfl, Nat.testBit_two_pow_mul_add _ b.isLt]
    by_cases h : i < 8
    · simp [h, byteAt, BitVec.getLsbD, Nat.div_eq_of_lt h, Nat.mod_eq_of_lt h]
    · have hbyte : i / 8 = (i - 8) / 8 + 1 := by omega
      have hbit : i % 8 = (i - 8) % 8 := by omega
      rw [if_neg h, ih, hbyte, hbit]
      rfl

/-- Bit `j` of byte `k` of a number is its bit `8 * k + j`. -/
theorem getLsbD_byteAt_leBytes {j : Nat} (hj : j < 8) {n : Nat} : ∀ {k : Nat} (x : Nat), k < n →
    (byteAt (leBytes n x) k).getLsbD j = x.testBit (8 * k + j) := by
  induction n with
  | zero => omega
  | succ n ih =>
    intro k x hk
    cases k with
    | zero => simp [byteAt, leBytes, BitVec.getLsbD_ofNat, hj, -BitVec.getLsbD_eq_getElem]
    | succ k =>
      have hindex : 8 * (k + 1) + j = 8 * k + j + 8 := by omega
      rw [hindex, Nat.testBit_add, ← ih (x / 2 ^ 8) (by omega)]
      rfl

theorem byteAt_map (f : Byte → Byte) (bs : List Byte) {k : Nat} (hk : k < bs.length) :
    byteAt (bs.map f) k = f (byteAt bs k) := by
  simp [byteAt, hk]

/-- BREV.W moves bit `31 - i` to bit `i`. -/
theorem getLsbD_revWord (x : Word) {i : Nat} (hi : i < 32) : (wd (revBits 32 x.toNat)).getLsbD i = x.getLsbD (31 - i) := by
  rw [wd, BitVec.getLsbD_ofNat, testBit_revBits hi]
  simp [hi, BitVec.getLsbD]

/-- BREV.B moves bit `7 - i % 8` of each byte to bit `i % 8` of the same byte. -/
theorem getLsbD_revBytesBits (x : Word) {i : Nat} (hi : i < 32) :
    (revBytesBits x).getLsbD i = x.getLsbD (i / 8 * 8 + (7 - i % 8)) := by
  have hbyte : i / 8 < 4 := by omega
  have hbit : i % 8 < 8 := Nat.mod_lt _ (by decide)
  have hlen : i / 8 < (leBytes 4 x.toNat).length := by rwa [length_leBytes]
  have hrev : (BitVec.ofNat 8 (revBits 8 (byteAt (leBytes 4 x.toNat) (i / 8)).toNat)).getLsbD (i % 8) =
      x.toNat.testBit (8 * (i / 8) + (7 - i % 8)) := by
    rw [BitVec.getLsbD_ofNat, testBit_revBits hbit, ← getLsbD_byteAt_leBytes (by omega) _ hbyte]
    simp [hbit, BitVec.getLsbD]
  rw [revBytesBits, wd, BitVec.getLsbD_ofNat, testBit_leNat, byteAt_map _ _ hlen, hrev, Nat.mul_comm]
  simp [hi, BitVec.getLsbD]

/-- Settles O15: each of the three instructions is one legal register write, and the values written are those of R62, bit
by bit. -/
theorem parityAndReversal : Obligations.ParityAndReversal := by
  unfold Obligations.ParityAndReversal
  refine ⟨fun x => wd (revBits 32 x.toNat), revBytesBits, fun n gd gs => ⟨?par, ?brevW, ?brevB⟩,
    fun x i => getLsbD_revWord x i.isLt, fun x i => getLsbD_revBytesBits x i.isLt, by decide, by decide⟩
  case par => exact computes_of_alu (fun c => wd_popcount_mod_two (c.reg gs)) fun _ => rfl
  case brevW => exact computes_of_alu (fun _ => rfl) fun _ => rfl
  case brevB => exact computes_of_alu (fun _ => rfl) fun _ => rfl

end Sys2Proof.Machine
end
